-- ==== Sys2Proof/Word.lean ====
section
/-! DEFINITION. The word types of the YQ96: bytes, little-endian words and the wide register of spec/06 R159. -/
namespace Sys2Proof

abbrev Byte := BitVec 8
abbrev W16 := BitVec 16
abbrev W32 := BitVec 32
abbrev W64 := BitVec 64
abbrev W128 := BitVec 128
/-- 64 bytes: an entry, a descriptor, a line, a key slot. -/
abbrev W512 := BitVec 512
/-- A wide register (R159). -/
abbrev Wide := BitVec 4096
/-- Number of a scalar register g0 to g31. -/
abbrev GReg := BitVec 5
/-- Number of a wide register w0 to w15. -/
abbrev WReg := BitVec 4

end Sys2Proof
end

