-- ==== Sys2Proof/Machine/Bits.lean ====
section
/-! DEFINITION. Byte order (R15), bit fields, sign extension, saturating counters and CRCs used by every chapter. -/
namespace Sys2Proof.Machine

/-- Bits [hi:lo] of a word, as a number. -/
def bits {n : Nat} (w : BitVec n) (lo len : Nat) : Nat := (w.toNat >>> lo) % 2 ^ len

/-- Little-endian value of a byte list (R15). -/
def leNat : List Byte → Nat
  | [] => 0
  | b :: bs => b.toNat + 256 * leNat bs

/-- `n` little-endian bytes of a number (R15). -/
def leBytes : Nat → Nat → List Byte
  | 0, _ => []
  | n + 1, x => BitVec.ofNat 8 x :: leBytes n (x / 256)

def bytesOf {n : Nat} (w : BitVec n) : List Byte := leBytes (n / 8) w.toNat

/-- `len` bytes of `bs` from `off`, zero beyond its end. -/
def slice (bs : List Byte) (off len : Nat) : List Byte :=
  let t := (bs.drop off).take len
  t ++ List.replicate (len - t.length) 0

/-- Little-endian field of `len` bytes at `off` of a byte string. -/
def fieldLE (bs : List Byte) (off len : Nat) : Nat := leNat (slice bs off len)

/-- Sign extension of the low `n` bits of `x` to an integer. -/
def sextNat (n x : Nat) : Int :=
  let y := x % 2 ^ n
  if n = 0 then 0 else if y < 2 ^ (n - 1) then (y : Int) else (y : Int) - (2 : Int) ^ n

/-- The low `n` bits of an integer, as a number. -/
def wrapInt (n : Nat) (x : Int) : Nat := (x % (2 : Int) ^ n).toNat

/-- Counters of the register map hold at 0xFFFF_FFFF. -/
def satInc (x : W32) : W32 := if x = BitVec.allOnes 32 then x else x + 1

def satAdd (x : W32) (n : Nat) : W32 := BitVec.ofNat 32 (min (x.toNat + n) (2 ^ 32 - 1))

def roundUp (x a : Nat) : Nat := if a = 0 then x else (x + a - 1) / a * a

def ceilDiv (x a : Nat) : Nat := if a = 0 then 0 else (x + a - 1) / a

/-- All bytes zero (reserved fields). -/
def allZero (bs : List Byte) : Bool := bs.all (fun b => b == 0)

/-- Parity of a number's bits below `n`. -/
def parityBits : Nat → Nat → Bool
  | 0, _ => false
  | n + 1, x => xor (x % 2 == 1) (parityBits n (x / 2))

/-- Set bits of a number below `n`. -/
def popCount : Nat → Nat → Nat
  | 0, _ => 0
  | n + 1, x => x % 2 + popCount n (x / 2)

/-- floor(log2 x) + 1, and 0 for 0: the width of a residue (R42). -/
def bitWidth : Nat → Nat → Nat
  | 0, _ => 0
  | n + 1, x => if x = 0 then 0 else 1 + bitWidth n (x / 2)

/-- One bit of a reflected CRC-32C step (R45). -/
def crc32cBit (c : BitVec 32) : BitVec 32 :=
  if c.getLsbD 0 then (c >>> 1) ^^^ 0x82F63B78#32 else c >>> 1

def crc32cByte (c : BitVec 32) (b : Byte) : BitVec 32 :=
  let x := c ^^^ b.setWidth 32
  crc32cBit (crc32cBit (crc32cBit (crc32cBit (crc32cBit (crc32cBit (crc32cBit (crc32cBit x)))))))

/-- CRC-32C (R45): polynomial 0x1EDC_6F41 reflected, initial value and final XOR all ones. -/
def crc32c (bs : List Byte) : BitVec 32 := (bs.foldl crc32cByte (BitVec.allOnes 32)) ^^^ BitVec.allOnes 32

def pecBit (c : Byte) : Byte := if c.getLsbD 7 then (c <<< 1) ^^^ 0x07#8 else c <<< 1

/-- The SMBus CRC-8 of R425: polynomial x^8 + x^2 + x + 1, initial value 0. -/
def pec (bs : List Byte) : Byte :=
  bs.foldl (fun c b => pecBit (pecBit (pecBit (pecBit (pecBit (pecBit (pecBit (pecBit (c ^^^ b))))))))) 0

/-- ASCII bytes of a label. -/
def ascii (s : String) : List Byte := s.toList.map (fun c => BitVec.ofNat 8 c.toNat)

end Sys2Proof.Machine
end

