-- ==== Sys2Proof/Syntax.lean ====
section
/-! DEFINITION. The commands of the YQ96 block: one constructor of `Instr` for each row of spec/opcode_table.json, with its operands.
Where a row is an instruction of a core, `c` is the core that issues it (0 to 95 query cores, 96 and 97 the supervisor pair).
Where a step of the engine reads bytes from the host, a link or a sensor, those bytes are operands. -/
namespace Sys2Proof

/-- The variants of R2. -/
inductive Variant | a | b | c
deriving DecidableEq, Repr

/-- The temperature grades of R3. -/
inductive Grade | s | e
deriving DecidableEq, Repr

/-- A page of a segment (R332): its stripe row, and 0 to 15 for a data page of it or 16 for the parity page. -/
structure PageAt where
  row : Nat
  page : Nat
deriving DecidableEq, Repr

/-- What fails on the flash path: a die whole (R344), one block of a die (R345), or the cipher unit of a flash channel (R374). -/
inductive DieFault | whole (d : Nat) | block (d : Nat) | cipher (ch : Nat)
deriving DecidableEq, Repr

/-- What is lost on the memory path: a channel (R328), or the cipher unit of a controller (R374). -/
inductive ChanLoss | chan (ch : Nat) | cipher (c : Nat)
deriving DecidableEq, Repr

/-- A read of a sealed segment: its SEQ, and its pages found failing their code (R344, R346). -/
structure SegRead where
  seq : Nat
  bad : List PageAt
deriving DecidableEq, Repr

/-- Copies that recovery finds on flash with a digest that does not check (R335, R343): of seals by segment SEQ and copy, of headers by owner and copy. -/
structure Damage where
  seals : List (Nat × Nat)
  headers : List (Nat × Nat)
deriving DecidableEq, Repr

/-- The rails of R412, in the order of R413. -/
inductive Rail | vaux | vana | vio | vcore
deriving DecidableEq, Repr

/-- How a rail falls (R414): below 10 %, with or without a later rail above 10 % for more than 10 ms; or out of its limits for more than 100 µs. -/
inductive FallKind | below (laterStays : Bool) | limits
deriving DecidableEq, Repr

/-- A lane's eye after a sweep (R324): controller, lane index k of R331, the LO and HI steps. -/
structure Eye where
  ctl : Nat
  k : Nat
  rdLo : BitVec 6
  rdHi : BitVec 6
  wrLo : BitVec 6
  wrHi : BitVec 6
deriving DecidableEq, Repr

inductive HostPort | a | b
deriving DecidableEq, Repr

/-- A trained host link (R250): RATE 1 to 5, WIDTH 1, 4, 8 or 16. -/
structure LinkInfo where
  rate : BitVec 3
  width : BitVec 5
deriving DecidableEq, Repr

/-- A PCIe function: PF0, PF1, or the virtual function of an owner's partition `i` (0 to 23). -/
inductive Fn | pf0 | pf1 | vf (i : Nat)
deriving DecidableEq, Repr

/-- A received Ethernet frame (R285, R287): whether its FCS is good, its size from destination address through FCS, its EtherType,
its source address and its payload. -/
structure Frame where
  fcsOk : Bool
  size : Nat
  etherType : W16
  src : BitVec 48
  payload : List Byte
deriving DecidableEq, Repr

/-- A host culvert buffer's link header as read (R62, R261): address, NEXT and CAP. -/
structure HostBuf where
  addr : W64
  next : W64
  cap : W32
deriving DecidableEq, Repr

inductive UnitKind | codec | digest
deriving DecidableEq, Repr

/-- A symbol that differs from what was stored in a row (R312): line 0 to 29 and position 0 to 33, or line 30 for the seal and position 0 to 3. -/
structure Upset where
  row : Nat
  line : Nat
  pos : Nat
  val : W16
deriving DecidableEq, Repr

/-- First failing element of a self-test (R279): ELEMENT 1 to 7 and its INDEX, and what a failed memory test read wrong (channel and symbols) or a
failed flash test could not read (segment and page). -/
structure TestFail where
  element : BitVec 16
  index : W32
  upsets : List (Nat × Upset)
  pages : List (Nat × PageAt)
deriving DecidableEq, Repr

/-- The MR4 readout classes of R321. -/
inductive TempClass | cool | warm | hot
deriving DecidableEq, Repr

/-- What Lantern reads at a sample (R397 to R399): µJ on the five rails since the last sample, mW of each and the six sensors. -/
structure Sensors where
  railUJ : List Nat
  railMW : List (BitVec 20)
  temps : List W16
deriving DecidableEq, Repr

/-- imm[7:6] of SHIFTI (R140). -/
inductive ShiftKind | shl | shr | sar | ror
deriving DecidableEq, Repr

/-- Packed sizes (R153). -/
inductive PSize | b | h | w
deriving DecidableEq, Repr

/-- Wide element sizes, the sz field of R168. -/
inductive WSize | b | h | w | d
deriving DecidableEq, Repr

/-- Second operand of a row marked S in R170: a register, or the scalar form. -/
inductive WSrc | vec (wb : WReg) | scl (gs : GReg)
deriving DecidableEq, Repr

/-- The function units of R163. -/
inductive WUnit | ls | al | mu | px
deriving DecidableEq, Repr

/-- The commands: a core's instructions and events first, then the steps of the other engines, each group in the order of the opcode table,
and last the commands without operands. -/
inductive Instr where
  /-- TAKE (R116). -/
  | take (c : Nat)
  /-- POST (R116). -/
  | post (c : Nat) (sel : Bool) (ra rb : GReg)
  /-- POST_RESUME (R119). -/
  | postResume (c : Nat)
  /-- SIGNAL (R116). -/
  | signal (c : Nat) (ra rb : GReg)
  /-- DONE (R118). -/
  | doneItem (c : Nat) (ra rb : GReg)
  /-- PARK (R112). -/
  | park (c : Nat) (ra rb : GReg)
  /-- DONE_FAIL (R116). -/
  | doneFail (c : Nat) (ra rb : GReg)
  /-- DSEND (R152). -/
  | dsend (c : Nat) (ra : GReg) (x : Byte)
  /-- DSEND_RESUME (R119). -/
  | dsendResume (c : Nat)
  /-- CORE_FAULT (R121). -/
  | coreFault (c : Nat)
  /-- PROGRESS_MONITOR_EXPIRY (R392). -/
  | progressMonitorExpiry (c : Nat)
  /-- CD_SUBMIT (R52). -/
  | cdSubmit (c : Nat) (rs base : GReg) (imm : W16)
  /-- CD_SUBMIT_RESUME (R53). -/
  | cdSubmitResume (c : Nat)
  /-- DG_SUBMIT (R358). -/
  | dgSubmit (c : Nat) (rs base : GReg) (imm : W16)
  /-- CACHE_MISS_FILL (R212). -/
  | cacheMissFill (c : Nat) (upsets : List Upset)
  /-- STREAMER_FETCH (R149). -/
  | streamerFetch (c : Nat)
  /-- WIDE_UNIT_COMPLETE (R165). -/
  | wideUnitComplete (c : Nat) (u : WUnit)
  /-- INTERRUPT (R203). -/
  | interrupt (c : Nat)
  /-- IC_TIMER_EXPIRY (R207). -/
  | icTimerExpiry (c : Nat)
  /-- CR_IC_CLAIM (R205). -/
  | crIcClaim (c : Nat) (rd : GReg)
  /-- CR_IC_DONE (R205). -/
  | crIcDone (c : Nat) (rs : GReg)
  /-- CR_IC_SWSET (R208). -/
  | crIcSwset (c : Nat) (rs : GReg)
  /-- CR_IC_TIMER_WRITE (R207). -/
  | crIcTimerWrite (c : Nat) (rs : GReg)
  /-- ADD (R138). -/
  | add (c : Nat) (rd ra rb : GReg)
  /-- SUB (R138). -/
  | sub (c : Nat) (rd ra rb : GReg)
  /-- AND (R138). -/
  | and (c : Nat) (rd ra rb : GReg)
  /-- OR (R138). -/
  | or (c : Nat) (rd ra rb : GReg)
  /-- XOR (R138). -/
  | xor (c : Nat) (rd ra rb : GReg)
  /-- ANDN (R138). -/
  | andn (c : Nat) (rd ra rb : GReg)
  /-- SHL (R138). -/
  | shl (c : Nat) (rd ra rb : GReg)
  /-- SHR (R138). -/
  | shr (c : Nat) (rd ra rb : GReg)
  /-- SAR (R138). -/
  | sar (c : Nat) (rd ra rb : GReg)
  /-- ROR (R138). -/
  | ror (c : Nat) (rd ra rb : GReg)
  /-- SLT (R138). -/
  | slt (c : Nat) (rd ra rb : GReg)
  /-- SLTU (R138). -/
  | sltu (c : Nat) (rd ra rb : GReg)
  /-- MIN (R138). -/
  | min (c : Nat) (rd ra rb : GReg)
  /-- MAX (R138). -/
  | max (c : Nat) (rd ra rb : GReg)
  /-- MINU (R138). -/
  | minu (c : Nat) (rd ra rb : GReg)
  /-- MAXU (R138). -/
  | maxu (c : Nat) (rd ra rb : GReg)
  /-- MUL (R138). -/
  | mul (c : Nat) (rd ra rb : GReg)
  /-- MULH (R138). -/
  | mulh (c : Nat) (rd ra rb : GReg)
  /-- MULHU (R138). -/
  | mulhu (c : Nat) (rd ra rb : GReg)
  /-- DIV (R139). -/
  | div (c : Nat) (rd ra rb : GReg)
  /-- DIVU (R139). -/
  | divu (c : Nat) (rd ra rb : GReg)
  /-- REM (R139). -/
  | rem (c : Nat) (rd ra rb : GReg)
  /-- REMU (R139). -/
  | remu (c : Nat) (rd ra rb : GReg)
  /-- CLZ (R138). -/
  | clz (c : Nat) (rd ra : GReg)
  /-- CTZ (R138). -/
  | ctz (c : Nat) (rd ra : GReg)
  /-- POPC (R138). -/
  | popc (c : Nat) (rd ra : GReg)
  /-- BSWAP (R138). -/
  | bswap (c : Nat) (rd ra : GReg)
  /-- SELNZ (R138). -/
  | selnz (c : Nat) (rd ra rb : GReg)
  /-- ADDI (R140). -/
  | addi (c : Nat) (rd ra : GReg) (imm : W16)
  /-- ANDI (R140). -/
  | andi (c : Nat) (rd ra : GReg) (imm : W16)
  /-- ORI (R140). -/
  | ori (c : Nat) (rd ra : GReg) (imm : W16)
  /-- XORI (R140). -/
  | xori (c : Nat) (rd ra : GReg) (imm : W16)
  /-- SLTI (R140). -/
  | slti (c : Nat) (rd ra : GReg) (imm : W16)
  /-- SLTIU (R140). -/
  | sltiu (c : Nat) (rd ra : GReg) (imm : W16)
  /-- SHIFTI (R140). -/
  | shifti (c : Nat) (rd ra : GReg) (k : ShiftKind) (n : BitVec 6)
  /-- MOVI (R140). -/
  | movi (c : Nat) (rd : GReg) (imm : W16)
  /-- SHORI (R140). -/
  | shori (c : Nat) (rd : GReg) (imm : W16)
  /-- LDB (R147). -/
  | ldb (c : Nat) (rd base : GReg) (imm : W16)
  /-- LDBU (R147). -/
  | ldbu (c : Nat) (rd base : GReg) (imm : W16)
  /-- LDH (R147). -/
  | ldh (c : Nat) (rd base : GReg) (imm : W16)
  /-- LDHU (R147). -/
  | ldhu (c : Nat) (rd base : GReg) (imm : W16)
  /-- LDW (R147). -/
  | ldw (c : Nat) (rd base : GReg) (imm : W16)
  /-- LDWU (R147). -/
  | ldwu (c : Nat) (rd base : GReg) (imm : W16)
  /-- LDD (R147). -/
  | ldd (c : Nat) (rd base : GReg) (imm : W16)
  /-- STB (R147). -/
  | stb (c : Nat) (rs base : GReg) (imm : W16)
  /-- STH (R147). -/
  | sth (c : Nat) (rs base : GReg) (imm : W16)
  /-- STW (R147). -/
  | stw (c : Nat) (rs base : GReg) (imm : W16)
  /-- STD (R147). -/
  | std (c : Nat) (rs base : GReg) (imm : W16)
  /-- AMOADD (R148). -/
  | amoadd (c : Nat) (rd ra rb : GReg)
  /-- AMOSWAP (R148). -/
  | amoswap (c : Nat) (rd ra rb : GReg)
  /-- AMOCAS (R148). -/
  | amocas (c : Nat) (rd ra rb : GReg)
  /-- AMOAND (R148). -/
  | amoand (c : Nat) (rd ra rb : GReg)
  /-- AMOOR (R148). -/
  | amoor (c : Nat) (rd ra rb : GReg)
  /-- AMOMAX (R148). -/
  | amomax (c : Nat) (rd ra rb : GReg)
  /-- AMOMIN (R148). -/
  | amomin (c : Nat) (rd ra rb : GReg)
  /-- ZLINE (R149). -/
  | zline (c : Nat) (ra : GReg)
  /-- CWB (R149). -/
  | cwb (c : Nat) (ra : GReg)
  /-- CINV (R149). -/
  | cinv (c : Nat) (ra : GReg)
  /-- CWBI (R149). -/
  | cwbi (c : Nat) (ra : GReg)
  /-- STRM (R149). -/
  | strm (c : Nat) (ra rb : GReg)
  /-- SYNC (R149). -/
  | sync (c : Nat)
  /-- IINVALL (R149). -/
  | iinvall (c : Nat)
  /-- BEQ (R141). -/
  | beq (c : Nat) (ra rb : GReg) (off : W16)
  /-- BNE (R141). -/
  | bne (c : Nat) (ra rb : GReg) (off : W16)
  /-- BLT (R141). -/
  | blt (c : Nat) (ra rb : GReg) (off : W16)
  /-- BGE (R141). -/
  | bge (c : Nat) (ra rb : GReg) (off : W16)
  /-- BLTU (R141). -/
  | bltu (c : Nat) (ra rb : GReg) (off : W16)
  /-- BGEU (R141). -/
  | bgeu (c : Nat) (ra rb : GReg) (off : W16)
  /-- JMP (R141). -/
  | jmp (c : Nat) (off : BitVec 26)
  /-- CALL (R141). -/
  | call (c : Nat) (off : BitVec 26)
  /-- JR (R141). -/
  | jr (c : Nat) (ra : GReg)
  /-- CALLR (R141). -/
  | callr (c : Nat) (ra : GReg)
  /-- LOOP (R144). -/
  | loop (c : Nat) (ra : GReg) (len : W16)
  /-- LOOPI (R144). -/
  | loopi (c : Nat) (count : BitVec 10) (len : W16)
  /-- MFS (R150). -/
  | mfs (c : Nat) (rd : GReg) (imm : W16)
  /-- MTS (R150). -/
  | mts (c : Nat) (rs : GReg) (imm : W16)
  /-- CGET (R150). -/
  | cget (c : Nat) (rd : GReg) (imm : W16)
  /-- CPUT (R150). -/
  | cput (c : Nat) (rs : GReg) (imm : W16)
  /-- GATE (R200). -/
  | gate (c : Nat) (n : Byte)
  /-- GRET (R197). -/
  | gret (c : Nat)
  /-- WAIT (R143). -/
  | waitIrq (c : Nat)
  /-- PADD (R154). -/
  | padd (c : Nat) (sz : PSize) (rd ra rb : GReg)
  /-- PSUB (R154). -/
  | psub (c : Nat) (sz : PSize) (rd ra rb : GReg)
  /-- PADDS (R154). -/
  | padds (c : Nat) (sz : PSize) (rd ra rb : GReg)
  /-- PSUBS (R154). -/
  | psubs (c : Nat) (sz : PSize) (rd ra rb : GReg)
  /-- PADDUS (R154). -/
  | paddus (c : Nat) (sz : PSize) (rd ra rb : GReg)
  /-- PSUBUS (R154). -/
  | psubus (c : Nat) (sz : PSize) (rd ra rb : GReg)
  /-- PAVGU (R154). -/
  | pavgu (c : Nat) (sz : PSize) (rd ra rb : GReg)
  /-- PMINS (R154). -/
  | pmins (c : Nat) (sz : PSize) (rd ra rb : GReg)
  /-- PMAXS (R154). -/
  | pmaxs (c : Nat) (sz : PSize) (rd ra rb : GReg)
  /-- PMINU (R154). -/
  | pminu (c : Nat) (sz : PSize) (rd ra rb : GReg)
  /-- PMAXU (R154). -/
  | pmaxu (c : Nat) (sz : PSize) (rd ra rb : GReg)
  /-- PCMPEQ (R154). -/
  | pcmpeq (c : Nat) (sz : PSize) (rd ra rb : GReg)
  /-- PCMPGT (R154). -/
  | pcmpgt (c : Nat) (sz : PSize) (rd ra rb : GReg)
  /-- PCMPGTU (R154). -/
  | pcmpgtu (c : Nat) (sz : PSize) (rd ra rb : GReg)
  /-- PMUL (R154). -/
  | pmul (c : Nat) (sz : PSize) (rd ra rb : GReg)
  /-- PMULHRS (R154). -/
  | pmulhrs (c : Nat) (sz : PSize) (rd ra rb : GReg)
  /-- PMADD (R154). -/
  | pmadd (c : Nat) (sz : PSize) (rd ra rb : GReg)
  /-- PABS (R154). -/
  | pabs (c : Nat) (sz : PSize) (rd ra : GReg)
  /-- PSHLI (R154). -/
  | pshli (c : Nat) (sz : PSize) (rd ra : GReg) (n : BitVec 5)
  /-- PSHRI (R154). -/
  | pshri (c : Nat) (sz : PSize) (rd ra : GReg) (n : BitVec 5)
  /-- PSARI (R154). -/
  | psari (c : Nat) (sz : PSize) (rd ra : GReg) (n : BitVec 5)
  /-- PSRARI (R154). -/
  | psrari (c : Nat) (sz : PSize) (rd ra : GReg) (n : BitVec 5)
  /-- PPACKS (R154). -/
  | ppacks (c : Nat) (sz : PSize) (rd ra rb : GReg)
  /-- PPACKUS (R154). -/
  | ppackus (c : Nat) (sz : PSize) (rd ra rb : GReg)
  /-- PUNPKLO (R154). -/
  | punpklo (c : Nat) (sz : PSize) (rd ra rb : GReg)
  /-- PUNPKHI (R154). -/
  | punpkhi (c : Nat) (sz : PSize) (rd ra rb : GReg)
  /-- WADD (R170). -/
  | wadd (c : Nat) (sz : WSize) (wd wa : WReg) (b : WSrc)
  /-- WSUB (R170). -/
  | wsub (c : Nat) (sz : WSize) (wd wa : WReg) (b : WSrc)
  /-- WAND (R170). -/
  | wand (c : Nat) (sz : WSize) (wd wa : WReg) (b : WSrc)
  /-- WOR (R170). -/
  | wor (c : Nat) (sz : WSize) (wd wa : WReg) (b : WSrc)
  /-- WXOR (R170). -/
  | wxor (c : Nat) (sz : WSize) (wd wa : WReg) (b : WSrc)
  /-- WANDN (R170). -/
  | wandn (c : Nat) (sz : WSize) (wd wa : WReg) (b : WSrc)
  /-- WMIN (R170). -/
  | wmin (c : Nat) (sz : WSize) (wd wa : WReg) (b : WSrc)
  /-- WMAX (R170). -/
  | wmax (c : Nat) (sz : WSize) (wd wa : WReg) (b : WSrc)
  /-- WMINU (R170). -/
  | wminu (c : Nat) (sz : WSize) (wd wa : WReg) (b : WSrc)
  /-- WMAXU (R170). -/
  | wmaxu (c : Nat) (sz : WSize) (wd wa : WReg) (b : WSrc)
  /-- WMUL (R170). -/
  | wmul (c : Nat) (sz : WSize) (wd wa : WReg) (b : WSrc)
  /-- WSHL (R170). -/
  | wshl (c : Nat) (sz : WSize) (wd wa : WReg) (b : WSrc)
  /-- WSHR (R170). -/
  | wshr (c : Nat) (sz : WSize) (wd wa : WReg) (b : WSrc)
  /-- WSAR (R170). -/
  | wsar (c : Nat) (sz : WSize) (wd wa : WReg) (b : WSrc)
  /-- WMULW (R170). -/
  | wmulw (c : Nat) (sz : WSize) (wd wa wb : WReg)
  /-- WMULWU (R170). -/
  | wmulwu (c : Nat) (sz : WSize) (wd wa wb : WReg)
  /-- WMACW (R170). -/
  | wmacw (c : Nat) (sz : WSize) (wd wa wb : WReg)
  /-- WMACWU (R170). -/
  | wmacwu (c : Nat) (sz : WSize) (wd wa wb : WReg)
  /-- WDOT (R170). -/
  | wdot (c : Nat) (sz : WSize) (wd wa wb : WReg)
  /-- WDOTU (R170). -/
  | wdotu (c : Nat) (sz : WSize) (wd wa wb : WReg)
  /-- WCEQ (R171). -/
  | wceq (c : Nat) (sz : WSize) (wd wa : WReg) (b : WSrc)
  /-- WCNE (R171). -/
  | wcne (c : Nat) (sz : WSize) (wd wa : WReg) (b : WSrc)
  /-- WCLT (R171). -/
  | wclt (c : Nat) (sz : WSize) (wd wa : WReg) (b : WSrc)
  /-- WCGE (R171). -/
  | wcge (c : Nat) (sz : WSize) (wd wa : WReg) (b : WSrc)
  /-- WCLTU (R171). -/
  | wcltu (c : Nat) (sz : WSize) (wd wa : WReg) (b : WSrc)
  /-- WCGEU (R171). -/
  | wcgeu (c : Nat) (sz : WSize) (wd wa : WReg) (b : WSrc)
  /-- WCGT (R171). -/
  | wcgt (c : Nat) (sz : WSize) (wd wa : WReg) (b : WSrc)
  /-- WCLE (R171). -/
  | wcle (c : Nat) (sz : WSize) (wd wa : WReg) (b : WSrc)
  /-- WCGTU (R171). -/
  | wcgtu (c : Nat) (sz : WSize) (wd wa : WReg) (b : WSrc)
  /-- WCLEU (R171). -/
  | wcleu (c : Nat) (sz : WSize) (wd wa : WReg) (b : WSrc)
  /-- WBAND (R170). -/
  | wband (c : Nat) (wd wa wb : WReg)
  /-- WBOR (R170). -/
  | wbor (c : Nat) (wd wa wb : WReg)
  /-- WBANDN (R170). -/
  | wbandn (c : Nat) (wd wa wb : WReg)
  /-- WBCNT (R170). -/
  | wbcnt (c : Nat) (wa : WReg) (gs : GReg)
  /-- WCOMPRESS (R172). -/
  | wcompress (c : Nat) (sz : WSize) (wd wa wb : WReg) (gs : GReg)
  /-- WIOTA (R170). -/
  | wiota (c : Nat) (sz : WSize) (wd : WReg) (gs : GReg)
  /-- WBCAST (R170). -/
  | wbcast (c : Nat) (sz : WSize) (wd : WReg) (gs : GReg)
  /-- WPERM (R170). -/
  | wperm (c : Nat) (sz : WSize) (wd wa wb : WReg)
  /-- WSCAN (R170). -/
  | wscan (c : Nat) (sz : WSize) (wd wa : WReg) (gs : GReg)
  /-- WREDADD (R170). -/
  | wredadd (c : Nat) (sz : WSize) (wa : WReg) (gs : GReg)
  /-- WREDADDU (R170). -/
  | wredaddu (c : Nat) (sz : WSize) (wa : WReg) (gs : GReg)
  /-- WREDMIN (R170). -/
  | wredmin (c : Nat) (sz : WSize) (wa : WReg) (gs : GReg)
  /-- WREDMAX (R170). -/
  | wredmax (c : Nat) (sz : WSize) (wa : WReg) (gs : GReg)
  /-- WREDMINU (R170). -/
  | wredminu (c : Nat) (sz : WSize) (wa : WReg) (gs : GReg)
  /-- WREDMAXU (R170). -/
  | wredmaxu (c : Nat) (sz : WSize) (wa : WReg) (gs : GReg)
  /-- WREDADD128 (R170). -/
  | wredadd128 (c : Nat) (sz : WSize) (wa : WReg) (gs : GReg)
  /-- WHASH (R173). -/
  | whash (c : Nat) (sz : WSize) (wd wa : WReg) (gs : GReg)
  /-- WFREDADD (R174). -/
  | wfredadd (c : Nat) (sz : WSize) (wa : WReg) (gs : GReg)
  /-- WFADD (R174). -/
  | wfadd (c : Nat) (sz : WSize) (wd wa : WReg) (b : WSrc)
  /-- WFSUB (R174). -/
  | wfsub (c : Nat) (sz : WSize) (wd wa : WReg) (b : WSrc)
  /-- WFMUL (R174). -/
  | wfmul (c : Nat) (sz : WSize) (wd wa : WReg) (b : WSrc)
  /-- WFMIN (R174). -/
  | wfmin (c : Nat) (sz : WSize) (wd wa : WReg) (b : WSrc)
  /-- WFMAX (R174). -/
  | wfmax (c : Nat) (sz : WSize) (wd wa : WReg) (b : WSrc)
  /-- WFCLT (R174). -/
  | wfclt (c : Nat) (sz : WSize) (wd wa : WReg) (b : WSrc)
  /-- WFCLE (R174). -/
  | wfcle (c : Nat) (sz : WSize) (wd wa : WReg) (b : WSrc)
  /-- WFCEQ (R174). -/
  | wfceq (c : Nat) (sz : WSize) (wd wa : WReg) (b : WSrc)
  /-- WSHLI (R175). -/
  | wshli (c : Nat) (sz : WSize) (wd wa : WReg) (n : Byte)
  /-- WSHRI (R175). -/
  | wshri (c : Nat) (sz : WSize) (wd wa : WReg) (n : Byte)
  /-- WSARI (R175). -/
  | wsari (c : Nat) (sz : WSize) (wd wa : WReg) (n : Byte)
  /-- WTRANS (R175). -/
  | wtrans (c : Nat) (sz : WSize) (wd wa : WReg) (n : Byte)
  /-- WBMRG (R176). -/
  | wbmrg (c : Nat) (sz : WSize) (wd wa : WReg) (d k : BitVec 4)
  /-- WBMRGU (R176). -/
  | wbmrgu (c : Nat) (sz : WSize) (wd wa : WReg) (d k : BitVec 4)
  /-- WSLIDE (R175). -/
  | wslide (c : Nat) (sz : WSize) (wd wa wb : WReg) (n : Byte)
  /-- WLD (R177). -/
  | wld (c : Nat) (sz : WSize) (wv : WReg) (ga : GReg)
  /-- WST (R177). -/
  | wst (c : Nat) (sz : WSize) (wv : WReg) (ga : GReg)
  /-- WLDS (R177). -/
  | wlds (c : Nat) (sz : WSize) (wv : WReg) (ga : GReg) (gb : GReg)
  /-- WSTS (R177). -/
  | wsts (c : Nat) (sz : WSize) (wv : WReg) (ga : GReg) (gb : GReg)
  /-- WLDZ (R177). -/
  | wldz (c : Nat) (sz : WSize) (wv : WReg) (ga : GReg)
  /-- WLDX (R177). -/
  | wldx (c : Nat) (sz : WSize) (wv : WReg) (ga : GReg)
  /-- WGATHER (R177). -/
  | wgather (c : Nat) (sz : WSize) (wv wi : WReg) (ga : GReg)
  /-- WSCATTER (R177). -/
  | wscatter (c : Nat) (sz : WSize) (wv wi : WReg) (ga : GReg)
  /-- WCSTORE (R177). -/
  | wcstore (c : Nat) (sz : WSize) (wv wi : WReg) (ga gb : GReg)
  /-- WLDB (R177). -/
  | wldb (c : Nat) (wv : WReg) (ga : GReg)
  /-- WSTB (R177). -/
  | wstb (c : Nat) (wv : WReg) (ga : GReg)
  /-- WMOVX (R179). -/
  | wmovx (c : Nat) (sz : WSize) (w : WReg) (g : GReg) (e : BitVec 9)
  /-- WMOVXS (R179). -/
  | wmovxs (c : Nat) (sz : WSize) (w : WReg) (g : GReg) (e : BitVec 9)
  /-- WINS (R179). -/
  | wins (c : Nat) (sz : WSize) (w : WReg) (g : GReg) (e : BitVec 9)
  /-- WDSEND (R180). -/
  | wdsend (c : Nat) (w : WReg) (x : Byte)
  /-- SUPERVISOR_CORE_FAULT (R189). -/
  | supervisorCoreFault (c : Nat)
  /-- RESERVED_ENCODING (R136). -/
  | reservedEncoding (c : Nat) (w : W32)
  /-- RAIL_RISE (R413). -/
  | railRise (r : Rail)
  /-- RAIL_STABLE (R413). -/
  | railStable (r : Rail)
  /-- RAIL_FALL (R414). -/
  | railFall (r : Rail) (k : FallKind)
  /-- MEMORY_SWEEP_DONE (R324). -/
  | memorySweepDone (eyes : List Eye)
  /-- TRAIN_DONE (R418): links as they trained, the checkpoint areas, 0 or 1, and the copies that recovery finds damaged on flash. -/
  | trainDone (a b : LinkInfo) (areas : List Nat) (d : Damage)
  /-- PW_SETPT_WRITE (R421). -/
  | pwSetptWrite (v : W32)
  /-- FORCE_STILL_EDGE (R421). -/
  | forceStillEdge (low : Bool)
  /-- THERMAL_CAP (R422). -/
  | thermalCap (plate : Bool)
  /-- THERMAL_CAP_RELEASE (R422). -/
  | thermalCapRelease (plate : Bool)
  /-- PW_TOD_SET (R424). -/
  | pwTodSet (v : W64)
  /-- I2C_WRITE (R425). -/
  | i2cWrite (addr : BitVec 7) (index : Byte) (data : List Byte) (pecByte : Option Byte)
  /-- I2C_READ (R425). -/
  | i2cRead (addr : BitVec 7) (index : Byte) (n : Nat) (pecClocked : Bool)
  /-- HOST_LINK_DOWN (R247). -/
  | hostLinkDown (p : HostPort)
  /-- LINK_RETRAIN (R244). -/
  | linkRetrain (p : HostPort) (l : LinkInfo)
  /-- VF_FLR (R248). -/
  | vfFlr (i : Nat)
  /-- PF_FLR (R248). -/
  | pfFlr (p : HostPort)
  /-- RESET_COMPLETE (R247). -/
  | resetComplete (i : Nat)
  /-- VF_DB_SQ (R234). -/
  | vfDbSq (i : Nat) (hint : W32)
  /-- VF_DB_CQ (R240). -/
  | vfDbCq (i : Nat) (hint : W32)
  /-- INDEX_BLOCK_READ (R235). -/
  | indexBlockRead (i : Nat) (sqPi cqCi : W32)
  /-- SQ_FETCH (R235). -/
  | sqFetch (i : Nat) (entries : List W512)
  /-- CQ_FULL_RECHECK (R240). -/
  | cqFullRecheck (i : Nat) (sqPi cqCi : W32)
  /-- COMPLETION_WRITE (R239). -/
  | completionWrite (i : Nat)
  /-- MSIX_MOD_TIMER (R245). -/
  | msixModTimer (i : Nat)
  /-- MSIX_UNMASK (R245). -/
  | msixUnmask (f : Fn) (vec : Nat)
  /-- VF_EVENT_READ (R224). -/
  | vfEventRead (i : Nat)
  /-- REGISTER_WRITE (R13). -/
  | registerWrite (f : Fn) (off : Nat) (v : W32)
  /-- APPEND (R260). -/
  | append (descs : List W128)
  /-- HOST_APPEND_PIECE_READ (R20). -/
  | hostAppendPieceRead (i : Nat) (bytes : List Byte)
  /-- ABORT (R272). -/
  | abort (i : Nat)
  /-- QUERY_RUN (R81). -/
  | queryRun (params : List Byte)
  /-- IMAGE_LOAD (R78). -/
  | imageLoad (image : List Byte)
  /-- TABLE_CREATE (R263). -/
  | tableCreate (schema : List Byte)
  /-- SELFTEST_END (R279). -/
  | selftestEnd (failed : Option TestFail)
  /-- FW_DOWNLOAD (R266). -/
  | fwDownload (bytes : List Byte)
  /-- FW_SWITCH (R274). -/
  | fwSwitch (startsOk : Bool)
  /-- OPEN (R292). -/
  | openFrame (p : Nat) (f : Frame)
  /-- OPEN_ACK (R292). -/
  | openAck (p : Nat)
  /-- PENDING_SESSION_LAPSE (R292). -/
  | pendingSessionLapse (p : Nat)
  /-- APPEND_FRAME (R302). -/
  | appendFrame (p : Nat) (f : Frame)
  /-- FLUSH_FRAME (R298). -/
  | flushFrame (p : Nat) (f : Frame)
  /-- ABORT_FRAME (R303). -/
  | abortFrame (p : Nat) (f : Frame)
  /-- DATA (R301). -/
  | dataFrame (p : Nat) (f : Frame)
  /-- STATUS_QUERY (R297). -/
  | statusQuery (p : Nat) (f : Frame)
  /-- KEEPALIVE (R295). -/
  | keepalive (p : Nat) (f : Frame)
  /-- GRANT_TIMER_EXPIRY (R302). -/
  | grantTimerExpiry (p tag : Nat)
  /-- KEEPALIVE_SEND (R295). -/
  | keepaliveSend (p : Nat)
  /-- KEEPALIVE_TIMEOUT (R295). -/
  | keepaliveTimeout (p : Nat)
  /-- LANE_FAULT (R284). -/
  | laneFault (p : Nat)
  /-- FIELD_LINK_UP (R284). -/
  | fieldLinkUp (p : Nat)
  /-- FIELD_LINK_DOWN (R295). -/
  | fieldLinkDown (p : Nat)
  /-- COMMIT (R118). -/
  | commit (slot : Nat)
  /-- ROOT_ITEM_CREATE (R83). -/
  | rootItemCreate (ctx : Nat)
  /-- FLUME_ITEM_CREATE (R83). -/
  | flumeItemCreate (f : Nat)
  /-- EXCH_ITEM_CREATE (R83). -/
  | exchItemCreate (ctx : Nat)
  /-- BARRIER_ITEM_CREATE (R83). -/
  | barrierItemCreate (ctx : Nat)
  /-- FLUME_EXTEND (R120). -/
  | flumeExtend (i : Nat)
  /-- RESULT_WRITE (R103). -/
  | resultWrite (ctx : Nat) (links : List HostBuf)
  /-- QUERY_COMPLETE (R84). -/
  | queryComplete (ctx : Nat)
  /-- SEGMENT_READ_COMPLETE (R350). -/
  | segmentReadComplete (r : SegRead)
  /-- REPLAY_REQUEUE (R121). -/
  | replayRequeue (slot : Nat)
  /-- ENCODE (R44). -/
  | encodeJob (u : Nat)
  /-- SCAN (R57). -/
  | scanJob (u : Nat)
  /-- STREAM (R49). -/
  | streamJob (u : Nat)
  /-- VERIFY (R60). -/
  | verifyJob (u : Nat)
  /-- CODEC_JOB_COMPLETE (R56). -/
  | codecJobComplete (u : Nat)
  /-- CODEC_UNIT_FAULT (R70). -/
  | codecUnitFault (u : Nat)
  /-- UNIT_WATCHDOG_EXPIRY (R393). -/
  | unitWatchdogExpiry (k : UnitKind) (u : Nat)
  /-- DIGEST_JOB (R359). -/
  | digestJob (e : Nat) (blocks : Nat)
  /-- DIGEST_PREEMPT (R365). -/
  | digestPreempt (e : Nat)
  /-- DIGEST_JOB_COMPLETE (R363). -/
  | digestJobComplete (e : Nat)
  /-- DIGEST_ENGINE_FAULT (R368). -/
  | digestEngineFault (e : Nat)
  /-- DG_RES_READ (R370). -/
  | dgResRead (e k : Nat)
  /-- KS_OEK_LOAD (R379). -/
  | ksOekLoad (v : W32)
  /-- SEAL_INTERVAL_EXPIRY (R338). -/
  | sealIntervalExpiry (i : Nat)
  /-- SEGMENT_SEALED (R336). -/
  | segmentSealed (i : Nat)
  /-- DIE_FAIL (R344). -/
  | dieFail (k : DieFault)
  /-- FLASH_READ_SCRUB (R348): a segment read, and whether some page's corrected bits exceed 60 % of the code's strength. -/
  | flashReadScrub (r : SegRead) (weak : Bool)
  /-- GARBAGE_COLLECTION (R349). -/
  | garbageCollection (i : Nat) (seqs : List Nat)
  /-- PATROL_SCRUB (R326). -/
  | patrolScrub (ch : Nat) (upsets : List Upset)
  /-- REFRESH (R321). -/
  | refresh (ch rank : Nat)
  /-- TEMP_READOUT (R321). -/
  | tempReadout (ch rank : Nat) (cls : TempClass)
  /-- ZQ_LATCH (R311). -/
  | zqLatch (ch rank : Nat)
  /-- POWER_DOWN_ENTRY (R322). -/
  | powerDownEntry (ch rank : Nat)
  /-- SELF_REFRESH_ENTRY (R322). -/
  | selfRefreshEntry (ch rank : Nat)
  /-- RESWEEP_DONE (R325). -/
  | resweepDone (eyes : List Eye)
  /-- CHANNEL_LOST (R328). -/
  | channelLost (l : ChanLoss)
  /-- LANTERN_SAMPLE (R397). -/
  | lanternSample (m : Sensors)
  /-- TL_PACE_WRITE (R402). -/
  | tlPaceWrite (v : W32)
  /-- PACE_RELEASE (R401). -/
  | paceRelease (i : Nat) (ns : W64)
  /-- HOST_LINK_UP (R247). -/
  | hostLinkUp (p : HostPort) (l : LinkInfo)
  /-- PERST_B_RELEASE (R410). -/
  | perstBRelease (l : LinkInfo)
  /-- OTHER_FRAME (R290). -/
  | otherFrame (p : Nat) (f : Frame)
  /-- VAUX_STABLE (R418). -/
  | vauxStable
  /-- VAUX_LOSS (R418). -/
  | vauxLoss
  /-- HOLD_RELEASE (R414). -/
  | holdRelease
  /-- PREP_DONE (R418). -/
  | prepDone
  /-- RECOVER_DONE (R418). -/
  | recoverDone
  /-- PERST (R410). -/
  | perst
  /-- PERST_RELEASE (R418). -/
  | perstRelease
  /-- PERST_B (R410). -/
  | perstB
  /-- PW_CTL_QUIESCE (R418). -/
  | pwCtlQuiesce
  /-- PW_CTL_UNQUIESCE (R418). -/
  | pwCtlUnquiesce
  /-- QUIESCE_COMPLETE (R418). -/
  | quiesceComplete
  /-- SVRESET (R420). -/
  | svreset
  /-- LOCKSTEP_MISMATCH (R395). -/
  | lockstepMismatch
  /-- SUPERVISOR_RESET_DONE (R395). -/
  | supervisorResetDone
  /-- SETPOINT_CHANGE_DONE (R30). -/
  | setpointChangeDone
  /-- THERMAL_TRIP (R422). -/
  | thermalTrip
  /-- TIME_PPS_EDGE (R424). -/
  | timePpsEdge
  /-- PPS_MISSED (R424). -/
  | ppsMissed
  /-- ALERT_RESPONSE (R426). -/
  | alertResponse
  /-- HI_MB_GO (R225). -/
  | hiMbGo
  /-- MB_INSTANCE_CREATE (R227). -/
  | mbInstanceCreate
  /-- MB_INSTANCE_DESTROY (R382). -/
  | mbInstanceDestroy
  /-- MB_RING_SET (R227). -/
  | mbRingSet
  /-- MB_MODERATE (R246). -/
  | mbModerate
  /-- MB_HOSTMODE (R221). -/
  | mbHostmode
  /-- MB_MEM_EXCLUDE (R329). -/
  | mbMemExclude
  /-- MB_RESPONSE (R225). -/
  | mbResponse
  /-- FLUSH (R270). -/
  | flush
  /-- IMAGE_UNLOAD (R80). -/
  | imageUnload
  /-- TABLE_DROP (R263). -/
  | tableDrop
  /-- BLOCK_EXPORT (R264). -/
  | blockExport
  /-- LOG_READ (R265). -/
  | logRead
  /-- PORT_CTL_DISABLE (R307). -/
  | portCtlDisable
  /-- PORT_CTL_ENABLE (R307). -/
  | portCtlEnable
  /-- PORT_CTL_RELEASE (R307). -/
  | portCtlRelease
  /-- OWNER_REKEY (R380). -/
  | ownerRekey
  /-- SELFTEST_START (R275). -/
  | selftestStart
  /-- SELFTEST_ABORT (R278). -/
  | selftestAbort
  /-- SELFTEST_RESUME (R277). -/
  | selftestResume
  /-- FW_ACTIVATE (R274). -/
  | fwActivate
  /-- GRANT (R304). -/
  | grant
  /-- DISPATCH (R114). -/
  | dispatch
  /-- HG_CTL_STATCLR (R128). -/
  | hgCtlStatclr
  /-- CODEC_REISSUE_ENQUEUE (R70). -/
  | codecReissueEnqueue
  /-- KS_OEK_LOAD_DONE (R379). -/
  | ksOekLoadDone
  /-- CHECKPOINT_TIMER (R341). -/
  | checkpointTimer
  /-- REBUILD_DONE (R344). -/
  | rebuildDone
  /-- RESWEEP (R325). -/
  | resweep
deriving DecidableEq, Repr

end Sys2Proof
end

