-- ==== Sys2Proof/Decode.lean ====
section
/-! DEFINITION. Instruction words of Dravmel-64 (spec/05 R135 to R154, spec/06 R168 to R180): `insnWord`, the word of a core's instruction,
and `decodeInsn`, the instruction a word stands for (none for a reserved encoding, R136, R169).
No row of the opcode table gives bits, so `decodeTableWord` answers none. -/
namespace Sys2Proof
open Sys2Proof.Machine

/-- The host's question about a row's bits: the table gives none. -/
def decodeTableWord (_nbits _w : Nat) : Option Instr := none

/-- Format T (R135). -/
def fmtT (major : Nat) (rd ra rb : GReg) (func : Nat) : W32 :=
  BitVec.ofNat 32 (major * 2 ^ 26 + rd.toNat * 2 ^ 21 + ra.toNat * 2 ^ 16 + rb.toNat * 2 ^ 11 + func)

/-- Formats I, M and B: two register fields and a 16-bit immediate. -/
def fmtI (major : Nat) (rd ra : GReg) (imm : W16) : W32 :=
  BitVec.ofNat 32 (major * 2 ^ 26 + rd.toNat * 2 ^ 21 + ra.toNat * 2 ^ 16 + imm.toNat)

/-- Format J. -/
def fmtJ (major : Nat) (off : BitVec 26) : W32 := BitVec.ofNat 32 (major * 2 ^ 26 + off.toNat)

/-- LOOPI: count [25:16]. -/
def fmtL (major : Nat) (count : BitVec 10) (len : W16) : W32 :=
  BitVec.ofNat 32 (major * 2 ^ 26 + count.toNat * 2 ^ 16 + len.toNat)

/-- Format S. -/
def fmtS (major : Nat) (ra rb : GReg) (sub : Nat) (imm : Byte) : W32 :=
  BitVec.ofNat 32 (major * 2 ^ 26 + ra.toNat * 2 ^ 21 + rb.toNat * 2 ^ 16 + sub * 2 ^ 8 + imm.toNat)

/-- Format WV (R168). -/
def fmtWV (wd wa wb : WReg) (gs : GReg) (sz func : Nat) : W32 :=
  BitVec.ofNat 32 (0x34 * 2 ^ 26 + wd.toNat * 2 ^ 22 + wa.toNat * 2 ^ 18 + wb.toNat * 2 ^ 14 + gs.toNat * 2 ^ 9 + sz * 2 ^ 7 + func)

/-- Format WM. -/
def fmtWM (wv wi : WReg) (ga gb : GReg) (sz func : Nat) : W32 :=
  BitVec.ofNat 32 (0x35 * 2 ^ 26 + wv.toNat * 2 ^ 22 + wi.toNat * 2 ^ 18 + ga.toNat * 2 ^ 13 + gb.toNat * 2 ^ 8 + sz * 2 ^ 6 + func)

/-- Format WI. -/
def fmtWI (wd wa wb : WReg) (sz : Nat) (imm : Byte) (func : Nat) : W32 :=
  BitVec.ofNat 32 (0x36 * 2 ^ 26 + wd.toNat * 2 ^ 22 + wa.toNat * 2 ^ 18 + wb.toNat * 2 ^ 14 + sz * 2 ^ 12 + imm.toNat * 2 ^ 4 + func)

/-- Format WX. -/
def fmtWX (w : WReg) (g : GReg) (imm : BitVec 9) (sz func : Nat) : W32 :=
  BitVec.ofNat 32 (0x37 * 2 ^ 26 + w.toNat * 2 ^ 22 + g.toNat * 2 ^ 17 + imm.toNat * 2 ^ 8 + sz * 2 ^ 6 + func)

/-- func[10:9] of a packed operation (R153). -/
def psizeCode : PSize → Nat
  | .b => 0
  | .h => 1
  | .w => 2

/-- The sz field (R168). -/
def wsizeCode : WSize → Nat
  | .b => 0
  | .h => 1
  | .w => 2
  | .d => 3

def psizeOf (n : Nat) : Option PSize :=
  match n with
  | 0 => some .b
  | 1 => some .h
  | 2 => some .w
  | _ => none

def wsizeOf (n : Nat) : WSize :=
  match n with
  | 0 => .b
  | 1 => .h
  | 2 => .w
  | _ => .d

/-- imm[7:6] of SHIFTI (R140). -/
def shiftCode : ShiftKind → Nat
  | .shl => 0
  | .shr => 1
  | .sar => 2
  | .ror => 3

def shiftOf (n : Nat) : ShiftKind :=
  match n with
  | 0 => .shl
  | 1 => .shr
  | 2 => .sar
  | _ => .ror

/-- A row marked S in R170: the vector form, or the scalar form with func bit 6 set and wb 0. -/
def fmtS2 (wd wa : WReg) (b : WSrc) (sz : WSize) (func : Nat) : W32 :=
  match b with
  | .vec wb => fmtWV wd wa wb 0 (wsizeCode sz) func
  | .scl gs => fmtWV wd wa 0 gs (wsizeCode sz) (func + 0x40)

/-- The 32-bit word of a core's instruction; 0 for a command that is none. -/
def insnWord (i : Instr) : W32 :=
  match i with
  | .add _ rd ra rb => fmtT 0x01 rd ra rb 0x0
  | .sub _ rd ra rb => fmtT 0x01 rd ra rb 0x1
  | .and _ rd ra rb => fmtT 0x01 rd ra rb 0x2
  | .or _ rd ra rb => fmtT 0x01 rd ra rb 0x3
  | .xor _ rd ra rb => fmtT 0x01 rd ra rb 0x4
  | .andn _ rd ra rb => fmtT 0x01 rd ra rb 0x5
  | .shl _ rd ra rb => fmtT 0x01 rd ra rb 0x6
  | .shr _ rd ra rb => fmtT 0x01 rd ra rb 0x7
  | .sar _ rd ra rb => fmtT 0x01 rd ra rb 0x8
  | .ror _ rd ra rb => fmtT 0x01 rd ra rb 0x9
  | .slt _ rd ra rb => fmtT 0x01 rd ra rb 0xa
  | .sltu _ rd ra rb => fmtT 0x01 rd ra rb 0xb
  | .min _ rd ra rb => fmtT 0x01 rd ra rb 0xc
  | .max _ rd ra rb => fmtT 0x01 rd ra rb 0xd
  | .minu _ rd ra rb => fmtT 0x01 rd ra rb 0xe
  | .maxu _ rd ra rb => fmtT 0x01 rd ra rb 0xf
  | .mul _ rd ra rb => fmtT 0x01 rd ra rb 0x10
  | .mulh _ rd ra rb => fmtT 0x01 rd ra rb 0x11
  | .mulhu _ rd ra rb => fmtT 0x01 rd ra rb 0x12
  | .div _ rd ra rb => fmtT 0x01 rd ra rb 0x13
  | .divu _ rd ra rb => fmtT 0x01 rd ra rb 0x14
  | .rem _ rd ra rb => fmtT 0x01 rd ra rb 0x15
  | .remu _ rd ra rb => fmtT 0x01 rd ra rb 0x16
  | .clz _ rd ra => fmtT 0x01 rd ra 0 0x18
  | .ctz _ rd ra => fmtT 0x01 rd ra 0 0x19
  | .popc _ rd ra => fmtT 0x01 rd ra 0 0x1a
  | .bswap _ rd ra => fmtT 0x01 rd ra 0 0x1b
  | .selnz _ rd ra rb => fmtT 0x01 rd ra rb 0x1c
  | .addi _ rd ra imm => fmtI 0x3 rd ra imm
  | .andi _ rd ra imm => fmtI 0x4 rd ra imm
  | .ori _ rd ra imm => fmtI 0x5 rd ra imm
  | .xori _ rd ra imm => fmtI 0x6 rd ra imm
  | .slti _ rd ra imm => fmtI 0x7 rd ra imm
  | .sltiu _ rd ra imm => fmtI 0x8 rd ra imm
  | .shifti _ rd ra k n => fmtI 0x9 rd ra (BitVec.ofNat 16 (shiftCode k * 64 + n.toNat))
  | .movi _ rd imm => fmtI 0xa rd 0 imm
  | .shori _ rd imm => fmtI 0xb rd 0 imm
  | .ldb _ r base imm => fmtI 0x10 r base imm
  | .ldbu _ r base imm => fmtI 0x11 r base imm
  | .ldh _ r base imm => fmtI 0x12 r base imm
  | .ldhu _ r base imm => fmtI 0x13 r base imm
  | .ldw _ r base imm => fmtI 0x14 r base imm
  | .ldwu _ r base imm => fmtI 0x15 r base imm
  | .ldd _ r base imm => fmtI 0x16 r base imm
  | .stb _ r base imm => fmtI 0x18 r base imm
  | .sth _ r base imm => fmtI 0x19 r base imm
  | .stw _ r base imm => fmtI 0x1a r base imm
  | .std _ r base imm => fmtI 0x1b r base imm
  | .cdSubmit _ rs base imm => fmtI 0x1b rs base imm
  | .dgSubmit _ rs base imm => fmtI 0x1b rs base imm
  | .amoadd _ rd ra rb => fmtT 0x1c rd ra rb 0
  | .amoswap _ rd ra rb => fmtT 0x1c rd ra rb 1
  | .amocas _ rd ra rb => fmtT 0x1c rd ra rb 2
  | .amoand _ rd ra rb => fmtT 0x1c rd ra rb 3
  | .amoor _ rd ra rb => fmtT 0x1c rd ra rb 4
  | .amomax _ rd ra rb => fmtT 0x1c rd ra rb 5
  | .amomin _ rd ra rb => fmtT 0x1c rd ra rb 6
  | .zline _ ra => fmtT 0x1d 0 ra 0 0
  | .cwb _ ra => fmtT 0x1d 0 ra 0 1
  | .cinv _ ra => fmtT 0x1d 0 ra 0 2
  | .cwbi _ ra => fmtT 0x1d 0 ra 0 3
  | .strm _ ra rb => fmtT 0x1d 0 ra rb 4
  | .sync _ => fmtT 0x1d 0 0 0 5
  | .iinvall _ => fmtT 0x1d 0 0 0 6
  | .beq _ ra rb off => fmtI 0x20 ra rb off
  | .bne _ ra rb off => fmtI 0x21 ra rb off
  | .blt _ ra rb off => fmtI 0x22 ra rb off
  | .bge _ ra rb off => fmtI 0x23 ra rb off
  | .bltu _ ra rb off => fmtI 0x24 ra rb off
  | .bgeu _ ra rb off => fmtI 0x25 ra rb off
  | .jmp _ off => fmtJ 0x26 off
  | .call _ off => fmtJ 0x27 off
  | .jr _ ra => fmtT 0x28 0 ra 0 0
  | .callr _ ra => fmtT 0x28 0 ra 0 1
  | .loop _ ra len => fmtI 0x2c ra 0 len
  | .loopi _ count len => fmtL 0x2d count len
  | .mfs _ rd imm => fmtI 0x30 rd 0 imm
  | .mts _ rs imm => fmtI 0x31 0 rs imm
  | .cget _ rd imm => fmtI 0x32 rd 0 imm
  | .cput _ rs imm => fmtI 0x33 0 rs imm
  | .crIcClaim _ rd => fmtI 0x32 rd 0 0x023
  | .crIcDone _ rs => fmtI 0x33 0 rs 0x024
  | .crIcSwset _ rs => fmtI 0x33 0 rs 0x027
  | .crIcTimerWrite _ rs => fmtI 0x33 0 rs 0x026
  | .take _ => fmtS 0x38 0 0 0 0
  | .post _ sel ra rb => fmtS 0x38 ra rb 1 (if sel then 1 else 0)
  | .signal _ ra rb => fmtS 0x38 ra rb 2 0
  | .doneItem _ ra rb => fmtS 0x38 ra rb 3 0
  | .park _ ra rb => fmtS 0x38 ra rb 3 0
  | .doneFail _ ra rb => fmtS 0x38 ra rb 3 0
  | .dsend _ ra x => fmtS 0x38 ra 0 4 x
  | .gate _ n => fmtS 0x3c 0 0 0 n
  | .gret _ => fmtS 0x3d 0 0 0 0
  | .waitIrq _ => fmtS 0x3d 0 0 1 0
  | .padd _ sz rd ra rb => fmtT 0x02 rd ra rb (psizeCode sz * 512 + 0x0)
  | .psub _ sz rd ra rb => fmtT 0x02 rd ra rb (psizeCode sz * 512 + 0x1)
  | .padds _ sz rd ra rb => fmtT 0x02 rd ra rb (psizeCode sz * 512 + 0x2)
  | .psubs _ sz rd ra rb => fmtT 0x02 rd ra rb (psizeCode sz * 512 + 0x3)
  | .paddus _ sz rd ra rb => fmtT 0x02 rd ra rb (psizeCode sz * 512 + 0x4)
  | .psubus _ sz rd ra rb => fmtT 0x02 rd ra rb (psizeCode sz * 512 + 0x5)
  | .pavgu _ sz rd ra rb => fmtT 0x02 rd ra rb (psizeCode sz * 512 + 0x6)
  | .pmins _ sz rd ra rb => fmtT 0x02 rd ra rb (psizeCode sz * 512 + 0x7)
  | .pmaxs _ sz rd ra rb => fmtT 0x02 rd ra rb (psizeCode sz * 512 + 0x8)
  | .pminu _ sz rd ra rb => fmtT 0x02 rd ra rb (psizeCode sz * 512 + 0x9)
  | .pmaxu _ sz rd ra rb => fmtT 0x02 rd ra rb (psizeCode sz * 512 + 0xa)
  | .pcmpeq _ sz rd ra rb => fmtT 0x02 rd ra rb (psizeCode sz * 512 + 0xb)
  | .pcmpgt _ sz rd ra rb => fmtT 0x02 rd ra rb (psizeCode sz * 512 + 0xc)
  | .pcmpgtu _ sz rd ra rb => fmtT 0x02 rd ra rb (psizeCode sz * 512 + 0xd)
  | .pmul _ sz rd ra rb => fmtT 0x02 rd ra rb (psizeCode sz * 512 + 0xe)
  | .pmulhrs _ sz rd ra rb => fmtT 0x02 rd ra rb (psizeCode sz * 512 + 0xf)
  | .pmadd _ sz rd ra rb => fmtT 0x02 rd ra rb (psizeCode sz * 512 + 0x10)
  | .ppacks _ sz rd ra rb => fmtT 0x02 rd ra rb (psizeCode sz * 512 + 0x16)
  | .ppackus _ sz rd ra rb => fmtT 0x02 rd ra rb (psizeCode sz * 512 + 0x17)
  | .punpklo _ sz rd ra rb => fmtT 0x02 rd ra rb (psizeCode sz * 512 + 0x18)
  | .punpkhi _ sz rd ra rb => fmtT 0x02 rd ra rb (psizeCode sz * 512 + 0x19)
  | .pabs _ sz rd ra => fmtT 0x02 rd ra 0 (psizeCode sz * 512 + 0x11)
  | .pshli _ sz rd ra n => fmtT 0x02 rd ra n (psizeCode sz * 512 + 0x12)
  | .pshri _ sz rd ra n => fmtT 0x02 rd ra n (psizeCode sz * 512 + 0x13)
  | .psari _ sz rd ra n => fmtT 0x02 rd ra n (psizeCode sz * 512 + 0x14)
  | .psrari _ sz rd ra n => fmtT 0x02 rd ra n (psizeCode sz * 512 + 0x15)
  | .wadd _ sz wd wa b => fmtS2 wd wa b sz 0x0
  | .wsub _ sz wd wa b => fmtS2 wd wa b sz 0x1
  | .wand _ sz wd wa b => fmtS2 wd wa b sz 0x2
  | .wor _ sz wd wa b => fmtS2 wd wa b sz 0x3
  | .wxor _ sz wd wa b => fmtS2 wd wa b sz 0x4
  | .wandn _ sz wd wa b => fmtS2 wd wa b sz 0x5
  | .wmin _ sz wd wa b => fmtS2 wd wa b sz 0x6
  | .wmax _ sz wd wa b => fmtS2 wd wa b sz 0x7
  | .wminu _ sz wd wa b => fmtS2 wd wa b sz 0x8
  | .wmaxu _ sz wd wa b => fmtS2 wd wa b sz 0x9
  | .wmul _ sz wd wa b => fmtS2 wd wa b sz 0xa
  | .wshl _ sz wd wa b => fmtS2 wd wa b sz 0xb
  | .wshr _ sz wd wa b => fmtS2 wd wa b sz 0xc
  | .wsar _ sz wd wa b => fmtS2 wd wa b sz 0xd
  | .wceq _ sz wd wa b => fmtS2 wd wa b sz 0x18
  | .wcne _ sz wd wa b => fmtS2 wd wa b sz 0x19
  | .wclt _ sz wd wa b => fmtS2 wd wa b sz 0x1a
  | .wcge _ sz wd wa b => fmtS2 wd wa b sz 0x1b
  | .wcltu _ sz wd wa b => fmtS2 wd wa b sz 0x1c
  | .wcgeu _ sz wd wa b => fmtS2 wd wa b sz 0x1d
  | .wcgt _ sz wd wa b => fmtS2 wd wa b sz 0x1e
  | .wcle _ sz wd wa b => fmtS2 wd wa b sz 0x1f
  | .wcgtu _ sz wd wa b => fmtS2 wd wa b sz 0x20
  | .wcleu _ sz wd wa b => fmtS2 wd wa b sz 0x21
  | .wfadd _ sz wd wa b => fmtS2 wd wa b sz 0x38
  | .wfsub _ sz wd wa b => fmtS2 wd wa b sz 0x39
  | .wfmul _ sz wd wa b => fmtS2 wd wa b sz 0x3a
  | .wfmin _ sz wd wa b => fmtS2 wd wa b sz 0x3b
  | .wfmax _ sz wd wa b => fmtS2 wd wa b sz 0x3c
  | .wfclt _ sz wd wa b => fmtS2 wd wa b sz 0x3d
  | .wfcle _ sz wd wa b => fmtS2 wd wa b sz 0x3e
  | .wfceq _ sz wd wa b => fmtS2 wd wa b sz 0x3f
  | .wmulw _ sz wd wa wb => fmtWV wd wa wb 0 (wsizeCode sz) 0x10
  | .wmulwu _ sz wd wa wb => fmtWV wd wa wb 0 (wsizeCode sz) 0x11
  | .wmacw _ sz wd wa wb => fmtWV wd wa wb 0 (wsizeCode sz) 0x12
  | .wmacwu _ sz wd wa wb => fmtWV wd wa wb 0 (wsizeCode sz) 0x13
  | .wdot _ sz wd wa wb => fmtWV wd wa wb 0 (wsizeCode sz) 0x14
  | .wdotu _ sz wd wa wb => fmtWV wd wa wb 0 (wsizeCode sz) 0x15
  | .wperm _ sz wd wa wb => fmtWV wd wa wb 0 (wsizeCode sz) 0x2b
  | .wband _ wd wa wb => fmtWV wd wa wb 0 0 0x22
  | .wbor _ wd wa wb => fmtWV wd wa wb 0 0 0x23
  | .wbandn _ wd wa wb => fmtWV wd wa wb 0 0 0x24
  | .wbcnt _ wa gs => fmtWV 0 wa 0 gs 0 0x25
  | .wcompress _ sz wd wa wb gs => fmtWV wd wa wb gs (wsizeCode sz) 0x28
  | .wiota _ sz wd gs => fmtWV wd 0 0 gs (wsizeCode sz) 0x29
  | .wbcast _ sz wd gs => fmtWV wd 0 0 gs (wsizeCode sz) 0x2a
  | .wscan _ sz wd wa gs => fmtWV wd wa 0 gs (wsizeCode sz) 0x2c
  | .whash _ sz wd wa gs => fmtWV wd wa 0 gs (wsizeCode sz) 0x34
  | .wredadd _ sz wa gs => fmtWV 0 wa 0 gs (wsizeCode sz) 0x2d
  | .wredaddu _ sz wa gs => fmtWV 0 wa 0 gs (wsizeCode sz) 0x2e
  | .wredmin _ sz wa gs => fmtWV 0 wa 0 gs (wsizeCode sz) 0x2f
  | .wredmax _ sz wa gs => fmtWV 0 wa 0 gs (wsizeCode sz) 0x30
  | .wredminu _ sz wa gs => fmtWV 0 wa 0 gs (wsizeCode sz) 0x31
  | .wredmaxu _ sz wa gs => fmtWV 0 wa 0 gs (wsizeCode sz) 0x32
  | .wredadd128 _ sz wa gs => fmtWV 0 wa 0 gs (wsizeCode sz) 0x33
  | .wfredadd _ sz wa gs => fmtWV 0 wa 0 gs (wsizeCode sz) 0x35
  | .wshli _ sz wd wa n => fmtWI wd wa 0 (wsizeCode sz) n 0
  | .wshri _ sz wd wa n => fmtWI wd wa 0 (wsizeCode sz) n 1
  | .wsari _ sz wd wa n => fmtWI wd wa 0 (wsizeCode sz) n 2
  | .wtrans _ sz wd wa n => fmtWI wd wa 0 (wsizeCode sz) n 3
  | .wbmrg _ sz wd wa d k => fmtWI wd wa 0 (wsizeCode sz) (BitVec.ofNat 8 (k.toNat * 16 + d.toNat)) 4
  | .wbmrgu _ sz wd wa d k => fmtWI wd wa 0 (wsizeCode sz) (BitVec.ofNat 8 (k.toNat * 16 + d.toNat)) 5
  | .wslide _ sz wd wa wb n => fmtWI wd wa wb (wsizeCode sz) n 6
  | .wld _ sz wv ga => fmtWM wv 0 ga 0 (wsizeCode sz) 0
  | .wst _ sz wv ga => fmtWM wv 0 ga 0 (wsizeCode sz) 1
  | .wldz _ sz wv ga => fmtWM wv 0 ga 0 (wsizeCode sz) 4
  | .wldx _ sz wv ga => fmtWM wv 0 ga 0 (wsizeCode sz) 5
  | .wlds _ sz wv ga gb => fmtWM wv 0 ga gb (wsizeCode sz) 2
  | .wsts _ sz wv ga gb => fmtWM wv 0 ga gb (wsizeCode sz) 3
  | .wgather _ sz wv wi ga => fmtWM wv wi ga 0 (wsizeCode sz) 6
  | .wscatter _ sz wv wi ga => fmtWM wv wi ga 0 (wsizeCode sz) 7
  | .wcstore _ sz wv wi ga gb => fmtWM wv wi ga gb (wsizeCode sz) 8
  | .wldb _ wv ga => fmtWM wv 0 ga 0 0 9
  | .wstb _ wv ga => fmtWM wv 0 ga 0 0 10
  | .wmovx _ sz w g e => fmtWX w g e (wsizeCode sz) 0
  | .wmovxs _ sz w g e => fmtWX w g e (wsizeCode sz) 1
  | .wins _ sz w g e => fmtWX w g e (wsizeCode sz) 2
  | .wdsend _ w x => fmtWX w 0 (x.setWidth 9) 3 3
  | .reservedEncoding _ w => w
  | _ => 0

/-- A five-bit register field. -/
def gAt (w : W32) (lo : Nat) : GReg := BitVec.ofNat 5 (bits w lo 5)
/-- A four-bit wide register field. -/
def wAt (w : W32) (lo : Nat) : WReg := BitVec.ofNat 4 (bits w lo 4)
/-- The low 16 bits. -/
def immAt (w : W32) : W16 := BitVec.ofNat 16 (bits w 0 16)

/-- The instruction where the fields marked 0 are 0. -/
def whenZero (b : Bool) (i : Instr) : Option Instr := if b then some i else none

/-- Major 0x01 (R138). -/
def decodeScalar (c : Nat) (w : W32) : Option Instr :=
  match bits w 0 11 with
  | 0x0 => some (.add c (gAt w 21) (gAt w 16) (gAt w 11))
  | 0x1 => some (.sub c (gAt w 21) (gAt w 16) (gAt w 11))
  | 0x2 => some (.and c (gAt w 21) (gAt w 16) (gAt w 11))
  | 0x3 => some (.or c (gAt w 21) (gAt w 16) (gAt w 11))
  | 0x4 => some (.xor c (gAt w 21) (gAt w 16) (gAt w 11))
  | 0x5 => some (.andn c (gAt w 21) (gAt w 16) (gAt w 11))
  | 0x6 => some (.shl c (gAt w 21) (gAt w 16) (gAt w 11))
  | 0x7 => some (.shr c (gAt w 21) (gAt w 16) (gAt w 11))
  | 0x8 => some (.sar c (gAt w 21) (gAt w 16) (gAt w 11))
  | 0x9 => some (.ror c (gAt w 21) (gAt w 16) (gAt w 11))
  | 0xa => some (.slt c (gAt w 21) (gAt w 16) (gAt w 11))
  | 0xb => some (.sltu c (gAt w 21) (gAt w 16) (gAt w 11))
  | 0xc => some (.min c (gAt w 21) (gAt w 16) (gAt w 11))
  | 0xd => some (.max c (gAt w 21) (gAt w 16) (gAt w 11))
  | 0xe => some (.minu c (gAt w 21) (gAt w 16) (gAt w 11))
  | 0xf => some (.maxu c (gAt w 21) (gAt w 16) (gAt w 11))
  | 0x10 => some (.mul c (gAt w 21) (gAt w 16) (gAt w 11))
  | 0x11 => some (.mulh c (gAt w 21) (gAt w 16) (gAt w 11))
  | 0x12 => some (.mulhu c (gAt w 21) (gAt w 16) (gAt w 11))
  | 0x13 => some (.div c (gAt w 21) (gAt w 16) (gAt w 11))
  | 0x14 => some (.divu c (gAt w 21) (gAt w 16) (gAt w 11))
  | 0x15 => some (.rem c (gAt w 21) (gAt w 16) (gAt w 11))
  | 0x16 => some (.remu c (gAt w 21) (gAt w 16) (gAt w 11))
  | 0x18 => whenZero (gAt w 11 == 0) (.clz c (gAt w 21) (gAt w 16))
  | 0x19 => whenZero (gAt w 11 == 0) (.ctz c (gAt w 21) (gAt w 16))
  | 0x1a => whenZero (gAt w 11 == 0) (.popc c (gAt w 21) (gAt w 16))
  | 0x1b => whenZero (gAt w 11 == 0) (.bswap c (gAt w 21) (gAt w 16))
  | 0x1c => some (.selnz c (gAt w 21) (gAt w 16) (gAt w 11))
  | _ => none

/-- Major 0x02 (R153, R154), its size decoded. -/
def decodePackedAt (c : Nat) (w : W32) (sz : PSize) : Option Instr :=
  match bits w 0 9 with
  | 0x0 => some (.padd c sz (gAt w 21) (gAt w 16) (gAt w 11))
  | 0x1 => some (.psub c sz (gAt w 21) (gAt w 16) (gAt w 11))
  | 0x2 => some (.padds c sz (gAt w 21) (gAt w 16) (gAt w 11))
  | 0x3 => some (.psubs c sz (gAt w 21) (gAt w 16) (gAt w 11))
  | 0x4 => some (.paddus c sz (gAt w 21) (gAt w 16) (gAt w 11))
  | 0x5 => some (.psubus c sz (gAt w 21) (gAt w 16) (gAt w 11))
  | 0x6 => some (.pavgu c sz (gAt w 21) (gAt w 16) (gAt w 11))
  | 0x7 => some (.pmins c sz (gAt w 21) (gAt w 16) (gAt w 11))
  | 0x8 => some (.pmaxs c sz (gAt w 21) (gAt w 16) (gAt w 11))
  | 0x9 => some (.pminu c sz (gAt w 21) (gAt w 16) (gAt w 11))
  | 0xa => some (.pmaxu c sz (gAt w 21) (gAt w 16) (gAt w 11))
  | 0xb => some (.pcmpeq c sz (gAt w 21) (gAt w 16) (gAt w 11))
  | 0xc => some (.pcmpgt c sz (gAt w 21) (gAt w 16) (gAt w 11))
  | 0xd => some (.pcmpgtu c sz (gAt w 21) (gAt w 16) (gAt w 11))
  | 0xe => some (.pmul c sz (gAt w 21) (gAt w 16) (gAt w 11))
  | 0xf => some (.pmulhrs c sz (gAt w 21) (gAt w 16) (gAt w 11))
  | 0x10 => some (.pmadd c sz (gAt w 21) (gAt w 16) (gAt w 11))
  | 0x11 => whenZero (gAt w 11 == 0) (.pabs c sz (gAt w 21) (gAt w 16))
  | 0x12 => some (.pshli c sz (gAt w 21) (gAt w 16) (gAt w 11))
  | 0x13 => some (.pshri c sz (gAt w 21) (gAt w 16) (gAt w 11))
  | 0x14 => some (.psari c sz (gAt w 21) (gAt w 16) (gAt w 11))
  | 0x15 => some (.psrari c sz (gAt w 21) (gAt w 16) (gAt w 11))
  | 0x16 => some (.ppacks c sz (gAt w 21) (gAt w 16) (gAt w 11))
  | 0x17 => some (.ppackus c sz (gAt w 21) (gAt w 16) (gAt w 11))
  | 0x18 => some (.punpklo c sz (gAt w 21) (gAt w 16) (gAt w 11))
  | 0x19 => some (.punpkhi c sz (gAt w 21) (gAt w 16) (gAt w 11))
  | _ => none

def decodePacked (c : Nat) (w : W32) : Option Instr :=
  match psizeOf (bits w 9 2) with
  | some sz => decodePackedAt c w sz
  | none => none

/-- Major 0x1C (R148). -/
def decodeAtomic (c : Nat) (w : W32) : Option Instr :=
  match bits w 0 11 with
  | 0x0 => some (.amoadd c (gAt w 21) (gAt w 16) (gAt w 11))
  | 0x1 => some (.amoswap c (gAt w 21) (gAt w 16) (gAt w 11))
  | 0x2 => some (.amocas c (gAt w 21) (gAt w 16) (gAt w 11))
  | 0x3 => some (.amoand c (gAt w 21) (gAt w 16) (gAt w 11))
  | 0x4 => some (.amoor c (gAt w 21) (gAt w 16) (gAt w 11))
  | 0x5 => some (.amomax c (gAt w 21) (gAt w 16) (gAt w 11))
  | 0x6 => some (.amomin c (gAt w 21) (gAt w 16) (gAt w 11))
  | _ => none

/-- Major 0x1D (R149). -/
def decodeCache (c : Nat) (w : W32) : Option Instr :=
  match bits w 0 11 with
  | 0x0 => whenZero (gAt w 21 == 0 && gAt w 11 == 0) (.zline c (gAt w 16))
  | 0x1 => whenZero (gAt w 21 == 0 && gAt w 11 == 0) (.cwb c (gAt w 16))
  | 0x2 => whenZero (gAt w 21 == 0 && gAt w 11 == 0) (.cinv c (gAt w 16))
  | 0x3 => whenZero (gAt w 21 == 0 && gAt w 11 == 0) (.cwbi c (gAt w 16))
  | 0x4 => whenZero (gAt w 21 == 0) (.strm c (gAt w 16) (gAt w 11))
  | 0x5 => whenZero (gAt w 21 == 0 && gAt w 11 == 0 && gAt w 16 == 0) (.sync c)
  | 0x6 => whenZero (gAt w 21 == 0 && gAt w 11 == 0 && gAt w 16 == 0) (.iinvall c)
  | _ => none

/-- Major 0x28 (R141). -/
def decodeJump (c : Nat) (w : W32) : Option Instr :=
  match bits w 0 11 with
  | 0x0 => whenZero (gAt w 21 == 0 && gAt w 11 == 0) (.jr c (gAt w 16))
  | 0x1 => whenZero (gAt w 21 == 0 && gAt w 11 == 0) (.callr c (gAt w 16))
  | _ => none

/-- Major 0x38 (R151). A DONE word is the row DONE. -/
def decodeHeadgate (c : Nat) (w : W32) : Option Instr :=
  match bits w 8 8 with
  | 0x0 => whenZero (gAt w 21 == 0 && gAt w 16 == 0 && bits w 0 8 == 0) (.take c)
  | 0x1 => whenZero (bits w 1 7 == 0) (.post c (bits w 0 1 == 1) (gAt w 21) (gAt w 16))
  | 0x2 => whenZero (bits w 0 8 == 0) (.signal c (gAt w 21) (gAt w 16))
  | 0x3 => whenZero (bits w 0 8 == 0) (.doneItem c (gAt w 21) (gAt w 16))
  | 0x4 => whenZero (gAt w 16 == 0) (.dsend c (gAt w 21) (BitVec.ofNat 8 (bits w 0 8)))
  | _ => none

/-- Major 0x3D (R143). -/
def decodeReturn (c : Nat) (w : W32) : Option Instr :=
  match bits w 8 8 with
  | 0x0 => whenZero (gAt w 21 == 0 && gAt w 16 == 0 && bits w 0 8 == 0) (.gret c)
  | 0x1 => whenZero (gAt w 21 == 0 && gAt w 16 == 0 && bits w 0 8 == 0) (.waitIrq c)
  | _ => none

/-- Major 0x34 (R170). -/
def decodeWV (c : Nat) (w : W32) : Option Instr :=
  match bits w 0 7 with
  | 0x0 => whenZero (gAt w 9 == 0) (.wadd c (wsizeOf (bits w 7 2)) (wAt w 22) (wAt w 18) (.vec (wAt w 14)))
  | 0x1 => whenZero (gAt w 9 == 0) (.wsub c (wsizeOf (bits w 7 2)) (wAt w 22) (wAt w 18) (.vec (wAt w 14)))
  | 0x2 => whenZero (gAt w 9 == 0) (.wand c (wsizeOf (bits w 7 2)) (wAt w 22) (wAt w 18) (.vec (wAt w 14)))
  | 0x3 => whenZero (gAt w 9 == 0) (.wor c (wsizeOf (bits w 7 2)) (wAt w 22) (wAt w 18) (.vec (wAt w 14)))
  | 0x4 => whenZero (gAt w 9 == 0) (.wxor c (wsizeOf (bits w 7 2)) (wAt w 22) (wAt w 18) (.vec (wAt w 14)))
  | 0x5 => whenZero (gAt w 9 == 0) (.wandn c (wsizeOf (bits w 7 2)) (wAt w 22) (wAt w 18) (.vec (wAt w 14)))
  | 0x6 => whenZero (gAt w 9 == 0) (.wmin c (wsizeOf (bits w 7 2)) (wAt w 22) (wAt w 18) (.vec (wAt w 14)))
  | 0x7 => whenZero (gAt w 9 == 0) (.wmax c (wsizeOf (bits w 7 2)) (wAt w 22) (wAt w 18) (.vec (wAt w 14)))
  | 0x8 => whenZero (gAt w 9 == 0) (.wminu c (wsizeOf (bits w 7 2)) (wAt w 22) (wAt w 18) (.vec (wAt w 14)))
  | 0x9 => whenZero (gAt w 9 == 0) (.wmaxu c (wsizeOf (bits w 7 2)) (wAt w 22) (wAt w 18) (.vec (wAt w 14)))
  | 0xa => whenZero (gAt w 9 == 0) (.wmul c (wsizeOf (bits w 7 2)) (wAt w 22) (wAt w 18) (.vec (wAt w 14)))
  | 0xb => whenZero (gAt w 9 == 0) (.wshl c (wsizeOf (bits w 7 2)) (wAt w 22) (wAt w 18) (.vec (wAt w 14)))
  | 0xc => whenZero (gAt w 9 == 0) (.wshr c (wsizeOf (bits w 7 2)) (wAt w 22) (wAt w 18) (.vec (wAt w 14)))
  | 0xd => whenZero (gAt w 9 == 0) (.wsar c (wsizeOf (bits w 7 2)) (wAt w 22) (wAt w 18) (.vec (wAt w 14)))
  | 0x10 => whenZero (gAt w 9 == 0) (.wmulw c (wsizeOf (bits w 7 2)) (wAt w 22) (wAt w 18) (wAt w 14))
  | 0x11 => whenZero (gAt w 9 == 0) (.wmulwu c (wsizeOf (bits w 7 2)) (wAt w 22) (wAt w 18) (wAt w 14))
  | 0x12 => whenZero (gAt w 9 == 0) (.wmacw c (wsizeOf (bits w 7 2)) (wAt w 22) (wAt w 18) (wAt w 14))
  | 0x13 => whenZero (gAt w 9 == 0) (.wmacwu c (wsizeOf (bits w 7 2)) (wAt w 22) (wAt w 18) (wAt w 14))
  | 0x14 => whenZero (gAt w 9 == 0) (.wdot c (wsizeOf (bits w 7 2)) (wAt w 22) (wAt w 18) (wAt w 14))
  | 0x15 => whenZero (gAt w 9 == 0) (.wdotu c (wsizeOf (bits w 7 2)) (wAt w 22) (wAt w 18) (wAt w 14))
  | 0x18 => whenZero (gAt w 9 == 0) (.wceq c (wsizeOf (bits w 7 2)) (wAt w 22) (wAt w 18) (.vec (wAt w 14)))
  | 0x19 => whenZero (gAt w 9 == 0) (.wcne c (wsizeOf (bits w 7 2)) (wAt w 22) (wAt w 18) (.vec (wAt w 14)))
  | 0x1a => whenZero (gAt w 9 == 0) (.wclt c (wsizeOf (bits w 7 2)) (wAt w 22) (wAt w 18) (.vec (wAt w 14)))
  | 0x1b => whenZero (gAt w 9 == 0) (.wcge c (wsizeOf (bits w 7 2)) (wAt w 22) (wAt w 18) (.vec (wAt w 14)))
  | 0x1c => whenZero (gAt w 9 == 0) (.wcltu c (wsizeOf (bits w 7 2)) (wAt w 22) (wAt w 18) (.vec (wAt w 14)))
  | 0x1d => whenZero (gAt w 9 == 0) (.wcgeu c (wsizeOf (bits w 7 2)) (wAt w 22) (wAt w 18) (.vec (wAt w 14)))
  | 0x1e => whenZero (gAt w 9 == 0) (.wcgt c (wsizeOf (bits w 7 2)) (wAt w 22) (wAt w 18) (.vec (wAt w 14)))
  | 0x1f => whenZero (gAt w 9 == 0) (.wcle c (wsizeOf (bits w 7 2)) (wAt w 22) (wAt w 18) (.vec (wAt w 14)))
  | 0x20 => whenZero (gAt w 9 == 0) (.wcgtu c (wsizeOf (bits w 7 2)) (wAt w 22) (wAt w 18) (.vec (wAt w 14)))
  | 0x21 => whenZero (gAt w 9 == 0) (.wcleu c (wsizeOf (bits w 7 2)) (wAt w 22) (wAt w 18) (.vec (wAt w 14)))
  | 0x22 => whenZero (gAt w 9 == 0 && bits w 7 2 == 0) (.wband c (wAt w 22) (wAt w 18) (wAt w 14))
  | 0x23 => whenZero (gAt w 9 == 0 && bits w 7 2 == 0) (.wbor c (wAt w 22) (wAt w 18) (wAt w 14))
  | 0x24 => whenZero (gAt w 9 == 0 && bits w 7 2 == 0) (.wbandn c (wAt w 22) (wAt w 18) (wAt w 14))
  | 0x25 => whenZero (wAt w 22 == 0 && wAt w 14 == 0 && bits w 7 2 == 0) (.wbcnt c (wAt w 18) (gAt w 9))
  | 0x28 => some (.wcompress c (wsizeOf (bits w 7 2)) (wAt w 22) (wAt w 18) (wAt w 14) (gAt w 9))
  | 0x29 => whenZero (wAt w 18 == 0 && wAt w 14 == 0) (.wiota c (wsizeOf (bits w 7 2)) (wAt w 22) (gAt w 9))
  | 0x2a => whenZero (wAt w 18 == 0 && wAt w 14 == 0) (.wbcast c (wsizeOf (bits w 7 2)) (wAt w 22) (gAt w 9))
  | 0x2b => whenZero (gAt w 9 == 0) (.wperm c (wsizeOf (bits w 7 2)) (wAt w 22) (wAt w 18) (wAt w 14))
  | 0x2c => whenZero (wAt w 14 == 0) (.wscan c (wsizeOf (bits w 7 2)) (wAt w 22) (wAt w 18) (gAt w 9))
  | 0x2d => whenZero (wAt w 22 == 0 && wAt w 14 == 0) (.wredadd c (wsizeOf (bits w 7 2)) (wAt w 18) (gAt w 9))
  | 0x2e => whenZero (wAt w 22 == 0 && wAt w 14 == 0) (.wredaddu c (wsizeOf (bits w 7 2)) (wAt w 18) (gAt w 9))
  | 0x2f => whenZero (wAt w 22 == 0 && wAt w 14 == 0) (.wredmin c (wsizeOf (bits w 7 2)) (wAt w 18) (gAt w 9))
  | 0x30 => whenZero (wAt w 22 == 0 && wAt w 14 == 0) (.wredmax c (wsizeOf (bits w 7 2)) (wAt w 18) (gAt w 9))
  | 0x31 => whenZero (wAt w 22 == 0 && wAt w 14 == 0) (.wredminu c (wsizeOf (bits w 7 2)) (wAt w 18) (gAt w 9))
  | 0x32 => whenZero (wAt w 22 == 0 && wAt w 14 == 0) (.wredmaxu c (wsizeOf (bits w 7 2)) (wAt w 18) (gAt w 9))
  | 0x33 => whenZero (wAt w 22 == 0 && wAt w 14 == 0) (.wredadd128 c (wsizeOf (bits w 7 2)) (wAt w 18) (gAt w 9))
  | 0x34 => whenZero (wAt w 14 == 0) (.whash c (wsizeOf (bits w 7 2)) (wAt w 22) (wAt w 18) (gAt w 9))
  | 0x35 => whenZero (wAt w 22 == 0 && wAt w 14 == 0) (.wfredadd c (wsizeOf (bits w 7 2)) (wAt w 18) (gAt w 9))
  | 0x38 => whenZero (gAt w 9 == 0) (.wfadd c (wsizeOf (bits w 7 2)) (wAt w 22) (wAt w 18) (.vec (wAt w 14)))
  | 0x39 => whenZero (gAt w 9 == 0) (.wfsub c (wsizeOf (bits w 7 2)) (wAt w 22) (wAt w 18) (.vec (wAt w 14)))
  | 0x3a => whenZero (gAt w 9 == 0) (.wfmul c (wsizeOf (bits w 7 2)) (wAt w 22) (wAt w 18) (.vec (wAt w 14)))
  | 0x3b => whenZero (gAt w 9 == 0) (.wfmin c (wsizeOf (bits w 7 2)) (wAt w 22) (wAt w 18) (.vec (wAt w 14)))
  | 0x3c => whenZero (gAt w 9 == 0) (.wfmax c (wsizeOf (bits w 7 2)) (wAt w 22) (wAt w 18) (.vec (wAt w 14)))
  | 0x3d => whenZero (gAt w 9 == 0) (.wfclt c (wsizeOf (bits w 7 2)) (wAt w 22) (wAt w 18) (.vec (wAt w 14)))
  | 0x3e => whenZero (gAt w 9 == 0) (.wfcle c (wsizeOf (bits w 7 2)) (wAt w 22) (wAt w 18) (.vec (wAt w 14)))
  | 0x3f => whenZero (gAt w 9 == 0) (.wfceq c (wsizeOf (bits w 7 2)) (wAt w 22) (wAt w 18) (.vec (wAt w 14)))
  | 0x40 => whenZero (wAt w 14 == 0) (.wadd c (wsizeOf (bits w 7 2)) (wAt w 22) (wAt w 18) (.scl (gAt w 9)))
  | 0x41 => whenZero (wAt w 14 == 0) (.wsub c (wsizeOf (bits w 7 2)) (wAt w 22) (wAt w 18) (.scl (gAt w 9)))
  | 0x42 => whenZero (wAt w 14 == 0) (.wand c (wsizeOf (bits w 7 2)) (wAt w 22) (wAt w 18) (.scl (gAt w 9)))
  | 0x43 => whenZero (wAt w 14 == 0) (.wor c (wsizeOf (bits w 7 2)) (wAt w 22) (wAt w 18) (.scl (gAt w 9)))
  | 0x44 => whenZero (wAt w 14 == 0) (.wxor c (wsizeOf (bits w 7 2)) (wAt w 22) (wAt w 18) (.scl (gAt w 9)))
  | 0x45 => whenZero (wAt w 14 == 0) (.wandn c (wsizeOf (bits w 7 2)) (wAt w 22) (wAt w 18) (.scl (gAt w 9)))
  | 0x46 => whenZero (wAt w 14 == 0) (.wmin c (wsizeOf (bits w 7 2)) (wAt w 22) (wAt w 18) (.scl (gAt w 9)))
  | 0x47 => whenZero (wAt w 14 == 0) (.wmax c (wsizeOf (bits w 7 2)) (wAt w 22) (wAt w 18) (.scl (gAt w 9)))
  | 0x48 => whenZero (wAt w 14 == 0) (.wminu c (wsizeOf (bits w 7 2)) (wAt w 22) (wAt w 18) (.scl (gAt w 9)))
  | 0x49 => whenZero (wAt w 14 == 0) (.wmaxu c (wsizeOf (bits w 7 2)) (wAt w 22) (wAt w 18) (.scl (gAt w 9)))
  | 0x4a => whenZero (wAt w 14 == 0) (.wmul c (wsizeOf (bits w 7 2)) (wAt w 22) (wAt w 18) (.scl (gAt w 9)))
  | 0x4b => whenZero (wAt w 14 == 0) (.wshl c (wsizeOf (bits w 7 2)) (wAt w 22) (wAt w 18) (.scl (gAt w 9)))
  | 0x4c => whenZero (wAt w 14 == 0) (.wshr c (wsizeOf (bits w 7 2)) (wAt w 22) (wAt w 18) (.scl (gAt w 9)))
  | 0x4d => whenZero (wAt w 14 == 0) (.wsar c (wsizeOf (bits w 7 2)) (wAt w 22) (wAt w 18) (.scl (gAt w 9)))
  | 0x58 => whenZero (wAt w 14 == 0) (.wceq c (wsizeOf (bits w 7 2)) (wAt w 22) (wAt w 18) (.scl (gAt w 9)))
  | 0x59 => whenZero (wAt w 14 == 0) (.wcne c (wsizeOf (bits w 7 2)) (wAt w 22) (wAt w 18) (.scl (gAt w 9)))
  | 0x5a => whenZero (wAt w 14 == 0) (.wclt c (wsizeOf (bits w 7 2)) (wAt w 22) (wAt w 18) (.scl (gAt w 9)))
  | 0x5b => whenZero (wAt w 14 == 0) (.wcge c (wsizeOf (bits w 7 2)) (wAt w 22) (wAt w 18) (.scl (gAt w 9)))
  | 0x5c => whenZero (wAt w 14 == 0) (.wcltu c (wsizeOf (bits w 7 2)) (wAt w 22) (wAt w 18) (.scl (gAt w 9)))
  | 0x5d => whenZero (wAt w 14 == 0) (.wcgeu c (wsizeOf (bits w 7 2)) (wAt w 22) (wAt w 18) (.scl (gAt w 9)))
  | 0x5e => whenZero (wAt w 14 == 0) (.wcgt c (wsizeOf (bits w 7 2)) (wAt w 22) (wAt w 18) (.scl (gAt w 9)))
  | 0x5f => whenZero (wAt w 14 == 0) (.wcle c (wsizeOf (bits w 7 2)) (wAt w 22) (wAt w 18) (.scl (gAt w 9)))
  | 0x60 => whenZero (wAt w 14 == 0) (.wcgtu c (wsizeOf (bits w 7 2)) (wAt w 22) (wAt w 18) (.scl (gAt w 9)))
  | 0x61 => whenZero (wAt w 14 == 0) (.wcleu c (wsizeOf (bits w 7 2)) (wAt w 22) (wAt w 18) (.scl (gAt w 9)))
  | 0x78 => whenZero (wAt w 14 == 0) (.wfadd c (wsizeOf (bits w 7 2)) (wAt w 22) (wAt w 18) (.scl (gAt w 9)))
  | 0x79 => whenZero (wAt w 14 == 0) (.wfsub c (wsizeOf (bits w 7 2)) (wAt w 22) (wAt w 18) (.scl (gAt w 9)))
  | 0x7a => whenZero (wAt w 14 == 0) (.wfmul c (wsizeOf (bits w 7 2)) (wAt w 22) (wAt w 18) (.scl (gAt w 9)))
  | 0x7b => whenZero (wAt w 14 == 0) (.wfmin c (wsizeOf (bits w 7 2)) (wAt w 22) (wAt w 18) (.scl (gAt w 9)))
  | 0x7c => whenZero (wAt w 14 == 0) (.wfmax c (wsizeOf (bits w 7 2)) (wAt w 22) (wAt w 18) (.scl (gAt w 9)))
  | 0x7d => whenZero (wAt w 14 == 0) (.wfclt c (wsizeOf (bits w 7 2)) (wAt w 22) (wAt w 18) (.scl (gAt w 9)))
  | 0x7e => whenZero (wAt w 14 == 0) (.wfcle c (wsizeOf (bits w 7 2)) (wAt w 22) (wAt w 18) (.scl (gAt w 9)))
  | 0x7f => whenZero (wAt w 14 == 0) (.wfceq c (wsizeOf (bits w 7 2)) (wAt w 22) (wAt w 18) (.scl (gAt w 9)))
  | _ => none

/-- Major 0x35 (R177). -/
def decodeWM (c : Nat) (w : W32) : Option Instr :=
  match bits w 0 6 with
  | 0x0 => whenZero (wAt w 18 == 0 && gAt w 8 == 0) (.wld c (wsizeOf (bits w 6 2)) (wAt w 22) (gAt w 13))
  | 0x1 => whenZero (wAt w 18 == 0 && gAt w 8 == 0) (.wst c (wsizeOf (bits w 6 2)) (wAt w 22) (gAt w 13))
  | 0x2 => whenZero (wAt w 18 == 0) (.wlds c (wsizeOf (bits w 6 2)) (wAt w 22) (gAt w 13) (gAt w 8))
  | 0x3 => whenZero (wAt w 18 == 0) (.wsts c (wsizeOf (bits w 6 2)) (wAt w 22) (gAt w 13) (gAt w 8))
  | 0x4 => whenZero (wAt w 18 == 0 && gAt w 8 == 0) (.wldz c (wsizeOf (bits w 6 2)) (wAt w 22) (gAt w 13))
  | 0x5 => whenZero (wAt w 18 == 0 && gAt w 8 == 0) (.wldx c (wsizeOf (bits w 6 2)) (wAt w 22) (gAt w 13))
  | 0x6 => whenZero (gAt w 8 == 0) (.wgather c (wsizeOf (bits w 6 2)) (wAt w 22) (wAt w 18) (gAt w 13))
  | 0x7 => whenZero (gAt w 8 == 0) (.wscatter c (wsizeOf (bits w 6 2)) (wAt w 22) (wAt w 18) (gAt w 13))
  | 0x8 => some (.wcstore c (wsizeOf (bits w 6 2)) (wAt w 22) (wAt w 18) (gAt w 13) (gAt w 8))
  | 0x9 => whenZero (wAt w 18 == 0 && gAt w 8 == 0 && bits w 6 2 == 0) (.wldb c (wAt w 22) (gAt w 13))
  | 0xa => whenZero (wAt w 18 == 0 && gAt w 8 == 0 && bits w 6 2 == 0) (.wstb c (wAt w 22) (gAt w 13))
  | _ => none

/-- Major 0x36 (R175). -/
def decodeWI (c : Nat) (w : W32) : Option Instr :=
  match bits w 0 4 with
  | 0x0 => whenZero (wAt w 14 == 0) (.wshli c (wsizeOf (bits w 12 2)) (wAt w 22) (wAt w 18) (BitVec.ofNat 8 (bits w 4 8)))
  | 0x1 => whenZero (wAt w 14 == 0) (.wshri c (wsizeOf (bits w 12 2)) (wAt w 22) (wAt w 18) (BitVec.ofNat 8 (bits w 4 8)))
  | 0x2 => whenZero (wAt w 14 == 0) (.wsari c (wsizeOf (bits w 12 2)) (wAt w 22) (wAt w 18) (BitVec.ofNat 8 (bits w 4 8)))
  | 0x3 => whenZero (wAt w 14 == 0) (.wtrans c (wsizeOf (bits w 12 2)) (wAt w 22) (wAt w 18) (BitVec.ofNat 8 (bits w 4 8)))
  | 0x4 => whenZero (wAt w 14 == 0) (.wbmrg c (wsizeOf (bits w 12 2)) (wAt w 22) (wAt w 18) (BitVec.ofNat 4 (bits w 4 4)) (BitVec.ofNat 4 (bits w 8 4)))
  | 0x5 => whenZero (wAt w 14 == 0) (.wbmrgu c (wsizeOf (bits w 12 2)) (wAt w 22) (wAt w 18) (BitVec.ofNat 4 (bits w 4 4)) (BitVec.ofNat 4 (bits w 8 4)))
  | 0x6 => some (.wslide c (wsizeOf (bits w 12 2)) (wAt w 22) (wAt w 18) (wAt w 14) (BitVec.ofNat 8 (bits w 4 8)))
  | _ => none

/-- Major 0x37 (R179). -/
def decodeWX (c : Nat) (w : W32) : Option Instr :=
  match bits w 0 6 with
  | 0x0 => some (.wmovx c (wsizeOf (bits w 6 2)) (wAt w 22) (gAt w 17) (BitVec.ofNat 9 (bits w 8 9)))
  | 0x1 => some (.wmovxs c (wsizeOf (bits w 6 2)) (wAt w 22) (gAt w 17) (BitVec.ofNat 9 (bits w 8 9)))
  | 0x2 => some (.wins c (wsizeOf (bits w 6 2)) (wAt w 22) (gAt w 17) (BitVec.ofNat 9 (bits w 8 9)))
  | 0x3 => whenZero (gAt w 17 == 0 && bits w 6 2 == 3 && bits w 16 1 == 0) (.wdsend c (wAt w 22) (BitVec.ofNat 8 (bits w 8 8)))
  | _ => none

/-- The instruction that word `w` stands for on core `c`; none where a major, func or sub value is reserved or a field marked 0 is not (R136, R137, R169). -/
def decodeInsn (c : Nat) (w : W32) : Option Instr :=
  match bits w 26 6 with
  | 0x1 => decodeScalar c w
  | 0x2 => decodePacked c w
  | 0x3 => some (.addi c (gAt w 21) (gAt w 16) (immAt w))
  | 0x4 => some (.andi c (gAt w 21) (gAt w 16) (immAt w))
  | 0x5 => some (.ori c (gAt w 21) (gAt w 16) (immAt w))
  | 0x6 => some (.xori c (gAt w 21) (gAt w 16) (immAt w))
  | 0x7 => some (.slti c (gAt w 21) (gAt w 16) (immAt w))
  | 0x8 => some (.sltiu c (gAt w 21) (gAt w 16) (immAt w))
  | 0x9 => whenZero (bits w 8 8 == 0) (.shifti c (gAt w 21) (gAt w 16) (shiftOf (bits w 6 2)) (BitVec.ofNat 6 (bits w 0 6)))
  | 0xa => whenZero (gAt w 16 == 0) (.movi c (gAt w 21) (immAt w))
  | 0xb => whenZero (gAt w 16 == 0) (.shori c (gAt w 21) (immAt w))
  | 0x10 => some (.ldb c (gAt w 21) (gAt w 16) (immAt w))
  | 0x11 => some (.ldbu c (gAt w 21) (gAt w 16) (immAt w))
  | 0x12 => some (.ldh c (gAt w 21) (gAt w 16) (immAt w))
  | 0x13 => some (.ldhu c (gAt w 21) (gAt w 16) (immAt w))
  | 0x14 => some (.ldw c (gAt w 21) (gAt w 16) (immAt w))
  | 0x15 => some (.ldwu c (gAt w 21) (gAt w 16) (immAt w))
  | 0x16 => some (.ldd c (gAt w 21) (gAt w 16) (immAt w))
  | 0x18 => some (.stb c (gAt w 21) (gAt w 16) (immAt w))
  | 0x19 => some (.sth c (gAt w 21) (gAt w 16) (immAt w))
  | 0x1a => some (.stw c (gAt w 21) (gAt w 16) (immAt w))
  | 0x1b => some (.std c (gAt w 21) (gAt w 16) (immAt w))
  | 0x1c => decodeAtomic c w
  | 0x1d => decodeCache c w
  | 0x20 => some (.beq c (gAt w 21) (gAt w 16) (immAt w))
  | 0x21 => some (.bne c (gAt w 21) (gAt w 16) (immAt w))
  | 0x22 => some (.blt c (gAt w 21) (gAt w 16) (immAt w))
  | 0x23 => some (.bge c (gAt w 21) (gAt w 16) (immAt w))
  | 0x24 => some (.bltu c (gAt w 21) (gAt w 16) (immAt w))
  | 0x25 => some (.bgeu c (gAt w 21) (gAt w 16) (immAt w))
  | 0x26 => some (.jmp c (BitVec.ofNat 26 (bits w 0 26)))
  | 0x27 => some (.call c (BitVec.ofNat 26 (bits w 0 26)))
  | 0x28 => decodeJump c w
  | 0x2c => whenZero (gAt w 16 == 0) (.loop c (gAt w 21) (immAt w))
  | 0x2d => some (.loopi c (BitVec.ofNat 10 (bits w 16 10)) (immAt w))
  | 0x30 => whenZero (gAt w 16 == 0) (.mfs c (gAt w 21) (immAt w))
  | 0x31 => whenZero (gAt w 21 == 0) (.mts c (gAt w 16) (immAt w))
  | 0x32 => whenZero (gAt w 16 == 0) (.cget c (gAt w 21) (immAt w))
  | 0x33 => whenZero (gAt w 21 == 0) (.cput c (gAt w 16) (immAt w))
  | 0x34 => decodeWV c w
  | 0x35 => decodeWM c w
  | 0x36 => decodeWI c w
  | 0x37 => decodeWX c w
  | 0x38 => decodeHeadgate c w
  | 0x3c => whenZero (gAt w 21 == 0 && gAt w 16 == 0 && bits w 8 8 == 0) (.gate c (BitVec.ofNat 8 (bits w 0 8)))
  | 0x3d => decodeReturn c w
  | _ => none

end Sys2Proof
end

