-- ==== Sys2Proof/Machine/Column.lean ====
section
/-! DEFINITION. Column blocks and stream frames (spec/02): header, predictors, payload, bounds decisions, predicates, output units.
Values are W-bit patterns, held as numbers. -/
namespace Sys2Proof.Machine

/-- Width W of a TYPE code (R36); none for a reserved code. -/
def colWidth (ty : Nat) : Option Nat :=
  match ty with
  | 0x01 => some 8 | 0x02 => some 16 | 0x03 => some 32 | 0x04 => some 64
  | 0x05 => some 8 | 0x06 => some 16 | 0x07 => some 32 | 0x08 => some 64
  | 0x09 => some 32 | 0x0A => some 64 | 0x0B => some 64
  | _ => none

def colW (ty : Nat) : Nat := (colWidth ty).getD 64
def colFloat (ty : Nat) : Bool := ty == 0x09 || ty == 0x0A
def colSigned (ty : Nat) : Bool := (0x05 ≤ ty && ty ≤ 0x08) || ty == 0x0B

/-- Predictors allowed for a TYPE (R36). -/
def predAllowed (ty p : Nat) : Bool := if colFloat ty then p == 4 else p == 0 || p == 1 || p == 2 || p == 3 || p == 5

/-- A pattern extended to 64 bits by the type's signedness (R37, R39). -/
def extend64 (ty x : Nat) : Nat :=
  let w := colW ty
  if colSigned ty && decide (2 ^ (w - 1) ≤ x % 2 ^ w) then x % 2 ^ w + (2 ^ 64 - 2 ^ w) else x % 2 ^ w

/-- Fraction bits and exponent mask of F32 and F64. -/
def floatFrac (w : Nat) : Nat := if w = 32 then 23 else 52
def floatExpMax (w : Nat) : Nat := if w = 32 then 0xFF else 0x7FF

def patNaN (w x : Nat) : Bool :=
  decide ((x / 2 ^ floatFrac w) % (floatExpMax w + 1) = floatExpMax w) && decide (x % 2 ^ floatFrac w ≠ 0)

/-- A NaN of a float type (R37). -/
def colNaN (ty x : Nat) : Bool := colFloat ty && patNaN (colW ty) x

def canonNaN (w : Nat) : Nat := if w = 32 then 0x7FC00000 else 0x7FF8000000000000

/-- Order key of a float pattern under IEEE totalOrder over non-NaN values: −0.0 below +0.0 (R37). -/
def totalKey (w x : Nat) : Int :=
  if x / 2 ^ (w - 1) % 2 = 1 then -((x % 2 ^ (w - 1) : Nat) : Int) - 1 else ((x % 2 ^ (w - 1) : Nat) : Int)

/-- Order key under IEEE comparison: −0.0 equals +0.0 (R57). -/
def ieeeKey (w x : Nat) : Int :=
  if x / 2 ^ (w - 1) % 2 = 1 then -((x % 2 ^ (w - 1) : Nat) : Int) else ((x % 2 ^ (w - 1) : Nat) : Int)

/-- Order of R37 for MIN and MAX. -/
def boundKey (ty x : Nat) : Int :=
  if colFloat ty then totalKey (colW ty) (x % 2 ^ colW ty)
  else if colSigned ty then sextNat (colW ty) x else ((x % 2 ^ colW ty : Nat) : Int)

/-- Order of R57 for predicates, on values held extended to 64 bits. -/
def predKey (ty x : Nat) : Int :=
  if colFloat ty then ieeeKey (colW ty) (x % 2 ^ colW ty)
  else if colSigned ty then sextNat 64 x else ((x % 2 ^ 64 : Nat) : Int)

/-- The first element of least key. -/
def minBy (key : Nat → Int) : List Nat → Option Nat
  | [] => none
  | x :: xs => match minBy key xs with
    | none => some x
    | some y => if key y < key x then some y else some x

def maxBy (key : Nat → Int) : List Nat → Option Nat
  | [] => none
  | x :: xs => match maxBy key xs with
    | none => some x
    | some y => if key x < key y then some y else some x

/-- MIN and MAX of a block, extended to 64 bits, and NAN (R37). -/
def boundsOf (ty : Nat) (vs : List Nat) : Nat × Nat × Bool :=
  let good := vs.filter (fun v => !colNaN ty v)
  let nan := vs.any (colNaN ty)
  match minBy (boundKey ty) good, maxBy (boundKey ty) good with
  | some a, some b => (extend64 ty a, extend64 ty b, nan)
  | _, _ => (canonNaN (colW ty), canonNaN (colW ty), nan)

/-- The zigzag map of R40 on W-bit patterns. -/
def zigzag (w r : Nat) : Nat :=
  if r % 2 ^ w < 2 ^ (w - 1) then 2 * (r % 2 ^ w) else 2 ^ w - 1 - (2 * (r % 2 ^ w)) % 2 ^ w

def unzigzag (w z : Nat) : Nat := if z % 2 = 0 then z / 2 else 2 ^ w - 1 - z / 2

def subMod (w a b : Nat) : Nat := (a % 2 ^ w + 2 ^ w - b % 2 ^ w) % 2 ^ w

/-- BASE0 and BASE1 as W-bit patterns (R39). -/
def predBases (p w : Nat) (mn : Nat) (vs refs : List Nat) : Nat × Nat :=
  match p with
  | 0 => (mn % 2 ^ w, 0)
  | 2 => (vs.getD 0 0, vs.getD 1 0)
  | 3 => (subMod w (vs.getD 0 0) (refs.getD 0 0), 0)
  | _ => (vs.getD 0 0, 0)

/-- pred[i] of R39, from the values before i. `prev` is newest first. -/
def predict (p w b0 b1 i : Nat) (prev : List Nat) (refs : List Nat) : Nat :=
  match p with
  | 0 => b0
  | 1 => if i = 0 then b0 else prev.getD 0 0
  | 2 => if i = 0 then b0 else if i = 1 then b1 else subMod w (2 * prev.getD 0 0) (prev.getD 1 0)
  | 3 => (refs.getD i 0 + b0) % 2 ^ w
  | 4 => if i = 0 then b0 else prev.getD 0 0
  | _ => if i = 0 then b0 else subMod w (prev.getD 0 0 + refs.getD i 0) (refs.getD (i - 1) 0)

def residueOf (p w v pr : Nat) : Nat :=
  match p with
  | 0 => subMod w v pr
  | 4 => Nat.xor (v % 2 ^ w) (pr % 2 ^ w)
  | _ => zigzag w (subMod w v pr)

def valueOf (p w r pr : Nat) : Nat :=
  match p with
  | 0 => (r + pr) % 2 ^ w
  | 4 => Nat.xor (r % 2 ^ w) (pr % 2 ^ w)
  | _ => (unzigzag w r + pr) % 2 ^ w

/-- Residues of R39. -/
def residues (p w b0 b1 : Nat) (refs : List Nat) : Nat → List Nat → List Nat → List Nat
  | _, _, [] => []
  | i, prev, v :: vs => residueOf p w v (predict p w b0 b1 i prev refs) :: residues p w b0 b1 refs (i + 1) (v :: prev.take 1) vs

/-- The decoder's inversion of R39. -/
def invert (p w b0 b1 : Nat) (refs : List Nat) : Nat → List Nat → List Nat → List Nat
  | _, _, [] => []
  | i, prev, r :: rs =>
    let v := valueOf p w r (predict p w b0 b1 i prev refs)
    v :: invert p w b0 b1 refs (i + 1) (v :: prev.take 1) rs

/-- Cut into sub-blocks of 128 (R42). -/
def chunk {α : Type} (k : Nat) : Nat → List α → List (List α)
  | 0, _ => []
  | n + 1, xs => if xs.isEmpty then [] else xs.take k :: chunk k n (xs.drop k)

def subBlocks (rs : List Nat) : List (List Nat) := chunk 128 32 rs

def maxWidth (rs : List Nat) : Nat := rs.foldl (fun a z => max a (bitWidth 64 z)) 0

def widthsOf (rs : List Nat) : List Nat := (subBlocks rs).map maxWidth

/-- Bits of the residue stream (R42). -/
def streamBits (count : Nat) (ws : List Nat) : Nat :=
  (ws.zipIdx.map (fun e => min 128 (count - 128 * e.2) * e.1)).sum

def payloadLen (count : Nat) (ws : List Nat) : Nat := 32 + 8 * ceilDiv (streamBits count ws) 64

/-- Residues packed least significant bit first, as one number. -/
def packSub (w : Nat) : List Nat → Nat
  | [] => 0
  | z :: zs => z % 2 ^ w + 2 ^ w * packSub w zs

def packAll : List (Nat × List Nat) → Nat
  | [] => 0
  | (w, zs) :: r => packSub w zs + 2 ^ (w * zs.length) * packAll r

def unpackSub (w : Nat) : Nat → Nat → List Nat
  | 0, _ => []
  | n + 1, x => x % 2 ^ w :: unpackSub w n (x / 2 ^ w)

/-- Residues of `count` values from the packed number, by the width table. -/
def unpackAll : Nat → List Nat → Nat → List Nat
  | _, [], _ => []
  | count, w :: ws, x =>
    let n := min 128 count
    unpackSub w n x ++ unpackAll (count - n) ws (x / 2 ^ (w * n))

/-- A column block header (R34). -/
structure BlkHdr where
  magic : Nat
  ver : Nat
  ty : Nat
  count : Nat
  pflags : Nat
  plen : Nat
  check : Nat
  mn : Nat
  mx : Nat
  base0 : Nat
  base1 : Nat
  xref : Nat
  resv : Nat
deriving DecidableEq, Repr

def BlkHdr.pred (h : BlkHdr) : Nat := h.pflags % 16
def BlkHdr.raw (h : BlkHdr) : Bool := h.pflags / 16 % 2 == 1
def BlkHdr.stream (h : BlkHdr) : Bool := h.pflags / 32 % 2 == 1
def BlkHdr.xcol (h : BlkHdr) : Bool := h.pflags / 64 % 2 == 1
def BlkHdr.last (h : BlkHdr) : Bool := h.pflags / 128 % 2 == 1
def BlkHdr.nan (h : BlkHdr) : Bool := h.pflags / 256 % 2 == 1
/-- Bytes the block occupies with its padding (R38). -/
def BlkHdr.extent (h : BlkHdr) : Nat := roundUp (64 + h.plen) 64

def BlkHdr.bytes (h : BlkHdr) : List Byte :=
  leBytes 2 h.magic ++ leBytes 1 h.ver ++ leBytes 1 h.ty ++ leBytes 2 h.count ++ leBytes 2 h.pflags ++ leBytes 4 h.plen ++
  leBytes 4 h.check ++ leBytes 8 h.mn ++ leBytes 8 h.mx ++ leBytes 8 h.base0 ++ leBytes 8 h.base1 ++ leBytes 8 h.xref ++ leBytes 8 h.resv

def parseHdr (bs : List Byte) : BlkHdr :=
  { magic := fieldLE bs 0 2, ver := fieldLE bs 2 1, ty := fieldLE bs 3 1, count := fieldLE bs 4 2, pflags := fieldLE bs 6 2,
    plen := fieldLE bs 8 4, check := fieldLE bs 12 4, mn := fieldLE bs 16 8, mx := fieldLE bs 24 8, base0 := fieldLE bs 32 8,
    base1 := fieldLE bs 40 8, xref := fieldLE bs 48 8, resv := fieldLE bs 56 8 }

/-- The header checks of BAD_HEADER (R67). -/
def BlkHdr.ok (h : BlkHdr) : Bool :=
  h.magic == 0x5943 && h.ver == 1 && (colWidth h.ty).isSome && decide (1 ≤ h.count) && decide (h.count ≤ 4096) &&
  h.pflags / 512 == 0 && h.resv == 0 && !(h.nan && !colFloat h.ty) &&
  (h.pred == 2 || h.base1 == 0) && (h.pred == 3 || h.pred == 5 || h.xref == 0) &&
  !(h.raw && (h.pred != 0 || h.base0 != 0 || h.base1 != 0 || h.xref != 0)) &&
  (h.xcol == ((h.pred == 3 || h.pred == 5) && !h.raw)) && (h.raw || predAllowed h.ty h.pred) && !h.stream

/-- Original bytes of the values (R45). -/
def valueBytes (w : Nat) (vs : List Nat) : List Byte := (vs.map (leBytes (w / 8))).flatten

/-- Values from verbatim bytes. -/
def valuesOfBytes (w : Nat) : Nat → List Byte → List Nat
  | 0, _ => []
  | n + 1, bs => leNat (bs.take (w / 8)) :: valuesOfBytes w n (bs.drop (w / 8))

def numSubs (count : Nat) : Nat := ceilDiv count 128

/-- The payload checks of BAD_HEADER (R42, R43, R67). -/
def payloadOk (h : BlkHdr) (pay : List Byte) : Bool :=
  let w := colW h.ty
  if h.raw then h.plen == h.count * w / 8
  else
    let tab := (slice pay 0 32).map (·.toNat)
    let ws := tab.take (numSubs h.count)
    ws.all (fun k => decide (k ≤ w)) && (tab.drop (numSubs h.count)).all (fun k => k == 0) && h.plen == payloadLen h.count ws

/-- Values of a block's payload; `refs` are the reference block's values under P3 and P5. -/
def decodePayload (h : BlkHdr) (pay : List Byte) (refs : List Nat) : List Nat :=
  let w := colW h.ty
  if h.raw then valuesOfBytes w h.count pay
  else
    let ws := ((slice pay 0 32).map (·.toNat)).take (numSubs h.count)
    let rs := unpackAll h.count ws (leNat (pay.drop 32))
    invert h.pred w (h.base0 % 2 ^ w) (h.base1 % 2 ^ w) refs 0 [] rs

/-- CHECK of decoded values against the header (R46). -/
def checkOk (h : BlkHdr) (vs : List Nat) : Bool := (crc32c (valueBytes (colW h.ty) vs)).toNat == h.check

/-- A reference of an encode: its core-space DA for XREF, and its values. -/
structure RefBlock where
  da : Nat
  vals : List Nat
deriving DecidableEq, Repr

/-- Candidates of R44 step 1: `pmask` 0 allows all. -/
def candidates (ty pmask : Nat) (ref : Option RefBlock) : List Nat :=
  (List.range 6).filter (fun p =>
    predAllowed ty p && (pmask == 0 || pmask / 2 ^ p % 2 == 1) && (ref.isSome || (p != 3 && p != 5)))

/-- The candidate of least PAYLOAD_LEN, lowest number on a tie (R44). -/
def choose (len : Nat → Nat) : List Nat → Option Nat
  | [] => none
  | p :: ps => match choose len ps with
    | none => some p
    | some q => if len q < len p then some q else some p

/-- One column block with its padding (R34 to R45). -/
def encodeBlock (ty pmask : Nat) (ref : Option RefBlock) (last : Bool) (vs : List Nat) : List Byte :=
  let w := colW ty
  let n := vs.length
  let (mn, mx, nan) := boundsOf ty vs
  let refs := (ref.map (·.vals)).getD []
  let rsOf := fun p => let b := predBases p w mn vs refs; residues p w b.1 b.2 refs 0 [] vs
  let lenOf := fun p => payloadLen n (widthsOf (rsOf p))
  let check := (crc32c (valueBytes w vs)).toNat
  let flags := (if last then 128 else 0) + (if nan then 256 else 0)
  let raw : List Byte :=
    let h : BlkHdr := { magic := 0x5943, ver := 1, ty := ty, count := n, pflags := 16 + flags, plen := n * w / 8, check := check,
                        mn := mn, mx := mx, base0 := 0, base1 := 0, xref := 0, resv := 0 }
    h.bytes ++ valueBytes w vs
  let body : List Byte :=
    match choose lenOf (candidates ty pmask ref) with
    | none => raw
    | some p =>
      if n * w / 8 ≤ lenOf p then raw
      else
        let b := predBases p w mn vs refs
        let rs := rsOf p
        let ws := widthsOf rs
        let x := p == 3 || p == 5
        let h : BlkHdr := { magic := 0x5943, ver := 1, ty := ty, count := n, pflags := p + (if x then 64 else 0) + flags,
                            plen := lenOf p, check := check, mn := mn, mx := mx, base0 := extend64 ty b.1,
                            base1 := if p = 2 ∧ 1 < n then extend64 ty b.2 else 0,
                            xref := if x then (ref.map (·.da)).getD 0 else 0, resv := 0 }
        let tab := ws.map (BitVec.ofNat 8) ++ List.replicate (32 - ws.length) 0
        h.bytes ++ tab ++ leBytes (lenOf p - 32) (packAll (ws.zip (subBlocks rs)))
  body ++ List.replicate (roundUp body.length 64 - body.length) 0

/-- Decisions from bounds (R57). -/
inductive Decision | reject | accept | decode
deriving DecidableEq, Repr

/-- One predicate slot (R57): operation 0 is none. -/
structure Pred where
  op : Nat
  a : Nat
  b : Nat
deriving DecidableEq, Repr

/-- A row passes one predicate (R57); `x` is the W-bit pattern. -/
def rowPass (ty : Nat) (p : Pred) (x : Nat) : Bool :=
  let w := colW ty
  if p.op = 9 then Nat.land (x % 2 ^ w) (p.a % 2 ^ w) == p.b % 2 ^ w
  else if colFloat ty && (patNaN w (x % 2 ^ w) || patNaN w (p.a % 2 ^ w) || ((p.op == 7 || p.op == 8) && patNaN w (p.b % 2 ^ w))) then
    p.op == 2
  else
    let k := predKey ty (extend64 ty x)
    let a := predKey ty p.a
    let b := predKey ty p.b
    match p.op with
    | 1 => k == a
    | 2 => k != a
    | 3 => decide (k < a)
    | 4 => decide (k ≤ a)
    | 5 => decide (a < k)
    | 6 => decide (a ≤ k)
    | 7 => decide (a ≤ k) && decide (k ≤ b)
    | 8 => decide (k < a) || decide (b < k)
    | _ => true

/-- The decision of one predicate from MIN, MAX and NAN (R57). A NaN operand meets no comparison, and accepts no block that its rows fail
(DEDUCED, log entry 107). -/
def boundDecide (ty : Nat) (p : Pred) (h : BlkHdr) : Decision :=
  let w := colW ty
  let m := predKey ty h.mn
  let mM := predKey ty h.mx
  let a := predKey ty p.a
  let b := predKey ty p.b
  let allNaN := colFloat ty && h.nan && patNaN w (h.mn % 2 ^ w)
  let nanA := colFloat ty && patNaN w (p.a % 2 ^ w)
  let nanB := colFloat ty && patNaN w (p.b % 2 ^ w)
  if p.op = 9 then .decode
  else if allNaN then (if p.op = 2 then .accept else .reject)
  else if nanA || ((p.op == 7 || p.op == 8) && nanB) then
    (if p.op = 7 ∧ ((!nanA && decide (mM < a)) || (!nanB && decide (b < m))) = true then .reject else .decode)
  else
    let rej := match p.op with
      | 1 => decide (a < m) || decide (mM < a)
      | 2 => m == a && mM == a && !h.nan
      | 3 => decide (a ≤ m)
      | 4 => decide (a < m)
      | 5 => decide (mM ≤ a)
      | 6 => decide (mM < a)
      | 7 => decide (mM < a) || decide (b < m)
      | 8 => decide (a ≤ m) && decide (mM ≤ b)
      | _ => false
    let acc := match p.op with
      | 1 => m == a && mM == a
      | 2 => decide (a < m) || decide (mM < a)
      | 3 => decide (mM < a)
      | 4 => decide (mM ≤ a)
      | 5 => decide (a < m)
      | 6 => decide (a ≤ m)
      | 7 => decide (a ≤ m) && decide (mM ≤ b)
      | 8 => decide (mM < a) || decide (b < m)
      | _ => true
    if rej then .reject else if acc && (p.op == 2 || !h.nan) then .accept else .decode

/-- The predicate block of R57. -/
structure PredBlock where
  p0 : Pred
  p1 : Pred
  combineOr : Bool
deriving DecidableEq, Repr

/-- Parse the 64 B predicate block; none is BAD_DESC. -/
def parsePreds (bs : List Byte) : Option PredBlock :=
  let op0 := fieldLE bs 0 1
  let op1 := fieldLE bs 24 1
  let cb := fieldLE bs 48 1
  if op0 ≤ 9 && op1 ≤ 9 && cb ≤ 1 && fieldLE bs 1 7 == 0 && fieldLE bs 25 7 == 0 && fieldLE bs 49 15 == 0 then
    some { p0 := ⟨op0, fieldLE bs 8 8, fieldLE bs 16 8⟩, p1 := ⟨op1, fieldLE bs 32 8, fieldLE bs 40 8⟩, combineOr := cb == 1 }
  else none

def rowPasses (ty : Nat) (pb : PredBlock) (x : Nat) : Bool :=
  if pb.p0.op = 0 then (if pb.p1.op = 0 then true else rowPass ty pb.p1 x)
  else if pb.p1.op = 0 then rowPass ty pb.p0 x
  else if pb.combineOr then rowPass ty pb.p0 x || rowPass ty pb.p1 x else rowPass ty pb.p0 x && rowPass ty pb.p1 x

def blockDecide (ty : Nat) (pb : PredBlock) (h : BlkHdr) : Decision :=
  if pb.p0.op = 0 then (if pb.p1.op = 0 then .accept else boundDecide ty pb.p1 h)
  else if pb.p1.op = 0 then boundDecide ty pb.p0 h
  else
    match pb.combineOr, boundDecide ty pb.p0 h, boundDecide ty pb.p1 h with
    | false, .reject, _ => .reject
    | false, _, .reject => .reject
    | false, .accept, .accept => .accept
    | false, _, _ => .decode
    | true, .accept, _ => .accept
    | true, _, .accept => .accept
    | true, .reject, .reject => .reject
    | true, _, _ => .decode

/-- A bitmap of booleans packed to 64-bit words (R58). -/
def bitmapNat : List Bool → Nat
  | [] => 0
  | b :: bs => (if b then 1 else 0) + 2 * bitmapNat bs

def padTo8 (bs : List Byte) : List Byte := bs ++ List.replicate (roundUp bs.length 8 - bs.length) 0

/-- Output unit of one block (R58); `rows` are (passes, pattern) in row order and `first` the block's first row index. -/
def scanUnit (outform ty first : Nat) (rows : List (Bool × Nat)) : List Byte :=
  let w := colW ty
  let hit := (rows.zipIdx).filter (fun e => e.1.1)
  match outform with
  | 0 => leBytes (8 * ceilDiv rows.length 64) (bitmapNat (rows.map (·.1)))
  | 1 => (hit.map (fun e => leBytes 4 (first + e.2))).flatten
  | 2 => padTo8 (valueBytes w (hit.map (fun e => e.1.2)))
  | 3 => (hit.map (fun e => leBytes 8 (first + e.2) ++ leBytes 8 (extend64 ty e.1.2))).flatten
  | 5 => padTo8 (valueBytes w (rows.map (·.2)))
  | _ => []

/-- Stream frames (R47 to R49). -/
def streamCands (pmask : Nat) : List Nat := [0, 1, 4].filter (fun p => pmask == 0 || pmask / 2 ^ p % 2 == 1)

/-- One stream frame (R47, R48): candidates are compared by R48's PAYLOAD_LEN, the length that the frame will have (DEDUCED, log entry 108). -/
def encodeFrame (pmask : Nat) (last : Bool) (bs : List Byte) : List Byte :=
  let words := valuesOfBytes 64 (ceilDiv bs.length 8) (padTo8 bs)
  let n := words.length
  let head := words.take (n - 1)
  let tail := bs.length - 8 * (n - 1)
  let seedOf := fun p => if n ≤ 1 then 0 else if p = 0 then (head.foldl min (head.getD 0 0)) else head.getD 0 0
  let rsOf := fun p => residues p 64 (seedOf p) 0 [] 0 [] head
  let lenOf := fun p => ceilDiv (streamBits (n - 1) (widthsOf (rsOf p))) 8 + tail
  let p := (choose lenOf (streamCands pmask)).getD 0
  let rs := rsOf p
  let ws := widthsOf rs
  let bitsN := streamBits (n - 1) ws
  leBytes 2 0x5943 ++ leBytes 1 1 ++ leBytes 1 4 ++ leBytes 2 n ++
  leBytes 2 (p + 32 + (if last then 128 else 0) + 512 * (tail % 8)) ++ leBytes 4 (lenOf p) ++
  leBytes 4 (crc32c bs).toNat ++ (ws.map (BitVec.ofNat 8) ++ List.replicate (32 - ws.length) 0) ++
  leBytes 8 (seedOf p) ++ leBytes 8 0 ++ leBytes (ceilDiv bitsN 8) (packAll (ws.zip (subBlocks rs))) ++ bs.drop (8 * (n - 1))

/-- Frames of 32,768 input bytes with a shorter final frame (R49). -/
def streamFrames (pmask : Nat) : List (List Byte) → List (List Byte)
  | [] => []
  | [b] => [encodeFrame pmask true b]
  | b :: bs => encodeFrame pmask false b :: streamFrames pmask bs

/-- Row packets (R300): stride of a table's columns in bytes. -/
def strideOf (tys : List Nat) : Nat := 8 * ceilDiv ((tys.map colW).sum) 64

/-- Byte offset of column `j` in a row packet. -/
def colOffset (tys : List Nat) (j : Nat) : Nat := ((tys.take j).map (fun t => colW t / 8)).sum

/-- Values of column `j` of row packets (R300), `rows` of them. -/
def columnOf (tys : List Nat) (j : Nat) (data : List Byte) (rows : Nat) : List Nat :=
  (List.range rows).map (fun r => fieldLE data (r * strideOf tys + colOffset tys j) (colW (tys.getD j 0) / 8))

/-- The metering charge of R20 for a window or piece of R raw bytes. -/
def chargeOf (r ncol stride : Nat) : Nat := r + 128 * ncol * (ceilDiv r (4096 * stride) + 1)

end Sys2Proof.Machine
end

