-- ==== Sys2Proof/Machine/Crypto.lean ====
section
/-! DEFINITION. The digest algorithms of R357: SHA-256, SHA-384, SHA-512 (FIPS 180-4), SHA3-256 (FIPS 202) and HMAC (FIPS 198-1),
as functions on byte lists; and the chaining states that a shadow area holds (R366). -/
namespace Sys2Proof.Machine

def sha256K : List (BitVec 32) :=
  [0x428A2F98#32, 0x71374491#32, 0xB5C0FBCF#32, 0xE9B5DBA5#32, 0x3956C25B#32, 0x59F111F1#32, 0x923F82A4#32, 0xAB1C5ED5#32,
   0xD807AA98#32, 0x12835B01#32, 0x243185BE#32, 0x550C7DC3#32, 0x72BE5D74#32, 0x80DEB1FE#32, 0x9BDC06A7#32, 0xC19BF174#32] ++
  [0xE49B69C1#32, 0xEFBE4786#32, 0x0FC19DC6#32, 0x240CA1CC#32, 0x2DE92C6F#32, 0x4A7484AA#32, 0x5CB0A9DC#32, 0x76F988DA#32,
   0x983E5152#32, 0xA831C66D#32, 0xB00327C8#32, 0xBF597FC7#32, 0xC6E00BF3#32, 0xD5A79147#32, 0x06CA6351#32, 0x14292967#32] ++
  [0x27B70A85#32, 0x2E1B2138#32, 0x4D2C6DFC#32, 0x53380D13#32, 0x650A7354#32, 0x766A0ABB#32, 0x81C2C92E#32, 0x92722C85#32,
   0xA2BFE8A1#32, 0xA81A664B#32, 0xC24B8B70#32, 0xC76C51A3#32, 0xD192E819#32, 0xD6990624#32, 0xF40E3585#32, 0x106AA070#32] ++
  [0x19A4C116#32, 0x1E376C08#32, 0x2748774C#32, 0x34B0BCB5#32, 0x391C0CB3#32, 0x4ED8AA4A#32, 0x5B9CCA4F#32, 0x682E6FF3#32,
   0x748F82EE#32, 0x78A5636F#32, 0x84C87814#32, 0x8CC70208#32, 0x90BEFFFA#32, 0xA4506CEB#32, 0xBEF9A3F7#32, 0xC67178F2#32]

def sha512K : List (BitVec 64) :=
  [0x428A2F98D728AE22#64, 0x7137449123EF65CD#64, 0xB5C0FBCFEC4D3B2F#64, 0xE9B5DBA58189DBBC#64,
   0x3956C25BF348B538#64, 0x59F111F1B605D019#64, 0x923F82A4AF194F9B#64, 0xAB1C5ED5DA6D8118#64,
   0xD807AA98A3030242#64, 0x12835B0145706FBE#64, 0x243185BE4EE4B28C#64, 0x550C7DC3D5FFB4E2#64,
   0x72BE5D74F27B896F#64, 0x80DEB1FE3B1696B1#64, 0x9BDC06A725C71235#64, 0xC19BF174CF692694#64] ++
  [0xE49B69C19EF14AD2#64, 0xEFBE4786384F25E3#64, 0x0FC19DC68B8CD5B5#64, 0x240CA1CC77AC9C65#64,
   0x2DE92C6F592B0275#64, 0x4A7484AA6EA6E483#64, 0x5CB0A9DCBD41FBD4#64, 0x76F988DA831153B5#64,
   0x983E5152EE66DFAB#64, 0xA831C66D2DB43210#64, 0xB00327C898FB213F#64, 0xBF597FC7BEEF0EE4#64,
   0xC6E00BF33DA88FC2#64, 0xD5A79147930AA725#64, 0x06CA6351E003826F#64, 0x142929670A0E6E70#64] ++
  [0x27B70A8546D22FFC#64, 0x2E1B21385C26C926#64, 0x4D2C6DFC5AC42AED#64, 0x53380D139D95B3DF#64,
   0x650A73548BAF63DE#64, 0x766A0ABB3C77B2A8#64, 0x81C2C92E47EDAEE6#64, 0x92722C851482353B#64,
   0xA2BFE8A14CF10364#64, 0xA81A664BBC423001#64, 0xC24B8B70D0F89791#64, 0xC76C51A30654BE30#64,
   0xD192E819D6EF5218#64, 0xD69906245565A910#64, 0xF40E35855771202A#64, 0x106AA07032BBD1B8#64] ++
  [0x19A4C116B8D2D0C8#64, 0x1E376C085141AB53#64, 0x2748774CDF8EEB99#64, 0x34B0BCB5E19B48A8#64,
   0x391C0CB3C5C95A63#64, 0x4ED8AA4AE3418ACB#64, 0x5B9CCA4F7763E373#64, 0x682E6FF3D6B2B8A3#64,
   0x748F82EE5DEFB2FC#64, 0x78A5636F43172F60#64, 0x84C87814A1F0AB72#64, 0x8CC702081A6439EC#64,
   0x90BEFFFA23631E28#64, 0xA4506CEBDE82BDE9#64, 0xBEF9A3F7B2C67915#64, 0xC67178F2E372532B#64] ++
  [0xCA273ECEEA26619C#64, 0xD186B8C721C0C207#64, 0xEADA7DD6CDE0EB1E#64, 0xF57D4F7FEE6ED178#64,
   0x06F067AA72176FBA#64, 0x0A637DC5A2C898A6#64, 0x113F9804BEF90DAE#64, 0x1B710B35131C471B#64,
   0x28DB77F523047D84#64, 0x32CAAB7B40C72493#64, 0x3C9EBE0A15C9BEBC#64, 0x431D67C49C100D4C#64,
   0x4CC5D4BECB3E42B6#64, 0x597F299CFC657E2A#64, 0x5FCB6FAB3AD6FAEC#64, 0x6C44198C4A475817#64]

def sha256H0 : List (BitVec 32) :=
  [0x6A09E667#32, 0xBB67AE85#32, 0x3C6EF372#32, 0xA54FF53A#32, 0x510E527F#32, 0x9B05688C#32, 0x1F83D9AB#32, 0x5BE0CD19#32]

def sha384H0 : List (BitVec 64) :=
  [0xCBBB9D5DC1059ED8#64, 0x629A292A367CD507#64, 0x9159015A3070DD17#64, 0x152FECD8F70E5939#64,
   0x67332667FFC00B31#64, 0x8EB44A8768581511#64, 0xDB0C2E0D64F98FA7#64, 0x47B5481DBEFA4FA4#64]

def sha512H0 : List (BitVec 64) :=
  [0x6A09E667F3BCC908#64, 0xBB67AE8584CAA73B#64, 0x3C6EF372FE94F82B#64, 0xA54FF53A5F1D36F1#64,
   0x510E527FADE682D1#64, 0x9B05688C2B3E6C1F#64, 0x1F83D9ABFB41BD6B#64, 0x5BE0CD19137E2179#64]

def keccakRC : List (BitVec 64) :=
  [0x0000000000000001#64, 0x0000000000008082#64, 0x800000000000808A#64, 0x8000000080008000#64,
   0x000000000000808B#64, 0x0000000080000001#64, 0x8000000080008081#64, 0x8000000000008009#64,
   0x000000000000008A#64, 0x0000000000000088#64, 0x0000000080008009#64, 0x000000008000000A#64,
   0x000000008000808B#64, 0x800000000000008B#64, 0x8000000000008089#64, 0x8000000000008003#64] ++
  [0x8000000000008002#64, 0x8000000000000080#64, 0x000000000000800A#64, 0x800000008000000A#64,
   0x8000000080008081#64, 0x8000000000008080#64, 0x0000000080000001#64, 0x8000000080008008#64]

def keccakRot : List Nat :=
  [0, 1, 62, 28, 27, 36, 44, 6, 55, 20, 3, 10, 43, 25, 39, 41, 45, 15, 21, 8, 18, 2, 61, 56, 14]

/-- Big-endian value of a byte list (FIPS 180-4 words). -/
def beNat (bs : List Byte) : Nat := bs.foldl (fun a b => a * 256 + b.toNat) 0

def beBytes (n x : Nat) : List Byte := (leBytes n x).reverse

/-- Cut a list into words of `k` bytes, big-endian; `n` words. -/
def beWords (w k : Nat) : Nat → List Byte → List (BitVec w)
  | 0, _ => []
  | n + 1, bs => BitVec.ofNat w (beNat (bs.take k)) :: beWords w k n (bs.drop k)

/-- The six functions of a SHA-2 compression, by word width. -/
structure Sha2Fns (w : Nat) where
  S0 : List Nat
  S1 : List Nat
  s0 : List Nat
  s1 : List Nat

/-- Rotation or shift sum: the last amount of the three is a shift when `sh` is true. -/
def sigma {w : Nat} (sh : Bool) : List Nat → BitVec w → BitVec w
  | [a, b, c], x => x.rotateRight a ^^^ x.rotateRight b ^^^ (if sh then x >>> c else x.rotateRight c)
  | _, x => x

def sha256Fns : Sha2Fns 32 := { S0 := [2, 13, 22], S1 := [6, 11, 25], s0 := [7, 18, 3], s1 := [17, 19, 10] }
def sha512Fns : Sha2Fns 64 := { S0 := [28, 34, 39], S1 := [14, 18, 41], s0 := [1, 8, 7], s1 := [19, 61, 6] }

/-- Message schedule, kept newest first; `n` further words. -/
def sha2Schedule {w : Nat} (f : Sha2Fns w) : Nat → List (BitVec w) → List (BitVec w)
  | 0, ws => ws
  | n + 1, ws =>
    let nw := sigma true f.s1 (ws.getD 1 0) + ws.getD 6 0 + sigma true f.s0 (ws.getD 14 0) + ws.getD 15 0
    sha2Schedule f n (nw :: ws)

def sha2Round {w : Nat} (f : Sha2Fns w) (h : List (BitVec w)) (kw : BitVec w × BitVec w) : List (BitVec w) :=
  match h with
  | [a, b, c, d, e, f', g, hh] =>
    let t1 := hh + sigma false f.S1 e + ((e &&& f') ^^^ (~~~e &&& g)) + kw.1 + kw.2
    let t2 := sigma false f.S0 a + ((a &&& b) ^^^ (a &&& c) ^^^ (b &&& c))
    [t1 + t2, a, b, c, d + t1, e, f', g]
  | _ => h

def sha2Block {w : Nat} (f : Sha2Fns w) (ks : List (BitVec w)) (wb : Nat) (h : List (BitVec w)) (blk : List Byte) : List (BitVec w) :=
  let ws := (sha2Schedule f (ks.length - 16) (beWords w wb 16 blk).reverse).reverse
  List.zipWith (· + ·) h ((ks.zip ws).foldl (sha2Round f) h)

/-- Fold a compression over `n` blocks of `b` bytes. -/
def foldBlocks {σ : Type} (step : σ → List Byte → σ) (b : Nat) : Nat → σ → List Byte → σ
  | 0, s, _ => s
  | n + 1, s, bs => foldBlocks step b n (step s (bs.take b)) (bs.drop b)

/-- Padding of FIPS 180-4 for a message of `total` bytes, of which the last `total % b` are pending. -/
def sha2Pad (b lenBytes total : Nat) : List Byte :=
  let z := (b - (total + 1 + lenBytes) % b) % b
  0x80#8 :: (List.replicate z 0 ++ beBytes lenBytes (total * 8))

def sha256Step : List (BitVec 32) → List Byte → List (BitVec 32) := sha2Block sha256Fns sha256K 4
def sha512Step : List (BitVec 64) → List Byte → List (BitVec 64) := sha2Block sha512Fns sha512K 8

/-- Keccak-f[1600], one round (FIPS 202), lanes x + 5y. -/
def keccakRound (a : List (BitVec 64)) (rc : BitVec 64) : List (BitVec 64) :=
  let g := fun (l : List (BitVec 64)) (i : Nat) => l.getD i 0
  let c := (List.range 5).map (fun x => g a x ^^^ g a (x + 5) ^^^ g a (x + 10) ^^^ g a (x + 15) ^^^ g a (x + 20))
  let d := (List.range 5).map (fun x => g c ((x + 4) % 5) ^^^ (g c ((x + 1) % 5)).rotateLeft 1)
  let t := (List.range 25).map (fun i => g a i ^^^ g d (i % 5))
  -- ρ and π: B[y, 2x+3y] = rot(A[x, y])
  let b := (List.range 25).map (fun j =>
    let x' := j % 5
    let y' := j / 5
    let x := (x' + 3 * y') % 5
    let y := x'
    (g t (x + 5 * y)).rotateLeft (keccakRot.getD (x + 5 * y) 0))
  let e := (List.range 25).map (fun i =>
    let x := i % 5
    let y := i / 5
    g b i ^^^ (~~~(g b ((x + 1) % 5 + 5 * y)) &&& g b ((x + 2) % 5 + 5 * y)))
  match e with
  | [] => []
  | h :: tl => (h ^^^ rc) :: tl

def keccakF (a : List (BitVec 64)) : List (BitVec 64) := keccakRC.foldl keccakRound a

def leWords64 : Nat → List Byte → List (BitVec 64)
  | 0, _ => []
  | n + 1, bs => BitVec.ofNat 64 (leNat (bs.take 8)) :: leWords64 n (bs.drop 8)

/-- Absorb one 136 B block of SHA3-256. -/
def sha3Step (a : List (BitVec 64)) (blk : List Byte) : List (BitVec 64) :=
  let m := leWords64 17 blk ++ List.replicate 8 0
  keccakF (List.zipWith (· ^^^ ·) a m)

def sha3Pad (total : Nat) : List Byte :=
  let r := 136 - total % 136
  if r = 1 then [0x86#8] else 0x06#8 :: (List.replicate (r - 2) 0 ++ [0x80#8])

/-- The algorithms of R357 (ALG 1 to 7); HMAC is the flag beside the hash. -/
inductive Hash | sha256 | sha384 | sha512 | sha3
deriving DecidableEq, Repr

/-- The state of an unfinished hash: chaining words (32 or 64 bits, held in 64) and message bytes absorbed. -/
structure HashSt where
  words : List (BitVec 64)
  absorbed : Nat
deriving DecidableEq, Repr

def Hash.block : Hash → Nat
  | .sha256 => 64 | .sha384 => 128 | .sha512 => 128 | .sha3 => 136

def Hash.resultLen : Hash → Nat
  | .sha256 => 32 | .sha384 => 48 | .sha512 => 64 | .sha3 => 32

def Hash.init : Hash → HashSt
  | .sha256 => ⟨sha256H0.map (·.setWidth 64), 0⟩
  | .sha384 => ⟨sha384H0, 0⟩
  | .sha512 => ⟨sha512H0, 0⟩
  | .sha3 => ⟨List.replicate 25 0, 0⟩

def Hash.stepWords (h : Hash) (ws : List (BitVec 64)) (blk : List Byte) : List (BitVec 64) :=
  match h with
  | .sha256 => (sha256Step (ws.map (·.setWidth 32)) blk).map (·.setWidth 64)
  | .sha384 => sha512Step ws blk
  | .sha512 => sha512Step ws blk
  | .sha3 => sha3Step ws blk

/-- Absorb whole blocks. -/
def Hash.absorb (h : Hash) (st : HashSt) (bs : List Byte) : HashSt :=
  ⟨foldBlocks h.stepWords h.block (bs.length / h.block) st.words bs, st.absorbed + bs.length / h.block * h.block⟩

/-- Finish a message: `bs` is what remains after the absorbed whole blocks. -/
def Hash.finish (h : Hash) (st : HashSt) (bs : List Byte) : List Byte :=
  let total := st.absorbed + bs.length
  let pad := match h with
    | .sha256 => sha2Pad 64 8 total
    | .sha384 => sha2Pad 128 16 total
    | .sha512 => sha2Pad 128 16 total
    | .sha3 => sha3Pad total
  let fin := (h.absorb st (bs ++ pad)).words
  match h with
  | .sha256 => (fin.map (fun w => beBytes 4 w.toNat)).flatten
  | .sha384 => ((fin.map (fun w => beBytes 8 w.toNat)).flatten).take 48
  | .sha512 => (fin.map (fun w => beBytes 8 w.toNat)).flatten
  | .sha3 => ((fin.map (fun w => leBytes 8 w.toNat)).flatten).take 32

def Hash.digest (h : Hash) (bs : List Byte) : List Byte := h.finish h.init bs

/-- The key block of HMAC (FIPS 198-1): a longer key is hashed first (R357). -/
def hmacKeyBlock (h : Hash) (key : List Byte) : List Byte :=
  let k := if key.length > h.block then h.digest key else key
  k ++ List.replicate (h.block - k.length) 0

def hmacPad (h : Hash) (key : List Byte) (p : Byte) : List Byte := (hmacKeyBlock h key).map (· ^^^ p)

def hmac (h : Hash) (key msg : List Byte) : List Byte :=
  h.digest (hmacPad h key 0x5C ++ h.digest (hmacPad h key 0x36 ++ msg))

/-- The outer pass of HMAC over an inner digest. -/
def hmacOuter (h : Hash) (key inner : List Byte) : List Byte := h.digest (hmacPad h key 0x5C ++ inner)

end Sys2Proof.Machine
end

