-- ==== Sys2Proof/Machine/Cipher.lean ====
section
/-! DEFINITION. AES-256-XTS (R371, IEEE 1619) on 16 B blocks, the tweaks of R372 and the key slots of R371. -/
namespace Sys2Proof.Machine

def aesS : List Byte :=
  [0x63, 0x7C, 0x77, 0x7B, 0xF2, 0x6B, 0x6F, 0xC5, 0x30, 0x01, 0x67, 0x2B, 0xFE, 0xD7, 0xAB, 0x76] ++
  [0xCA, 0x82, 0xC9, 0x7D, 0xFA, 0x59, 0x47, 0xF0, 0xAD, 0xD4, 0xA2, 0xAF, 0x9C, 0xA4, 0x72, 0xC0] ++
  [0xB7, 0xFD, 0x93, 0x26, 0x36, 0x3F, 0xF7, 0xCC, 0x34, 0xA5, 0xE5, 0xF1, 0x71, 0xD8, 0x31, 0x15] ++
  [0x04, 0xC7, 0x23, 0xC3, 0x18, 0x96, 0x05, 0x9A, 0x07, 0x12, 0x80, 0xE2, 0xEB, 0x27, 0xB2, 0x75] ++
  [0x09, 0x83, 0x2C, 0x1A, 0x1B, 0x6E, 0x5A, 0xA0, 0x52, 0x3B, 0xD6, 0xB3, 0x29, 0xE3, 0x2F, 0x84] ++
  [0x53, 0xD1, 0x00, 0xED, 0x20, 0xFC, 0xB1, 0x5B, 0x6A, 0xCB, 0xBE, 0x39, 0x4A, 0x4C, 0x58, 0xCF] ++
  [0xD0, 0xEF, 0xAA, 0xFB, 0x43, 0x4D, 0x33, 0x85, 0x45, 0xF9, 0x02, 0x7F, 0x50, 0x3C, 0x9F, 0xA8] ++
  [0x51, 0xA3, 0x40, 0x8F, 0x92, 0x9D, 0x38, 0xF5, 0xBC, 0xB6, 0xDA, 0x21, 0x10, 0xFF, 0xF3, 0xD2] ++
  [0xCD, 0x0C, 0x13, 0xEC, 0x5F, 0x97, 0x44, 0x17, 0xC4, 0xA7, 0x7E, 0x3D, 0x64, 0x5D, 0x19, 0x73] ++
  [0x60, 0x81, 0x4F, 0xDC, 0x22, 0x2A, 0x90, 0x88, 0x46, 0xEE, 0xB8, 0x14, 0xDE, 0x5E, 0x0B, 0xDB] ++
  [0xE0, 0x32, 0x3A, 0x0A, 0x49, 0x06, 0x24, 0x5C, 0xC2, 0xD3, 0xAC, 0x62, 0x91, 0x95, 0xE4, 0x79] ++
  [0xE7, 0xC8, 0x37, 0x6D, 0x8D, 0xD5, 0x4E, 0xA9, 0x6C, 0x56, 0xF4, 0xEA, 0x65, 0x7A, 0xAE, 0x08] ++
  [0xBA, 0x78, 0x25, 0x2E, 0x1C, 0xA6, 0xB4, 0xC6, 0xE8, 0xDD, 0x74, 0x1F, 0x4B, 0xBD, 0x8B, 0x8A] ++
  [0x70, 0x3E, 0xB5, 0x66, 0x48, 0x03, 0xF6, 0x0E, 0x61, 0x35, 0x57, 0xB9, 0x86, 0xC1, 0x1D, 0x9E] ++
  [0xE1, 0xF8, 0x98, 0x11, 0x69, 0xD9, 0x8E, 0x94, 0x9B, 0x1E, 0x87, 0xE9, 0xCE, 0x55, 0x28, 0xDF] ++
  [0x8C, 0xA1, 0x89, 0x0D, 0xBF, 0xE6, 0x42, 0x68, 0x41, 0x99, 0x2D, 0x0F, 0xB0, 0x54, 0xBB, 0x16]

def aesInvS : List Byte :=
  [0x52, 0x09, 0x6A, 0xD5, 0x30, 0x36, 0xA5, 0x38, 0xBF, 0x40, 0xA3, 0x9E, 0x81, 0xF3, 0xD7, 0xFB] ++
  [0x7C, 0xE3, 0x39, 0x82, 0x9B, 0x2F, 0xFF, 0x87, 0x34, 0x8E, 0x43, 0x44, 0xC4, 0xDE, 0xE9, 0xCB] ++
  [0x54, 0x7B, 0x94, 0x32, 0xA6, 0xC2, 0x23, 0x3D, 0xEE, 0x4C, 0x95, 0x0B, 0x42, 0xFA, 0xC3, 0x4E] ++
  [0x08, 0x2E, 0xA1, 0x66, 0x28, 0xD9, 0x24, 0xB2, 0x76, 0x5B, 0xA2, 0x49, 0x6D, 0x8B, 0xD1, 0x25] ++
  [0x72, 0xF8, 0xF6, 0x64, 0x86, 0x68, 0x98, 0x16, 0xD4, 0xA4, 0x5C, 0xCC, 0x5D, 0x65, 0xB6, 0x92] ++
  [0x6C, 0x70, 0x48, 0x50, 0xFD, 0xED, 0xB9, 0xDA, 0x5E, 0x15, 0x46, 0x57, 0xA7, 0x8D, 0x9D, 0x84] ++
  [0x90, 0xD8, 0xAB, 0x00, 0x8C, 0xBC, 0xD3, 0x0A, 0xF7, 0xE4, 0x58, 0x05, 0xB8, 0xB3, 0x45, 0x06] ++
  [0xD0, 0x2C, 0x1E, 0x8F, 0xCA, 0x3F, 0x0F, 0x02, 0xC1, 0xAF, 0xBD, 0x03, 0x01, 0x13, 0x8A, 0x6B] ++
  [0x3A, 0x91, 0x11, 0x41, 0x4F, 0x67, 0xDC, 0xEA, 0x97, 0xF2, 0xCF, 0xCE, 0xF0, 0xB4, 0xE6, 0x73] ++
  [0x96, 0xAC, 0x74, 0x22, 0xE7, 0xAD, 0x35, 0x85, 0xE2, 0xF9, 0x37, 0xE8, 0x1C, 0x75, 0xDF, 0x6E] ++
  [0x47, 0xF1, 0x1A, 0x71, 0x1D, 0x29, 0xC5, 0x89, 0x6F, 0xB7, 0x62, 0x0E, 0xAA, 0x18, 0xBE, 0x1B] ++
  [0xFC, 0x56, 0x3E, 0x4B, 0xC6, 0xD2, 0x79, 0x20, 0x9A, 0xDB, 0xC0, 0xFE, 0x78, 0xCD, 0x5A, 0xF4] ++
  [0x1F, 0xDD, 0xA8, 0x33, 0x88, 0x07, 0xC7, 0x31, 0xB1, 0x12, 0x10, 0x59, 0x27, 0x80, 0xEC, 0x5F] ++
  [0x60, 0x51, 0x7F, 0xA9, 0x19, 0xB5, 0x4A, 0x0D, 0x2D, 0xE5, 0x7A, 0x9F, 0x93, 0xC9, 0x9C, 0xEF] ++
  [0xA0, 0xE0, 0x3B, 0x4D, 0xAE, 0x2A, 0xF5, 0xB0, 0xC8, 0xEB, 0xBB, 0x3C, 0x83, 0x53, 0x99, 0x61] ++
  [0x17, 0x2B, 0x04, 0x7E, 0xBA, 0x77, 0xD6, 0x26, 0xE1, 0x69, 0x14, 0x63, 0x55, 0x21, 0x0C, 0x7D]

def aesSub (b : Byte) : Byte := aesS.getD b.toNat 0
def aesInvSub (b : Byte) : Byte := aesInvS.getD b.toNat 0

def aesX (b : Byte) : Byte := if b.getLsbD 7 then (b <<< 1) ^^^ 0x1B#8 else b <<< 1

/-- Product in GF(2^8), by the bits of `n` below `k`. -/
def aesMul : Nat → Nat → Byte → Byte
  | 0, _, _ => 0
  | k + 1, n, b => (if n % 2 = 1 then b else 0) ^^^ aesMul k (n / 2) (aesX b)

def xorBytes (a b : List Byte) : List Byte := List.zipWith (· ^^^ ·) a b

def aesRcon : List Byte := [0x01, 0x02, 0x04, 0x08, 0x10, 0x20, 0x40]

/-- Key schedule of AES-256: words of 4 bytes, newest first; `n` further words after the first 8; `i` is the next index. -/
def aesExpand : Nat → Nat → List (List Byte) → List (List Byte)
  | 0, _, ws => ws
  | n + 1, i, ws =>
    let t := ws.getD 0 []
    let u :=
      if i % 8 = 0 then xorBytes ((t.drop 1 ++ t.take 1).map aesSub) [aesRcon.getD (i / 8 - 1) 0, 0, 0, 0]
      else if i % 8 = 4 then t.map aesSub else t
    aesExpand n (i + 1) (xorBytes (ws.getD 7 []) u :: ws)

/-- The 15 round keys of 16 bytes. -/
def aesRoundKeys (key : List Byte) : List (List Byte) :=
  let w0 := (List.range 8).map (fun i => slice key (4 * i) 4)
  let ws := (aesExpand 52 8 w0.reverse).reverse
  (List.range 15).map (fun r => ((ws.drop (4 * r)).take 4).flatten)

/-- Row shift: byte (r, c) at 4c + r takes column c + d·r. -/
def aesShift (d : Nat) (s : List Byte) : List Byte :=
  (List.range 16).map (fun k => s.getD (4 * ((k / 4 + d * (k % 4)) % 4) + k % 4) 0)

def aesMix (m : List Nat) (s : List Byte) : List Byte :=
  (List.range 16).map (fun k =>
    (List.range 4).foldl (fun a j => a ^^^ aesMul 8 (m.getD ((j + 4 - k % 4) % 4) 0) (s.getD (4 * (k / 4) + j) 0)) 0)

def aesEncrypt (key blk : List Byte) : List Byte :=
  let ks := aesRoundKeys key
  let s0 := xorBytes blk (ks.getD 0 [])
  let mid := ((ks.drop 1).take 13).foldl (fun s k => xorBytes (aesMix [2, 3, 1, 1] (aesShift 1 (s.map aesSub))) k) s0
  xorBytes (aesShift 1 (mid.map aesSub)) (ks.getD 14 [])

def aesDecrypt (key blk : List Byte) : List Byte :=
  let ks := aesRoundKeys key
  let s0 := (aesShift 3 (xorBytes blk (ks.getD 14 []))).map aesInvSub
  let mid := ((ks.drop 1).take 13).reverse.foldl
    (fun s k => (aesShift 3 (aesMix [14, 11, 13, 9] (xorBytes s k))).map aesInvSub) s0
  xorBytes mid (ks.getD 0 [])

/-- Multiplication of the tweak by α in GF(2^128), little-endian bytes. -/
def xtsAlpha (t : List Byte) : List Byte :=
  let n := leNat t * 2
  leBytes 16 (if n ≥ 2 ^ 128 then Nat.xor (n - 2 ^ 128) 0x87 else n)

/-- XTS over a data unit of whole 16 B blocks with block function `f`. -/
def xtsBlocks (f : List Byte → List Byte) : Nat → List Byte → List Byte → List Byte
  | 0, _, _ => []
  | n + 1, t, bs => xorBytes (f (xorBytes (bs.take 16) t)) t ++ xtsBlocks f n (xtsAlpha t) (bs.drop 16)

/-- AES-256-XTS of a data unit under a 64 B slot content: bytes 0–31 Key1, 32–63 Key2 (R371). -/
def xtsEncrypt (slot : W512) (tweak : Nat) (d : List Byte) : List Byte :=
  let k := bytesOf slot
  xtsBlocks (aesEncrypt (k.take 32)) (d.length / 16) (aesEncrypt (k.drop 32) (leBytes 16 tweak)) d

def xtsDecrypt (slot : W512) (tweak : Nat) (d : List Byte) : List Byte :=
  let k := bytesOf slot
  xtsBlocks (aesDecrypt (k.take 32)) (d.length / 16) (aesEncrypt (k.drop 32) (leBytes 16 tweak)) d

/-- Tweak of a memory line (R372). -/
def tweakMem (da : Nat) : Nat := da / 64

/-- Tweak of a segment extent unit, seal copies and metadata (R372). -/
def tweakSegment (slot off : Nat) : Nat := slot * 2 ^ 13 + off / 4096
def tweakSeal (slot copy : Nat) : Nat := slot * 2 ^ 13 + 4096 + copy
def tweakMeta (unit : Nat) : Nat := 2 ^ 127 + unit

/-- Key slots of owner tags (R371): memory and store keys. -/
def memKeySlot (tag : Nat) : Nat := if tag = 31 then 2 else 8 + 4 * tag
def storeKeySlot (tag : Nat) : Nat := if tag = 31 then 3 else 9 + 4 * tag
def imageKeySlot (i : Nat) : Nat := 10 + 4 * i
def oekSlot (i : Nat) : Nat := 11 + 4 * i
def sessionKeySlot (p : Nat) : Nat := 128 + p

end Sys2Proof.Machine
end

