-- ==== Sys2Proof/Config.lean ====
section
/-! DEFINITION. What manufacture fixes and what the spec leaves open: constants with no body, so no proof can lean on a value of theirs. -/
namespace Sys2Proof.Config

/-- Root key RK of slot 0 and firmware key FWK of slot 1, from the fuses (R375). -/
opaque rootKey : W512
opaque fwKey : W512

/-- SERIAL and MFG_DAY of the identity record (R428). -/
opaque serial : W128
opaque mfgDay : W32

/-- Free values, applied to the counter `fresh` of the state: a value the spec does not state (log entry 2). -/
opaque freeWord : Nat → BitVec 64

/-- Free bytes: contents the spec leaves unspecified (R85, R273). -/
opaque freeByte : Nat → BitVec 8

/-- Bytes of a NAND block, which the spec keeps internal (R345; log entry 101). -/
opaque nandBlock : Nat

/-- Bytes that a cluster's injection port holds, and that the network takes from it in 1 ns beyond the floor of R94 at a setpoint (R91; log entry 26). -/
opaque injectRoom : Nat
opaque injectRate : Nat → Nat

/-- Time for which a codec job of so many input bytes consumes or writes, in ns (R393; log entry 105). -/
opaque codecTime : Nat → Nat

/-- Bytes of a checkpoint of so many segments, and the core time of a self-test of so much test time, as Lantern counts them (R400; log entry 106). -/
opaque ckptBytes : Nat → Nat
opaque testWork : Nat → Nat

/-- The address of the keeper dispatch loop, where a core continues after DONE (R116); firmware fixes it (log entry 21). -/
opaque dispatchLoop : W64

end Sys2Proof.Config
end

