-- ==== Sys2Proof/Machine/SMap.lean ====
section
/-! DEFINITION. Sparse maps from numbers, as plain data: sorted association lists with a default.
`SMap` keeps every entry it is given; `Cells` is the canonical byte memory (no entry equal to zero). -/
namespace Sys2Proof.Machine

/-- Entries in strictly rising key order. -/
abbrev SMap (α : Type) := List (Nat × α)

def SMap.find {α : Type} : SMap α → Nat → Option α
  | [], _ => none
  | (k, v) :: m, i => if k = i then some v else SMap.find m i

/-- The value at `i`, or `d` where nothing is listed. -/
def SMap.get {α : Type} (m : SMap α) (d : α) (i : Nat) : α := (SMap.find m i).getD d

def SMap.set {α : Type} : SMap α → Nat → α → SMap α
  | [], i, v => [(i, v)]
  | (k, w) :: m, i, v =>
    if i < k then (i, v) :: (k, w) :: m
    else if k = i then (k, v) :: m
    else (k, w) :: SMap.set m i v

def SMap.erase {α : Type} : SMap α → Nat → SMap α
  | [], _ => []
  | (k, w) :: m, i => if k = i then SMap.erase m i else (k, w) :: SMap.erase m i

/-- Every listed value changed by `f` (which sees the key). -/
def SMap.mapVals {α : Type} (m : SMap α) (f : Nat → α → α) : SMap α := m.map (fun e => (e.1, f e.1 e.2))

/-- Values of another type at the same keys. -/
def SMap.mapTo {α β : Type} (m : SMap α) (f : α → β) : SMap β := m.map (fun e => (e.1, f e.2))

/-- Keys strictly rising. -/
def SMap.sorted {α : Type} : SMap α → Bool
  | [] => true
  | [_] => true
  | (k, _) :: (j, w) :: m => decide (k < j) && SMap.sorted ((j, w) :: m)

/-- A memory of bytes; an unlisted address reads 0 (DESIGN CHOICE, log entry 4). -/
abbrev Cells := List (Nat × BitVec 8)

def Cells.read (m : Cells) (a : Nat) : BitVec 8 := SMap.get m 0 a

/-- Writing 0 removes the entry, so equal memories are equal lists. -/
def Cells.write (m : Cells) (a : Nat) (b : BitVec 8) : Cells :=
  if b = 0 then SMap.erase m a else SMap.set m a b

/-- Canonical form: strictly rising addresses and no zero entry. -/
def Cells.wf (m : Cells) : Bool := SMap.sorted m && m.all (fun e => decide (e.2 ≠ 0))

/-- `bs` written upward from `a`. -/
def Cells.writeList : Cells → Nat → List (BitVec 8) → Cells
  | m, _, [] => m
  | m, a, b :: bs => Cells.writeList (Cells.write m a b) (a + 1) bs

/-- `n` bytes read upward from `a`. -/
def Cells.readList (m : Cells) (a : Nat) : Nat → List (BitVec 8)
  | 0 => []
  | n + 1 => Cells.read m a :: Cells.readList m (a + 1) n

/-- Every byte of [a, a+n) back to 0. -/
def Cells.clear (m : Cells) (a n : Nat) : Cells := m.filter (fun e => decide (e.1 < a) || decide (a + n ≤ e.1))

end Sys2Proof.Machine
end

