-- ==== Sys2Proof/Machine/StCore.lean ====
section
/-! DEFINITION. State of a Dravmel-64 core (spec/05 R129 to R155, spec/06 R159 to R167, spec/07 R191 to R214). -/
namespace Sys2Proof.Machine

/-- A data-cache line (R210): DA / 64, dirty, and its 64 bytes. -/
structure CLine where
  line : Nat
  dirty : Bool
  data : W512
deriving DecidableEq, Repr

/-- What waits for the outstanding miss (R212): a load into a register or a store of `size` low bytes. -/
inductive MissUse | load (rd : GReg) (da size : Nat) (sgn : Bool) | store (da size : Nat) (val : W64)
deriving DecidableEq, Repr

structure Miss where
  line : Nat
  use : MissUse
deriving DecidableEq, Repr

/-- The input streamer (R149): next line and first line beyond the range, as DA / 64, and the highest line the core has loaded from the range. -/
structure Streamer where
  next : Nat
  stop : Nat
  used : Nat
deriving DecidableEq, Repr

/-- An instruction in the wide queue (R164, R165): its unit, whether it is of major 0x35, the wide registers that are its operands, those it writes, and the
scalar results that its completion writes. -/
structure WEntry where
  unit : WUnit
  mem : Bool
  reads : List WReg
  writes : List WReg
  dst : List (GReg × W64)
deriving DecidableEq, Repr

/-- An instruction that waits in a stall of R119, with what it will do. -/
inductive Stalled
  | post (sel : Bool) (w1 w2 : W64)
  | send (exch : Nat) (wide : Bool) (bytes : List Byte)
  | codec (v : W64)
  | digest (v : W64)
deriving DecidableEq, Repr

/-- What a core is doing: issuing, blocked in TAKE, WAIT or a stall since a tick, in DONE step 2 (R118), or halted by a core fault (R189). -/
inductive Activity
  | running
  | taking (since : Nat)
  | waiting
  | stalled (since : Nat) (op : Stalled)
  | inDone
  | halted
deriving DecidableEq, Repr

/-- An interrupt controller (R202 to R208). `fired` says that the TIMER edge for the present COMPARE has been given. -/
structure ICtl where
  pend : W64
  en : W64
  act : BitVec 6
  hold : Bool
  timer : W64
  fired : Bool
deriving DecidableEq, Repr

/-- Reset values of R208. -/
def ICtl.reset : ICtl := { pend := 0, en := 0, act := 0, hold := false, timer := BitVec.allOnes 64, fired := false }

structure Core where
  g : Vector W64 32
  w : Vector Wide 16
  vln : W64
  lpc : W64
  lps : W64
  lpe : W64
  era : W64
  est : W64
  pc : W64
  keeper : Bool
  ie : Bool
  vres : BitVec 10
  spill : Bool
  winLo : W64
  winHi : W64
  ksp : W64
  spvec : W64
  spstk : W64
  gtbase : W64
  evec : W64
  waysS : Byte
  waysW : Byte
  waysP : Byte
  ic : ICtl
  ls : Cells
  cache : SMap CLine
  lfsr : W16
  miss : Option Miss
  wbuf : Option CLine
  strm : Option Streamer
  icache : List Nat
  wq : List WEntry
  act : Activity
  item : Option (Nat × Bool)
  progress : Nat
deriving DecidableEq, Repr

/-- A core after power-on or PERST#. The registers that the spec gives no reset value are 0 and the core runs in keeper mode
(DESIGN CHOICE, log entry 10). -/
def Core.reset : Core :=
  { g := Vector.replicate 32 0, w := Vector.replicate 16 0, vln := 64, lpc := 0, lps := 0, lpe := 0, era := 0, est := 0, pc := 0,
    keeper := true, ie := false, vres := 0, spill := false, winLo := 0, winHi := 0, ksp := 0, spvec := 0, spstk := 0, gtbase := 0,
    evec := 0, waysS := 0x3F, waysW := 0x3F, waysP := 0xC0, ic := ICtl.reset, ls := [], cache := [], lfsr := 0xACE1, miss := none,
    wbuf := none, strm := none, icache := [], wq := [], act := .running, item := none, progress := 0 }

/-- A register read: g0 reads as zero (R129). -/
def Core.rd (k : Core) (r : GReg) : W64 := if r = 0 then 0 else k.g[r.toNat]

/-- A register write: one to g0 is discarded (R129). -/
def Core.wr (k : Core) (r : GReg) (v : W64) : Core := if r = 0 then k else { k with g := k.g.set r.toNat v }

/-- A wide instruction completes: its scalar results are written (R165). -/
def Core.finishWide (k : Core) (e : WEntry) : Core := e.dst.foldl (fun k d => k.wr d.1 d.2) k

/-- The wide queue drained (R184). -/
def Core.drainWide (k : Core) : Core := { k.wq.foldl Core.finishWide k with wq := [] }

def Core.rdw (k : Core) (r : WReg) : Wide := k.w[r.toNat]
def Core.wrw (k : Core) (r : WReg) (v : Wide) : Core := { k with w := k.w.set r.toNat v }

end Sys2Proof.Machine
end

