-- ==== Sys2Proof/Machine/StField.lean ====
section
/-! DEFINITION. State of the field ports (spec/10 R283 to R309). -/
namespace Sys2Proof.Machine

/-- A GRANT window (R301): offset, length, the byte ranges received (disjoint, rising) and its GRANT's tick. -/
structure Window where
  off : Nat
  len : Nat
  got : List (Nat × Nat)
  tick : Nat
deriving DecidableEq, Repr

inductive TagState | queued | held | granted | full | flush
deriving DecidableEq, Repr

/-- A tag in use (R302): its command's arrival number in the instance, L, next ungranted offset, outstanding windows and start order. -/
structure Tag where
  state : TagState
  cmd : Nat
  len : Nat
  next : Nat
  windows : List Window
  order : Nat
deriving DecidableEq, Repr

/-- A session (R291 to R295): identifier, key slot, unit address, last SEQ accepted and last sent, ticks of the last frames and tags. -/
structure Session where
  id : W32
  slot : Nat
  mac : BitVec 48
  rx : W32
  tx : W32
  rxTick : Nat
  txTick : Nat
  tags : SMap Tag
deriving DecidableEq, Repr

/-- An accepted OPEN whose OPEN_ACK is still to be sent (R292 step 3), with the general slot that holds its port key (R375). -/
structure OpenReq where
  unonce : List Byte
  mac : BitVec 48
  slot : Nat
deriving DecidableEq, Repr

/-- A field port. `lastTurn` is the start order of the APPEND whose tag a GRANT served last (R304). -/
structure Port where
  lock : Bool
  laneFault : Bool
  sess : Option Session
  pend : Option Session
  opens : List OpenReq
  nextId : W32
  lastTurn : Nat
  refusal : Option Nat
  authTicks : List Nat
  rxOk : W32
  authErr : W32
  replay : W32
  protoErr : W32
  fcsErr : W32
  drop : W32
  overrun : W32
  underrun : W32
  dataBytes : W64
deriving DecidableEq, Repr

def Port.reset : Port :=
  { lock := false, laneFault := false, sess := none, pend := none, opens := [], nextId := 1, lastTurn := 0, refusal := none, authTicks := [], rxOk := 0,
    authErr := 0, replay := 0, protoErr := 0, fcsErr := 0, drop := 0, overrun := 0, underrun := 0, dataBytes := 0 }

structure Fp where
  tmo : W32
  ka : W32
  quar : W32
  inflight : W32
  ports : SMap Port
  nextOrder : Nat
deriving DecidableEq, Repr

def Fp.reset : Fp := { tmo := 5000, ka := 100, quar := 16, inflight := 64, ports := [], nextOrder := 1 }

end Sys2Proof.Machine
end

