-- ==== Sys2Proof/Machine/StInst.lean ====
section
/-! DEFINITION. State of an instance: rings, commands and class queues (spec/08 R229 to R247, spec/09 R252 to R273), and of the Sluice. -/
namespace Sys2Proof.Machine

/-- States of R247. FAILED keeps its cause: a link down may be left by an FLR after the link returns, the others only at power-on or PERST#. -/
inductive InstState | none | stopped | running | resetting | failedLink | failedHard
deriving DecidableEq, Repr

/-- Where a command came from: the ring, or a tag of a session of a field port (R254). -/
inductive Src | ring | field (port tag : Nat) (session : W32)
deriving DecidableEq, Repr

/-- An append under way (R102, R260, R301): its table, length, intake buffer, the room for its blocks until it lands, bytes present, charges of its
pieces or windows (R20), whether all its bytes are present, and its ingest items made and committed. -/
structure AppendWork where
  table : Nat
  len : Nat
  bufDa : Nat
  roomDa : Option Nat
  got : Nat
  charges : Nat
  full : Bool
  made : Nat
  committed : Nat
deriving DecidableEq, Repr

/-- What a started command is doing. -/
inductive Work
  | none
  | append (a : AppendWork)
  | flush
  | query (ctx : Nat)
  | image (id : W64)
  | rekey
  | activate
deriving DecidableEq, Repr

/-- Phases of a command: an ABORT waiting for the Sluice to act on it; in a class queue; started; an ABORT that has its status and waits for its
target's completion (R272). -/
inductive Phase | abortHeld | queued | started | abortWait (target : Nat) (status : W16)
deriving DecidableEq, Repr

/-- A command record (R230, R253): its arrival number orders commands of the instance. -/
structure Cmd where
  no : Nat
  src : Src
  cid : W16
  opc : Nat
  cls : Nat
  fence : Bool
  bytes : List Byte
  phase : Phase
  work : Work
  batch : Option Nat
deriving DecidableEq, Repr

/-- A member of a batch (R243): its CID, the CIDs its completion releases and, once it completed, its status and result. -/
structure Member where
  no : Nat
  cid : W16
  rel : List W16
  fin : Option (W16 × W64)
deriving DecidableEq, Repr

/-- A batch whose completion is not yet formed (R242): members oldest first, and whether an entry has closed it. -/
structure Batch where
  no : Nat
  members : List Member
  closed : Bool
deriving DecidableEq, Repr

/-- A completion (R231) and the CIDs it releases (R238). -/
structure Cqe where
  entry : W128
  cids : List W16
deriving DecidableEq, Repr

/-- A loaded image, or one being loaded (R78, R80): IMAGE_ID, its copy's DA and bytes. -/
structure Image where
  id : W64
  da : Nat
  bytes : List Byte
  loading : Bool
deriving DecidableEq, Repr

/-- An instance's rings and commands. `limit` is the SQ_PI up to which it fetches and `lapped` that it waits for a valid one (R235, R237); `cqBad` that the last
CQ_CI was invalid (R241); `reads` counts index-block reads to come (R234) and `readTick` is the tick of the last; `cmds` holds command records in order of
arrival, `done` completions held in their records and `culvert` those in the completion culvert (R240), oldest first; `deficit`, `streak` and `cap` belong to
R255; `failing` says that it became FAILED and its work is still to be discarded (R328); `abortCids` are the CIDs last given to ABORTs (R272); `regions` lists what lies in its memory share. -/
structure Inst where
  state : InstState
  failing : Bool
  sqBase : Nat
  cqBase : Nat
  idxAddr : Nat
  sqLog : Nat
  cqLog : Nat
  modCount : Nat
  modTime : Nat
  sqCi : W32
  sqPi : W32
  limit : W32
  lapped : Bool
  cqPi : W32
  cqCi : W32
  cqBad : Bool
  evSeq : W32
  reads : Nat
  readTick : Nat
  events : W32
  cmds : List Cmd
  abortCids : List W16
  nextNo : Nat
  openBatch : Option Nat
  batches : List Batch
  nextBatch : Nat
  deficit : List Nat
  streak : Nat
  cap : Nat
  done : List Cqe
  culvert : List Cqe
  stall : Bool
  unsig : Nat
  unsigTick : Option Nat
  images : List Image
  regions : List (Nat × Nat)
  cqStall : W32
  urgDef : W32
  malf : W32
  starts : W32
deriving DecidableEq, Repr

/-- An instance with no rings; `cap` starts at the register's default (DESIGN CHOICE, log entry 12). -/
def Inst.reset : Inst :=
  { state := .none, failing := false, sqBase := 0, cqBase := 0, idxAddr := 0, sqLog := 0, cqLog := 0, modCount := 0, modTime := 0, sqCi := 0, sqPi := 0,
    limit := 0, lapped := false, cqPi := 0, cqCi := 0, cqBad := false, evSeq := 0, reads := 0, readTick := 0, events := 0, cmds := [], abortCids := [], nextNo := 0,
    openBatch := none, batches := [], nextBatch := 0, deficit := [0, 0, 0, 0], streak := 0, cap := 4, done := [], culvert := [],
    stall := false, unsig := 0, unsigTick := none, images := [], regions := [], cqStall := 0, urgDef := 0, malf := 0, starts := 0 }

/-- An instance with nothing but its counters of R282 and R406, which run from power-on or PERST#. -/
def Inst.blank (x : Inst) : Inst := { Inst.reset with cqStall := x.cqStall, urgDef := x.urgDef, malf := x.malf, starts := x.starts }

/-- The state of a self-test (R275, R277, R278); `ended` by a reset, its result still to be logged. -/
inductive TestState | idle | running | paused | ended
deriving DecidableEq, Repr

/-- A result of the self-test log, 32 B (R279). -/
structure TestLog where
  kind : Nat
  result : Nat
  element : Nat
  index : Nat
  start : Nat
  testNs : Nat
deriving DecidableEq, Repr

/-- The Sluice (R282), the self-test (R275 to R279) and the firmware (R266, R274). `act` says that an activation has begun its pause,
and `actNo` names its command, of instance 0. -/
structure Sluice where
  classw : W32
  urgcap : W32
  test : TestState
  testKind : Nat
  testStart : Nat
  testNs : Nat
  testTick : Nat
  lastCmd : Nat
  log : List TestLog
  staged : List Byte
  revision : W64
  act : Bool
  actNo : Nat
  lastInst : Option Nat
  lastGrantInst : Option Nat
  lastGrantPort : SMap Nat
deriving DecidableEq, Repr

/-- Reset values of R282; the running firmware revision is 1 (DESIGN CHOICE, log entry 9). -/
def Sluice.reset : Sluice :=
  { classw := 0x1248, urgcap := 4, test := .idle, testKind := 0, testStart := 0, testNs := 0, testTick := 0,
    lastCmd := 0, log := [], staged := [], revision := 1, act := false,
    actNo := 0, lastInst := none, lastGrantInst := none, lastGrantPort := [] }

end Sys2Proof.Machine
end

