-- ==== Sys2Proof/Machine/StFlash.lean ====
section
/-! DEFINITION. State of the flash store and the owners' partitions (spec/12 R332 to R356, spec/13 R377) and of Lantern (spec/14 R397 to R407). -/
namespace Sys2Proof.Machine

/-- A column of a schema (R263). -/
structure ColDef where
  ty : Nat
  pmask : Nat
  ref : Nat
deriving DecidableEq, Repr

/-- A column block of a table (R333, R334): its append, rows, bytes with padding, place in memory while it is resident, whether it is lost, when it landed,
the SEQ of its sealed segment (none while its segment is open), the run it lies in (R38, R350), and whether a seal under way takes it. -/
structure Block where
  lsn : Nat
  rows : Nat
  firstRow : Nat
  len : Nat
  da : Option Nat
  lost : Bool
  landedTick : Nat
  seg : Option Nat
  run : Nat
  taken : Bool
deriving DecidableEq, Repr

/-- A table (R263) with its landed rows and the blocks of each column, in landing order. -/
structure Table where
  id : Nat
  cols : List ColDef
  rows : Nat
  blocks : List (List Block)
deriving DecidableEq, Repr

/-- An entry of page 0x03 (R355). -/
structure LostEntry where
  table : Nat
  col : Nat
  cause : Nat
  firstRow : Nat
  rows : Nat
  time : Nat
deriving DecidableEq, Repr

/-- An owner's partition (R343, R377): its creation number (OCTR, R376), nonce, enrolment key and generation, tables, Dry, next LSN and durable frontier, table counter,
lost ranges and whether one was dropped, the next run number, the (LSN, source, arrival number) of landed appends not yet durable, and those of appends
with a lost block that no FLUSH has reported yet (R338). -/
structure Owner where
  no : Nat
  nonce : List Byte
  oek : Option W512
  gen : W32
  tables : List Table
  nextTable : Nat
  dry : Bool
  nextLsn : Nat
  dur : Nat
  lost : List LostEntry
  lostDropped : Bool
  nextRun : Nat
  origins : List (Nat × Src × Nat)
  bad : List (Nat × Src × Nat)
deriving DecidableEq, Repr

/-- One copy of a partition header (R343, R377): its generation, what it records of the owner, the supervisor store key that it is written under (R372), and
whether its digest checks. -/
structure Header where
  gen : Nat
  no : Nat
  nonce : List Byte
  oek : Option W512
  keyGen : W32
  schemas : List (Nat × List ColDef)
  nextTable : Nat
  dry : Bool
  key : Option W512
  good : Bool
deriving DecidableEq, Repr

/-- A block of a segment (R334): table, column, LSN, first row, rows, the LOST flag of its directory entry, its bytes, and whether its loss on flash was
found since (R346). -/
structure SegBlock where
  table : Nat
  col : Nat
  lsn : Nat
  firstRow : Nat
  rows : Nat
  lost : Bool
  bytes : List Byte
  gone : Bool
deriving DecidableEq, Repr

/-- A seal copy (R336): the die of its page and whether its digest checks. -/
structure SealCopy where
  die : Nat
  good : Bool
deriving DecidableEq, Repr

/-- A sealed segment (R332 to R337): seal fields, contents, when it was last scanned, its slot, the owner's store key it is written under, the dies of the
17 pages of each of its stripe rows, its pages that fail their code, its two seal copies, reads since its last erase and the tick of its last read scrub
(negative for one of an earlier power-on). -/
structure Segment where
  seq : Nat
  owner : Nat
  table : Nat
  col : Nat
  extent : Nat
  lsnLo : Nat
  lsnHi : Nat
  dur : Nat
  sup : List Nat
  blocks : List SegBlock
  slot : Nat
  scanned : Nat
  key : W512
  dies : List (List Nat)
  failed : List PageAt
  seals : List SealCopy
  reads : Nat
  scrubTick : Int
deriving DecidableEq, Repr

/-- A seal that has fallen due and is being written (R336, R338): the blocks it takes, in order of sealing. -/
structure SealJob where
  owner : Nat
  table : Nat
  col : Nat
  sup : List Nat
  blocks : List (Nat × Nat × Nat)
deriving DecidableEq, Repr

/-- A checkpoint area (R341, R376, R389): highest SEQ covered, DUR of each owner by its creation number, the segment map as SEQs, the free slots and the first
never used, erase counts, the allocation order of the next slots, OCTR, the next scrub row of each channel, each segment's reads and age of its last
scrub in ns, the supervisor store key it is written under, and whether its digest checks. -/
structure Ckpt where
  seq : Nat
  durs : SMap Nat
  segs : List Nat
  free : List Nat
  nextSlot : Nat
  wear : SMap Nat
  order : List Nat
  octr : Nat
  scrub : SMap Nat
  reads : List (Nat × Nat × Nat)
  key : Option W512
  good : Bool
deriving DecidableEq, Repr

/-- An area of a new module: it covers nothing. -/
def Ckpt.reset : Ckpt :=
  { seq := 0, durs := [], segs := [], free := [], nextSlot := 0, wear := [], order := List.range 16384, octr := 0, scrub := [], reads := [], key := none,
    good := true }

/-- The flash store (R356) and the owners. `rebuild` holds the dies being rebuilt with the bytes each draws from the reserve (R344); `areas` the two checkpoint
areas and `turn` the one written last; `erases` the erase count of each slot (R347); `spare` the blocks that each die's own pool has replaced (R345);
`reserveUsed` is in bytes; `headers` the two header copies of each owner; `ports` says of each port whether it is disabled and quarantined (R306, R307). -/
structure Flash where
  ready : Bool
  unusable : Bool
  rebuild : List (Nat × Nat)
  sealSeq : Nat
  areas : Ckpt × Ckpt
  turn : Nat
  ckptTick : Nat
  sealsSince : Nat
  written : Nat
  reserveUsed : Nat
  lostCnt : W32
  dieFail : List Nat
  owners : SMap Owner
  headers : SMap (List Header)
  segments : List Segment
  jobs : List SealJob
  nextSlot : Nat
  freeSlots : List Nat
  erases : SMap Nat
  spare : SMap Nat
  ports : SMap (Bool × Bool)
deriving DecidableEq, Repr

def Flash.reset : Flash :=
  { ready := false, unusable := false, rebuild := [], sealSeq := 0, areas := (Ckpt.reset, Ckpt.reset), turn := 0, ckptTick := 0,
    sealsSince := 0, written := 0, reserveUsed := 0, lostCnt := 0, dieFail := [], owners := [], headers := [], segments := [], jobs := [],
    nextSlot := 0, freeSlots := [], erases := [], spare := [], ports := [] }

/-- The checkpoint written last (R341). -/
def Flash.ckpt (f : Flash) : Ckpt := if f.turn = 0 then f.areas.1 else f.areas.2

/-- An event-log entry (R404). -/
structure Event where
  seq : Nat
  time : Nat
  tick : Nat
  code : Nat
  inst : Nat
  sev : Nat
  arg : W32
deriving DecidableEq, Repr

/-- Activity since the last sample, per instance (R400): core ns, codec, digest, memory, Distributary, flash read, flash write, field and host bytes. -/
structure Act where
  core : Nat
  codec : Nat
  digest : Nat
  mem : Nat
  dist : Nat
  fread : Nat
  fwrite : Nat
  field : Nat
  host : Nat
deriving DecidableEq, Repr

def Act.zero : Act := { core := 0, codec := 0, digest := 0, mem := 0, dist := 0, fread := 0, fwrite := 0, field := 0, host := 0 }

/-- Lantern (R407). `idle` is TL_IDLE as the last sample shows it and `idleEst` the estimate; `quiet` is the interval without foreground work at one
setpoint up to the last sample, by its first tick and its energy, `spTick` the tick of the last setpoint change, and `mark` the tick that the next
sample's interval starts at (R400). `log` is newest first, at most 1,024 entries; activity key 31 is background work; `held` is each
instance's time held by the pacer since the last sample, `hist` the ticks, energies and core times of the samples of the last second, `pages` the
instances' telemetry pages of the last sample. -/
structure Tl where
  pace : W32
  paceStat : W32
  cqStall : W32
  evSeq : Nat
  evShown : Nat
  sample : Nat
  idle : W32
  idleEst : W32
  quiet : Option (Nat × Nat)
  spTick : Nat
  mark : Nat
  rail : List Nat
  power : List W32
  temp : List (Option W16)
  energyMod : Nat
  energyUnattr : Nat
  energy : SMap Nat
  paceHold : SMap Nat
  held : SMap Nat
  acts : SMap Act
  log : List Event
  hist : SMap (List (Nat × Nat × Nat))
  pages : SMap (List Byte)
deriving DecidableEq, Repr

def Tl.reset : Tl :=
  { pace := 0, paceStat := 0, cqStall := 0, evSeq := 0, evShown := 0, sample := 0, idle := 45000, idleEst := 45000, quiet := none, spTick := 0, mark := 0, rail := [0, 0, 0, 0, 0], power := [0, 0, 0, 0, 0],
    temp := [none, none, none, none, none, none], energyMod := 0, energyUnattr := 0, energy := [], paceHold := [], held := [], acts := [],
    log := [], hist := [], pages := [] }

end Sys2Proof.Machine
end

