-- ==== Sys2Proof/Machine/StHg.lean ====
section
/-! DEFINITION. State of Headgate (spec/04 R106 to R128) and of running queries (spec/03 R81 to R103). -/
namespace Sys2Proof.Machine

/-- A lease of the arena (R89): its DA and its 4 KiB pages. -/
structure Lease where
  da : Nat
  pages : Nat
deriving DecidableEq, Repr

/-- A staged or committed post (R117): hardware flume, output selection and the two words. -/
structure Post where
  flume : Nat
  sel : Bool
  w1 : W64
  w2 : W64
deriving DecidableEq, Repr

/-- A staged signal (R116). -/
structure Signal where
  slot : Nat
  mask : W64
deriving DecidableEq, Repr

/-- State of one run of an item: waiting for a core, running on one, or held at DONE (R107, R124). -/
inductive RunState | waiting | running (core : Nat) | committing (core : Nat) | held
deriving DecidableEq, Repr

/-- One run of an item and what it has staged (R23, R124): posts and signals oldest first, tuples sent so far in its open parcels,
its lease, and at DONE its status and signature. -/
structure Run where
  state : RunState
  posts : List Post
  signals : List Signal
  sent : Nat
  lease : Option Lease
  status : W16
  sig : W64
  lastCore : Option Nat
deriving DecidableEq, Repr

def Run.fresh (l : Option Lease) : Run :=
  { state := .waiting, posts := [], signals := [], sent := 0, lease := l, status := 0, sig := 0, lastCore := none }

/-- An item slot that is not free (R107 to R113). `parked` is the cluster of the last PARK, `bound` the cluster of an EXCH item,
`replay` the order of its requeue (R114), `draining` the faulted runs that wait for the codec, the first in time first (R121 step 3, R126), and `handed` the lease that came with its post. -/
structure Item where
  inst : Nat
  ctx : Nat
  stage : Nat
  prio : Nat
  rmode : Bool
  waitall : Bool
  mirror : Bool
  replayable : Bool
  phase : Nat
  replays : Nat
  w2 : W64
  w3 : W64
  w4 : W64
  w5 : W64
  stamp : Nat
  flags : W64
  mask : W64
  isParked : Bool
  parked : Option Nat
  bound : Option Nat
  replay : Option Nat
  draining : List Bool
  order : Nat
  handed : Option Nat
  append : Option (Nat × Nat)
  prim : Run
  twin : Option Run
deriving DecidableEq, Repr

/-- A hardware flume in use (R88, R120): its query, image flume, depth and extension pages, committed posts with the lease each hands on. -/
structure Flume where
  inst : Nat
  ctx : Nat
  image : Nat
  depth : Nat
  pages : List Nat
  staged : Nat
  posts : List (W64 × W64 × Option Nat)
deriving DecidableEq, Repr

/-- A parcel (R92): exchange, local cluster, buffer, sender, state 0 open, 1 committed, 2 void, first send count, tuples,
and where it lies: a pool offset of its cluster or a DA of the arena. -/
structure Parcel where
  exch : Nat
  cl : Nat
  buf : Nat
  slot : Nat
  state : Nat
  seq : Nat
  tuples : List (List Byte)
  spilled : Bool
  addr : Nat
deriving DecidableEq, Repr

/-- A lease handed on (R89): its place, the consumer items and result ranges that still hold it. -/
structure Handed where
  lease : Lease
  users : Nat
deriving DecidableEq, Repr

/-- A morsel record (R87): its DA, rows, ordinal, first block and number of blocks of each column, and the sealed segments that its columns lie in. -/
structure Morsel where
  da : Nat
  rows : Nat
  no : Nat
  first : Nat
  blocks : Nat
  segs : List Nat
deriving DecidableEq, Repr

/-- A running query's context (R81 to R84). `cmd` is its command's arrival number and `cid` its CID; `code` is its image's bytes; `leaseNeed` bytes from
the arena's start hold leases, extension pages and spilled parcels; `raw` is result data
not yet in a frame; `status` is the first failure of R84 and `fin` says that its completion has been
formed. `dest` is (next address, room left, bytes placed in the present
buffer), `next` the host culvert buffer that follows (0 ends the chain) and `buf` the one in use. -/
structure Query where
  inst : Nat
  cmd : Nat
  cid : W16
  image : W64
  code : List Byte
  snapshot : Nat
  flumes : List Nat
  clusters : List Nat
  poolBase : List (Nat × Nat)
  arenaDa : Nat
  arenaLen : Nat
  leaseNeed : Nat
  paramDa : Nat
  morsels : List (Nat × List Morsel)
  rootTurn : Nat
  exchMade : List (Nat × Nat × Nat)
  barrierMade : List Nat
  used : List Lease
  handed : SMap Handed
  nextHanded : Nat
  parcels : List Parcel
  written : Nat
  raw : List Byte
  dest : Nat × Nat × Nat
  next : Nat
  buf : Option Nat
  status : Option W16
  fin : Bool
deriving DecidableEq, Repr

/-- Headgate's registers and statistics of one instance (R128). -/
structure HgStat where
  mismatch : W32
  replay : W32
  waitMax : W64
  waitSum : W64
  disp : W64
  postStall : W64
deriving DecidableEq, Repr

def HgStat.reset : HgStat := { mismatch := 0, replay := 0, waitMax := 0, waitSum := 0, disp := 0, postStall := 0 }

/-- Headgate. `inject` holds the bytes of tuples in the injection port of each cluster (R91). -/
structure Hg where
  items : SMap Item
  inject : SMap Nat
  nextOrder : Nat
  nextReplay : Nat
  flumes : SMap Flume
  queries : SMap Query
  stats : SMap HgStat
  busy : SMap W64
  idle : SMap W64
  oos : List Nat
  sigdrop : W32
  flspill : W32
  lastInst : Option Nat
  lastCtx : SMap Nat
  paused : Bool
deriving DecidableEq, Repr

def Hg.reset : Hg :=
  { items := [], inject := [], nextOrder := 0, nextReplay := 0, flumes := [], queries := [], stats := [], busy := [], idle := [], oos := [],
    sigdrop := 0, flspill := 0, lastInst := none, lastCtx := [], paused := false }

end Sys2Proof.Machine
end

