-- ==== Sys2Proof/Machine/StMem.lean ====
section
/-! DEFINITION. State of the memory controllers (spec/11 R310 to R331). -/
namespace Sys2Proof.Machine

inductive RankPower | awake | powerDown | selfRefresh
deriving DecidableEq, Repr

/-- One rank (R311, R321, R322): power state, tick of its last read or write command, last MR4 class, whether the 1.953 µs interval is in force,
refreshes issued, the ticks of the last refresh, readout and ZQ latch, and the tick of the last waking for scrub (R326). -/
structure Rank where
  power : RankPower
  idle : Nat
  cls : TempClass
  half : Bool
  refs : Nat
  refTick : Nat
  mrTick : Nat
  zqTick : Nat
  wake : Option Nat
deriving DecidableEq, Repr

def Rank.reset : Rank :=
  { power := .awake, idle := 0, cls := .cool, half := false, refs := 0, refTick := 0, mrTick := 0, zqTick := 0, wake := none }

/-- The row buffer of a channel (R316): the row, the data lines merged so far and the owner tag of the last of them. -/
structure RowBuf where
  row : Nat
  slots : List Nat
  tag : Nat
deriving DecidableEq, Repr

/-- One channel: lost (R328), throttled and its run of cool readouts (R321), next scrub row and whole passes (R326), the ticks and numbers of
lines corrected within 1 h (R405), the lines found uncorrectable within 1 s with the tick of each (R328), the tick of its last MEM_UE and
MEM_CE_RATE entry (R403), the check halves held of the rows read most recently, latest first (R320), and its row buffer (R316). -/
structure Chan where
  lost : Bool
  throttle : Bool
  cools : Nat
  scrubRow : Nat
  passes : Nat
  ces : List (Nat × Nat)
  ues : List (Nat × Nat)
  ueLog : Option Nat
  ceLog : Option Nat
  held : List (Nat × List Nat)
  buf : Option RowBuf
deriving DecidableEq, Repr

def Chan.reset : Chan :=
  { lost := false, throttle := false, cools := 0, scrubRow := 0, passes := 0, ces := [], ues := [], ueLog := none, ceLog := none,
    held := [], buf := none }

/-- One controller's registers (R331), and the read and write delay of each lane (R324). -/
structure Ctl where
  inserv : Bool
  trainFail : Bool
  ce : W32
  ue : W32
  throt : W32
  eyes : SMap W32
  delays : SMap (Nat × Nat)
deriving DecidableEq, Repr

def Ctl.reset : Ctl := { inserv := false, trainFail := false, ce := 0, ue := 0, throt := 0, eyes := [], delays := [] }

/-- A symbol in error in a row (R312, R314): line 0 to 29 with position 0 to 33, or line 30 for the seal; `err` is stored XOR read. -/
structure SymErr where
  line : Nat
  pos : Nat
  err : W16
deriving DecidableEq, Repr

structure Mc where
  trained : Bool
  sweep : Bool
  sweepStart : Nat
  reject : Bool
  pdn : W32
  sref : W32
  bankx : List W32
  bankxNow : List W32
  exclNow : Nat
  exclNext : Nat
  ce : W32
  ue : W32
  passes : W32
  ueAddr : Option Nat
  chans : SMap Chan
  ranks : SMap Rank
  ctls : SMap Ctl
  errs : SMap (List SymErr)
  lineKeys : SMap W512
  cells : Cells
deriving DecidableEq, Repr

/-- Default bank masks (R331), the fixed bits [5:0] included. -/
def bankxDefault : List W32 := [0x41041, 0x82082, 0x104104, 0x208208, 0x410410, 0x20820]

/-- No package excluded is 0x1F (DESIGN CHOICE, log entry 6). -/
def Mc.reset : Mc :=
  { trained := false, sweep := false, sweepStart := 0, reject := false, pdn := 1000, sref := 200, bankx := bankxDefault, bankxNow := bankxDefault,
    exclNow := 0x1F, exclNext := 0x1F, ce := 0, ue := 0, passes := 0, ueAddr := none, chans := [], ranks := [], ctls := [], errs := [],
    lineKeys := [], cells := [] }

end Sys2Proof.Machine
end

