-- ==== Sys2Proof/Machine/StPower.lean ====
section
/-! DEFINITION. State of the PW island and timebase (spec/15 R408 to R428) and of the host interface (spec/08 R220 to R250). -/
namespace Sys2Proof.Machine

/-- Module states of R418. -/
inductive PwState | off | standby | prep | train | recover | ready | quiesced | hold
deriving DecidableEq, Repr

/-- Setpoints, in rising order (R29). -/
inductive Setpoint | still | flow | spate
deriving DecidableEq, Repr

/-- A rail at P1: above 10 % of nominal, and stable (R413). -/
structure RailSt where
  up : Bool
  stable : Bool
deriving DecidableEq, Repr

/-- The PW island (R427). `ga` is the level of GA2 to GA0, 7 while the slot drives none (R408; log entry 27); `prepDone` says that the work of PREP is
done (R418), `seqLogged` that the latched violation is in the event log (R414), `ppsGood` counts well-spaced edges; `frac` is the part of a tick, in units of 10^-9,
that a slewed rate has gathered (R424); `hot`, `cool`, `plateHot` and `plateCool` are the ticks since which the samples show the conditions of R422. -/
structure Power where
  state : PwState
  vaux : RailSt
  vana : RailSt
  vio : RailSt
  vcore : RailSt
  trip : Bool
  perstA : Bool
  perstB : Bool
  lastRst : Nat
  seqFault : W32
  quiesce : Bool
  quiescing : Bool
  req : Setpoint
  boot : Setpoint
  cur : Setpoint
  target : Setpoint
  junctionCap : Setpoint
  plateCap : Bool
  changing : Bool
  forced : Bool
  alert : W32
  alertMask : W32
  plate : Option W16
  i2cErr : W32
  tick : Nat
  todOff : Option Int
  todPend : Option W64
  ppsLock : Bool
  ppsMissed : Nat
  ppsErr : W16
  ppsLast : Option Nat
  ppsGood : Nat
  ratePpb : Int
  frac : Int
  prepDone : Bool
  ga : BitVec 3
  seqLogged : Bool
  hot : Option Nat
  cool : Option Nat
  plateHot : Option Nat
  plateCool : Option Nat
deriving DecidableEq, Repr

/-- The PW island just after VAUX became stable: the reset column of R427. -/
def Power.reset : Power :=
  { state := .standby, vaux := ⟨true, true⟩, vana := ⟨false, false⟩, vio := ⟨false, false⟩, vcore := ⟨false, false⟩, trip := false,
    perstA := true, perstB := true, lastRst := 0, seqFault := 0, quiesce := false, quiescing := false, req := .flow, boot := .flow,
    cur := .flow, target := .flow, junctionCap := .spate, plateCap := false, changing := false, forced := false,
    alert := 0, alertMask := 0xE, plate := none, i2cErr := 0, tick := 0, todOff := none, todPend := none, ppsLock := false,
    ppsMissed := 0, ppsErr := 0, ppsLast := none, ppsGood := 0, ratePpb := 0, frac := 0, prepDone := false, ga := 7, seqLogged := true,
    hot := none, cool := none, plateHot := none, plateCool := none }

/-- One MSI-X vector (R220, R245). -/
structure Vec where
  addr : W64
  data : W32
  mask : Bool
  pend : Bool
deriving DecidableEq, Repr

/-- A vector after reset: masked (PRESUMED, log entry 7). -/
def Vec.reset : Vec := { addr := 0, data := 0, mask := true, pend := false }

/-- A mailbox request being carried out (R225): its 64 bytes and, once its command has been carried out, its status. -/
structure MbReq where
  bytes : List Byte
  fin : Option W16
deriving DecidableEq, Repr

/-- Host interface: instance count, link modes, links, mailbox, MSI-X tables (PF0 0 to 31, PF1 32 to 63, VF of instance i at 64 + 2i),
bytes the engine wrote into host memory. -/
structure Hi where
  n : Nat
  split : Bool
  splitNext : Bool
  linkA : Option LinkInfo
  linkB : Option LinkInfo
  mbReq : List Byte
  mbRsp : List Byte
  mbBusy : Bool
  mbDone : Bool
  mbOver : Bool
  mbCur : Option MbReq
  msix : SMap Vec
  mem : Cells
deriving DecidableEq, Repr

def Hi.reset : Hi :=
  { n := 0, split := false, splitNext := false, linkA := none, linkB := none, mbReq := List.replicate 64 0,
    mbRsp := List.replicate 16 0, mbBusy := false, mbDone := false, mbOver := false, mbCur := none, msix := [], mem := [] }

/-- What the module sends: an MSI-X message, a frame on a port, an I²C byte, and entries that only a log sees. -/
inductive Output
  | msix (addr : W64) (data : W32)
  | frame (port : Nat) (dst src : BitVec 48) (payload : List Byte)
  | i2c (bytes : List Byte)
  | alertAddr (addr : Byte)
deriving DecidableEq, Repr

end Sys2Proof.Machine
end

