-- ==== Sys2Proof/Machine/StUnits.lean ====
section
/-! DEFINITION. State of the codec (spec/02 R51 to R71), the digest engines, cipher units and key store (spec/13 R357 to R386). -/
namespace Sys2Proof.Machine

/-- Who submitted a job: a core of an instance running an item slot (or none, for keeper code outside an item), or the supervisor. -/
structure Submitter where
  core : Nat
  inst : Option Nat
  slot : Option Nat
  twin : Bool
deriving DecidableEq, Repr

/-- What a job will write when it completes (R56): device-memory, pool and local-store bytes by core-space address. -/
structure JobOut where
  status : Nat
  record : List Byte
  writes : List (Nat × List Byte)
deriving DecidableEq, Repr

/-- A codec job: its descriptor and submitter; `order` is its place in submission order. -/
structure CodecJob where
  desc : List Byte
  by_ : Submitter
  order : Nat
deriving DecidableEq, Repr

/-- A codec unit (R53, R54, R71). -/
structure CodecUnit where
  oos : Bool
  queue : List CodecJob
  run : Option (CodecJob × JobOut)
  runTick : Nat
  done : Bool
  lastSt : Nat
  lastRec : List Byte
  lastInst : Option Nat
deriving DecidableEq, Repr

def CodecUnit.reset : CodecUnit :=
  { oos := false, queue := [], run := none, runTick := 0, done := false, lastSt := 0, lastRec := List.replicate 64 0, lastInst := none }

/-- The codec: its units, those whose full queue has gained room (oldest first, R53), the reissue list (R70), submissions and the counters of R71. -/
structure Codec where
  units : SMap CodecUnit
  gained : List Nat
  reissue : List CodecJob
  nextOrder : Nat
  checkFail : W32
  hdrFail : W32
  culvert : W32
  reissueCnt : W32
deriving DecidableEq, Repr

def Codec.reset : Codec := { units := [], gained := [], reissue := [], nextOrder := 0, checkFail := 0, hdrFail := 0, culvert := 0, reissueCnt := 0 }

/-- Why the supervisor submitted a digest job: for its own code, or to authenticate an image of an instance's command (R383). -/
inductive DigestFor | core | image (inst : Nat) (cmd : Nat)
deriving DecidableEq, Repr

/-- A digest job (R359): descriptor, submitter, and what a preemption or a start has left: the latched key, the latched slot message,
message bytes absorbed of those in all, the state so far, preemptions, a failure found, and
whether a saved state is on die. -/
structure DigestJob where
  desc : List Byte
  by_ : Submitter
  why : DigestFor
  order : Nat
  started : Bool
  key : List Byte
  msg : List Byte
  absorbed : Nat
  total : Nat
  st : Option HashSt
  preempts : Nat
  fail : Option Nat
  onDie : Bool
deriving DecidableEq, Repr

/-- A digest engine (R365, R370, R384). -/
structure Engine where
  oos : Bool
  done : Bool
  noRead : Bool
  lastSt : Nat
  res : List Byte
  keyDest : Bool
  queue : List DigestJob
  run : Option DigestJob
  runTick : Nat
  stack : List DigestJob
  lastOwner : Option Nat
deriving DecidableEq, Repr

def Engine.reset : Engine :=
  { oos := false, done := false, noRead := false, lastSt := 0, res := List.replicate 64 0, keyDest := false, queue := [], run := none,
    runTick := 0, stack := [], lastOwner := none }

/-- The digest engines, and reissued or supervisor jobs that wait for room in a queue, in order (R358, R368). -/
structure Digest where
  engines : SMap Engine
  held : List DigestJob
  nextOrder : Nat
  preempts : W32
  mismatch : W32
deriving DecidableEq, Repr

def Digest.reset : Digest := { engines := [], held := [], nextOrder := 0, preempts := 0, mismatch := 0 }

/-- The key store and cipher units. A slot that is not listed is EMPTY (R375). -/
structure Keys where
  slots : SMap W512
  busy : Option (Nat × W512)
  reject : Bool
  oekData : List Byte
  octr : Nat
  oosMem : List Nat
  oosFlash : List Nat
  keyErr : W32
  sealFail : W32
deriving DecidableEq, Repr

def Keys.reset : Keys :=
  { slots := [], busy := none, reject := false, oekData := List.replicate 64 0, octr := 0, oosMem := [], oosFlash := [], keyErr := 0,
    sealFail := 0 }

end Sys2Proof.Machine
end

