-- ==== Sys2Proof/Machine/State.lean ====
section
/-! DEFINITION. The state of the YQ96, as plain data, and the state after reset. -/
namespace Sys2Proof.Machine

/-- Why the model stops. -/
inductive Fault
  /-- A command names a unit, port, core, instance, die or channel that the part does not have (R5): raised by every meaning whose command names
  one. Safe: the model stops where no such unit exists. -/
  | noSuchUnit
deriving DecidableEq, Repr

/-- Why a command has no meaning. -/
inductive Refusal
  /-- Raised by an arm of `exec` for a command that has no meaning yet. Safe. -/
  | notModelled (mnemonic : String)
deriving DecidableEq, Repr

/-- What is fused into a part (R2, R3, R10): variant, grade and build number. -/
structure Part where
  variant : Variant
  grade : Grade
  build : W16
deriving DecidableEq, Repr

/-- The whole part. `cores` 0 to 95 are the query cores and 96 and 97 the supervisor pair; `pools` are the clusters' pools (R90).
`fresh` and `out` are the model's own (log entries 2 and 3). -/
structure State where
  part : Part
  pw : Power
  hi : Hi
  insts : SMap Inst
  sl : Sluice
  hg : Hg
  cores : SMap Core
  pools : SMap Cells
  codec : Codec
  dg : Digest
  keys : Keys
  mc : Mc
  flash : Flash
  fp : Fp
  tl : Tl
  out : List Output
  fresh : Nat
  pending : List Instr
deriving DecidableEq, Repr

/-- A new module just after VAUX became stable (R418, R427): STANDBY, nothing stored, no command waiting. It is a YQ96-A-S of build 1 (log entry 5);
no command changes the part, and statements about every state speak of every variant. -/
def State.reset : State :=
  { part := { variant := .a, grade := .s, build := 1 }, pw := Power.reset, hi := Hi.reset, insts := [], sl := Sluice.reset, hg := Hg.reset, cores := [], pools := [], codec := Codec.reset,
    dg := Digest.reset, keys := Keys.reset, mc := Mc.reset, flash := Flash.reset, fp := Fp.reset, tl := Tl.reset, out := [], fresh := 0,
    pending := [] }

/-- Result of a meaning. -/
abbrev Res := Host.Outcome State Fault Refusal

end Sys2Proof.Machine
end

