-- ==== Sys2Proof/Machine/Ops.lean ====
section
/-! DEFINITION. Named operations over the state: accessors, shares (spec/08 R216 to R219), MSI-X and events (R244, R245, spec/14 R403),
host memory, and reads and writes of lines of working memory (spec/11 R312 to R329, spec/13 R371 to R373). -/
namespace Sys2Proof.Machine

/-! ## Accessors -/

def State.core (s : State) (c : Nat) : Core := SMap.get s.cores Core.reset c
def State.setCore (s : State) (c : Nat) (k : Core) : State := { s with cores := SMap.set s.cores c k }
def State.inst (s : State) (i : Nat) : Inst := SMap.get s.insts Inst.reset i
def State.setInst (s : State) (i : Nat) (x : Inst) : State := { s with insts := SMap.set s.insts i x }
def State.modInst (s : State) (i : Nat) (f : Inst → Inst) : State := s.setInst i (f (s.inst i))
def State.pool (s : State) (cl : Nat) : Cells := SMap.get s.pools [] cl
def State.setPool (s : State) (cl : Nat) (m : Cells) : State := { s with pools := SMap.set s.pools cl m }
def State.unit (s : State) (u : Nat) : CodecUnit := SMap.get s.codec.units CodecUnit.reset u
def State.setUnit (s : State) (u : Nat) (x : CodecUnit) : State := { s with codec := { s.codec with units := SMap.set s.codec.units u x } }
def State.engine (s : State) (e : Nat) : Engine := SMap.get s.dg.engines Engine.reset e
def State.setEngine (s : State) (e : Nat) (x : Engine) : State := { s with dg := { s.dg with engines := SMap.set s.dg.engines e x } }
def State.port (s : State) (p : Nat) : Port := SMap.get s.fp.ports Port.reset p
def State.setPort (s : State) (p : Nat) (x : Port) : State := { s with fp := { s.fp with ports := SMap.set s.fp.ports p x } }
def State.item? (s : State) (slot : Nat) : Option Item := SMap.find s.hg.items slot
def State.setItem (s : State) (slot : Nat) (x : Item) : State := { s with hg := { s.hg with items := SMap.set s.hg.items slot x } }
def State.query? (s : State) (ctx : Nat) : Option Query := SMap.find s.hg.queries ctx
def State.setQuery (s : State) (ctx : Nat) (q : Query) : State := { s with hg := { s.hg with queries := SMap.set s.hg.queries ctx q } }
def State.owner? (s : State) (i : Nat) : Option Owner := SMap.find s.flash.owners i
def State.setOwner (s : State) (i : Nat) (o : Owner) : State := { s with flash := { s.flash with owners := SMap.set s.flash.owners i o } }
def State.stat (s : State) (i : Nat) : HgStat := SMap.get s.hg.stats HgStat.reset i
def State.setStat (s : State) (i : Nat) (x : HgStat) : State := { s with hg := { s.hg with stats := SMap.set s.hg.stats i x } }
def State.chan (s : State) (ch : Nat) : Chan := SMap.get s.mc.chans Chan.reset ch
def State.setChan (s : State) (ch : Nat) (x : Chan) : State := { s with mc := { s.mc with chans := SMap.set s.mc.chans ch x } }
/-- Ranks are kept under 2 · channel + rank. -/
def State.rank (s : State) (ch r : Nat) : Rank := SMap.get s.mc.ranks Rank.reset (2 * ch + r)
def State.setRank (s : State) (ch r : Nat) (x : Rank) : State := { s with mc := { s.mc with ranks := SMap.set s.mc.ranks (2 * ch + r) x } }
def State.ctl (s : State) (c : Nat) : Ctl := SMap.get s.mc.ctls Ctl.reset c
def State.setCtl (s : State) (c : Nat) (x : Ctl) : State := { s with mc := { s.mc with ctls := SMap.set s.mc.ctls c x } }
def State.act (s : State) (i : Nat) : Act := SMap.get s.tl.acts Act.zero i
def State.addAct (s : State) (i : Nat) (f : Act → Act) : State := { s with tl := { s.tl with acts := SMap.set s.tl.acts i (f (s.act i)) } }
/-- The tick counter (R424). -/
def State.now (s : State) : Nat := s.pw.tick
def State.emit (s : State) (o : Output) : State := { s with out := o :: s.out }

/-- A free value (log entry 2): the next word of the stream, and the counter advanced. -/
def State.free (s : State) : W64 × State := (Config.freeWord s.fresh, { s with fresh := s.fresh + 1 })

/-- `n` free bytes. -/
def State.freeBytes (s : State) (n : Nat) : List Byte × State :=
  ((List.range n).map (fun k => Config.freeByte (s.fresh + k)), { s with fresh := s.fresh + n })

/-- PREP to QUIESCED: the engine runs. -/
def State.engineUp (s : State) : Bool :=
  match s.pw.state with
  | .prep | .train | .recover | .ready | .quiesced => true
  | _ => false

/-- Does the tick counter advance (R424)? While the engine runs, and in HOLD while VCORE_IN stays up. -/
def State.clocked (s : State) : Bool := s.engineUp || (s.pw.state == .hold && s.pw.vcore.up)

/-- READY or QUIESCED: blocks beyond GLB, PW and HI are open (R419). -/
def State.isUp (s : State) : Bool := s.pw.state == .ready || s.pw.state == .quiesced

/-! ## Shares -/

/-- Cores of instance i (R217). -/
def coresOf (n i : Nat) : List Nat :=
  if n = 0 ∨ n ≤ i then [] else
  if n = 8 then
    let m := i / 2
    if i % 2 = 0 then (List.range 8).map (24 * m + ·) ++ (List.range 4).map (24 * m + 16 + ·)
    else (List.range 8).map (24 * m + 8 + ·) ++ (List.range 4).map (24 * m + 20 + ·)
  else (List.range (96 / n)).map (96 / n * i + ·)

/-- Instance of a query core (R217). -/
def instOfCore (n c : Nat) : Option Nat :=
  if n = 0 ∨ 96 ≤ c then none else
  if n = 8 then
    let r := c % 24
    some (2 * (c / 24) + (if r < 8 then 0 else if r < 16 then 1 else if r < 20 then 0 else 1))
  else some (c / (96 / n))

/-- Clusters of instance i with its bytes of each pool (first offset, size), its whole cluster first at N = 8 (R90, R217, R218). -/
def clustersOf (n i : Nat) : List (Nat × Nat × Nat) :=
  if n = 0 ∨ n ≤ i then [] else
  let whole := 4 * 2 ^ 20
  let half := 2 * 2 ^ 20
  if n = 24 then [(i / 2, if i % 2 = 0 then 0 else half, half)]
  else if n = 8 then
    let m := i / 2
    [(3 * m + i % 2, 0, whole), (3 * m + 2, if i % 2 = 0 then 0 else half, half)]
  else (List.range (12 / n)).map (fun k => (12 / n * i + k, 0, whole))

def clusterOf (c : Nat) : Nat := c / 8

/-- The instance's bytes of the pool of core c's cluster (R90). -/
def poolShare (n c : Nat) : Option (Nat × Nat) :=
  match instOfCore n c with
  | none => none
  | some i => (clustersOf n i).findSome? (fun e => if e.1 = clusterOf c then some e.2 else none)

/-- Usable memory, reduced while a package is excluded (R216, R329). -/
def State.degraded (s : State) : Bool := s.mc.exclNow != 0x1F
def State.memTotal (s : State) : Nat := (if s.degraded then 1380 else 1440) * 2 ^ 30

/-- Memory window of an owner tag (R219); the supervisor's window is all memory (DESIGN CHOICE, log entry 13). -/
def State.window (s : State) (tag : Nat) : Nat × Nat :=
  if tag = 31 then (0, s.memTotal) else
  if s.hi.n = 0 then (0, 0) else (tag * (s.memTotal / s.hi.n), (tag + 1) * (s.memTotal / s.hi.n))

def slotsPer (n : Nat) : Nat := if n = 0 then 0 else 65536 / n
def ctxPer (n : Nat) : Nat := if n = 0 then 0 else 1536 / n
def portsPer (n : Nat) : Nat := if n = 0 then 0 else 576 / n

/-- Instance of a field port (R219). -/
def instOfPort (n p : Nat) : Option Nat := if n = 0 then none else some (p / (576 / n))
/-- Instance of a slot (R106), none for the slots never used. -/
def instOfSlot (n slot : Nat) : Option Nat :=
  if n = 0 then none else if slot / (65536 / n) < n then some (slot / (65536 / n)) else none
/-- The ingest context (R82, R219). -/
def ingestCtx (n i : Nat) : Nat := ctxPer n * i

/-- Owner tag of a core's accesses. -/
def tagOfCore (n c : Nat) : Nat := (instOfCore n c).getD 31

/-! ## Host memory, MSI-X and events -/

/-- Bytes the engine writes into host memory (log entry 4). -/
def State.hostWrite (s : State) (addr : Nat) (bs : List Byte) : State := { s with hi := { s.hi with mem := Cells.writeList s.hi.mem addr bs } }

/-- Index of a function's vector in the MSI-X tables. -/
def vecIndex (f : Fn) (v : Nat) : Nat :=
  match f with
  | .pf0 => v
  | .pf1 => 32 + v
  | .vf i => 64 + 2 * i + v

def State.vec (s : State) (f : Fn) (v : Nat) : Vec := SMap.get s.hi.msix Vec.reset (vecIndex f v)
def State.setVec (s : State) (f : Fn) (v : Nat) (x : Vec) : State := { s with hi := { s.hi with msix := SMap.set s.hi.msix (vecIndex f v) x } }

/-- A vector is signalled: the message, or the PBA bit of a masked vector (R245). -/
def State.signal (s : State) (f : Fn) (v : Nat) : State :=
  let x := s.vec f v
  if x.mask then s.setVec f v { x with pend := true } else s.emit (.msix x.addr x.data)

/-- An instance event (R244): EVENT_SEQ, its write to the index block, the bit of VF_EVENT, the event vector. Only a RUNNING instance has an index block and
sends messages (R222, R248; log entry 31). -/
def State.vfEvent (s : State) (i bit : Nat) : State :=
  let x := s.inst i
  let x' := { x with evSeq := x.evSeq + 1, events := x.events ||| BitVec.ofNat 32 (2 ^ bit) }
  if x.state = .running then ((s.setInst i x').hostWrite (x.idxAddr + 16) (bytesOf x'.evSeq)).signal (.vf i) 1
  else if x.state = .none then s else s.setInst i x'

/-- A halted core (R189, R195): nothing issues until Headgate or the supervisor reset takes it. -/
def Core.halt (k : Core) : Core := { k with act := .halted, wq := [], miss := none }

/-- An edge on an interrupt source (R202). -/
def ICtl.edge (x : ICtl) (src : Nat) : ICtl := { x with pend := x.pend ||| BitVec.ofNat 64 (2 ^ src) }

def State.icEdge (s : State) (c src : Nat) : State :=
  let k := s.core c
  s.setCore c { k with ic := k.ic.edge src }

/-- The winner of a claim (R205): the lowest-numbered source pending and enabled; 0 when none. -/
def ICtl.winner (x : ICtl) : Nat :=
  match ((List.range 64).drop 1).find? (fun n => (x.pend &&& x.en).getLsbD n) with
  | some n => n
  | none => 0

/-- What a claim returns and leaves (R205): nothing while a source is active. -/
def ICtl.claim (x : ICtl) : Nat × ICtl :=
  if x.act ≠ 0 ∨ x.winner = 0 then (0, x)
  else (x.winner, { x with pend := x.pend &&& ~~~BitVec.ofNat 64 (2 ^ x.winner), act := BitVec.ofNat 6 x.winner })

/-- An edge at the supervisor's controller: both members of the pair hold it in step (R202, R207; log entry 14). -/
def State.svEdge (s : State) (src : Nat) : State := (s.icEdge 96 src).icEdge 97 src

/-- PW_TOD (R424): tick plus offset, 0 until loaded. -/
def State.tod (s : State) : Nat :=
  match s.pw.todOff with
  | none => 0
  | some o => wrapInt 64 ((s.now : Int) + o)

/-- Instances that exist. -/
def State.instList (s : State) : List Nat := List.range s.hi.n

/-- An event-log entry (R403): entry and SEQ, TLEVENT and PF0 vector 1 (PF1's for a fault of port B), LOG on each RUNNING instance that sees it. -/
def State.logEvent (s : State) (code inst sev : Nat) (arg : Nat) : State :=
  let e : Event := { seq := s.tl.evSeq + 1, time := s.tod, tick := s.now, code := code, inst := inst, sev := sev, arg := BitVec.ofNat 32 arg }
  let s1 := { s with tl := { s.tl with evSeq := e.seq, log := (e :: s.tl.log).take 1024 } }
  let s2 := (s1.svEdge 9).signal (if code = 0x15 ∧ arg = 1 ∧ s.hi.split = true then .pf1 else .pf0) 1
  (s2.instList.filter (fun i => (inst == 0xFF || inst == i) && (s2.inst i).state == .running)).foldl (fun t i => t.vfEvent i 4) s2

/-! ## Working memory -/

/-- Core-space address of DA 0 (R132). -/
def devBase : Nat := 0x10000000000

/-- Channels in use, in order (R318, R329). -/
def State.chanList (s : State) : List Nat := (List.range 96).filter (fun ch => ch / 4 != s.mc.exclNow)

/-- Channel, row number and slot of a line, by its DA (R318). -/
def State.lineAddr (s : State) (da : Nat) : Nat × Nat × Nat :=
  let l := s.chanList
  let g := da / 2048
  let ch := l.getD (g % l.length) 0
  let line := ((g / l.length) * 2048 + da % 2048) / 64
  (ch, line / 30, line % 30)

/-- DA of a line, the inverse of R318. -/
def State.daOf (s : State) (ch r slot : Nat) : Nat :=
  let l := s.chanList
  let ca := (30 * r + slot) * 64
  ((ca / 2048) * l.length + l.idxOf ch) * 2048 + ca % 2048

/-- A row's place in its channel (R319): rank, bank group, bank of the group and DRAM row. -/
structure RowPlace where
  rank : Nat
  bg : Nat
  ba : Nat
  row : Nat
deriving DecidableEq, Repr

/-- Mapped bit t[k] of a row under the masks in force (R319). -/
def State.mapBit (s : State) (r k : Nat) : Nat := if parityBits 23 (r &&& (s.mc.bankxNow.getD k 0).toNat) then 1 else 0

/-- The place of a row (R319). -/
def State.rowPlace (s : State) (r : Nat) : RowPlace :=
  { rank := s.mapBit r 5, bg := 2 * s.mapBit r 3 + s.mapBit r 2, ba := 2 * s.mapBit r 1 + s.mapBit r 0, row := 2 * (r / 64) + s.mapBit r 4 }

/-- Rank of a row under the masks in force (R319). -/
def State.rankOf (s : State) (r : Nat) : Nat := (s.rowPlace r).rank

/-- Multiplication by α in GF(2^16) (R313). -/
def gfAlpha (x : W16) : W16 := if x.getLsbD 15 then (x <<< 1) ^^^ 0x100B#16 else x <<< 1

/-- x · α^k. -/
def gfMulAlpha (x : W16) : Nat → W16
  | 0 => x
  | k + 1 => gfAlpha (gfMulAlpha x k)

/-- x · α^-1. -/
def gfDivAlpha (x : W16) : W16 := if x.getLsbD 0 then ((x ^^^ 0x100B#16) >>> 1) ||| 0x8000#16 else x >>> 1

/-- x · α^-k. -/
def gfDivAlphaN (x : W16) : Nat → W16
  | 0 => x
  | k + 1 => gfDivAlpha (gfDivAlphaN x k)

/-- x · y in GF(2^16) (R313). -/
def gfMul (x y : W16) : W16 := (List.range 16).foldl (fun a k => if y.getLsbD k then a ^^^ gfMulAlpha x k else a) 0

/-- The symbols at positions p and p + 1 that make S_0 = S_1 = 0, where the other symbols add a0 to S_0 and a1 to S_1 (R313);
0xF006 is the inverse of 1 + α. -/
def checkPair (p : Nat) (a0 a1 : W16) : W16 × W16 :=
  let y := gfMul 0xF006#16 (a0 ^^^ gfDivAlphaN a1 p)
  (a0 ^^^ y, y)

/-- S_k of symbols from position 0 upward (R313). -/
def symSum (k : Nat) (vs : List W16) : W16 := vs.foldr (fun v a => v ^^^ gfMulAlpha a k) 0

/-- The 16-bit symbols of bytes, little-endian (R312). -/
def symbolsOf : List Byte → List W16
  | a :: b :: rest => (b ++ a : BitVec 16) :: symbolsOf rest
  | _ => []

/-- The 34 symbols of a data line: its own 32, c0 and c1 (R312, R313). -/
def lineSymbols (d : List Byte) : List W16 :=
  let vs := symbolsOf d
  let (c0, c1) := checkPair 32 (symSum 0 vs) (symSum 1 vs)
  vs ++ [c0, c1]

/-- The seal of a row's lines: T2, T3, SC0, SC1 (R313). -/
def sealSymbols (lines : List (List W16)) : List W16 :=
  let t2 := lines.foldl (fun a l => a ^^^ symSum 2 l) 0
  let t3 := lines.foldl (fun a l => a ^^^ symSum 3 l) 0
  let (x, y) := checkPair 2 (t2 ^^^ t3) (t2 ^^^ gfAlpha t3)
  [t2, t3, x, y]

/-- Syndrome S_k of a line's errors (the code is linear, so stored symbols contribute 0 to S_0 and S_1). -/
def syndrome (k : Nat) (es : List SymErr) : W16 := es.foldl (fun a e => a ^^^ gfMulAlpha e.err (k * e.pos)) 0

/-- Decoding of one line (R314 steps 1 to 3): clean, a candidate correction (value, position), or uncorrectable. -/
inductive LineDec | clean | cand (e : W16) (p : Nat) | bad
deriving DecidableEq, Repr

def decodeLine (positions : Nat) (es : List SymErr) : LineDec :=
  let s0 := syndrome 0 es
  let s1 := syndrome 1 es
  if s0 = 0 ∧ s1 = 0 then .clean
  else if s0 = 0 then .bad
  else match (List.range positions).find? (fun p => gfMulAlpha s0 p == s1) with
    | some p => .cand s0 p
    | none => .bad

/-- Errors of one line of a row. -/
def errsOf (es : List SymErr) (line : Nat) : List SymErr := es.filter (fun e => e.line == line)

/-- A symbol's error changed by `v`; no entry is kept for a symbol without one. -/
def addErr (es : List SymErr) (line p : Nat) (v : W16) : List SymErr :=
  let here := (es.filter (fun e => e.line == line && e.pos == p)).foldl (fun a e => a ^^^ e.err) v
  let rest := es.filter (fun e => !(e.line == line && e.pos == p))
  if here = 0 then rest else { line := line, pos := p, err := here } :: rest

/-- Errors after a correction is applied. -/
def fixErr (es : List SymErr) (line : Nat) (d : LineDec) : List SymErr :=
  match d with
  | .cand v p => addErr es line p v
  | _ => es

/-- S_2 or S_3 that the row's errors add to the sums compared with T2 and T3. -/
def rowSum (k : Nat) (es : List SymErr) : W16 :=
  (List.range 30).foldl (fun a j => a ^^^ syndrome k (errsOf es j)) 0

/-- Error left in T2 (position 0) or T3 (position 1) of the seal. -/
def sealErr (es : List SymErr) (p : Nat) : W16 :=
  (es.filter (fun e => e.line == 30 && e.pos == p)).foldl (fun a e => a ^^^ e.err) 0

/-- A row decoded (R314): the errors that remain, and the lines corrected, the lines uncorrectable. -/
def decodeRow (es : List SymErr) : List SymErr × List Nat × List Nat :=
  if es.isEmpty then ([], [], []) else
  let decs := (List.range 30).map (fun j => (j, decodeLine 34 (errsOf es j)))
  let sealDec := decodeLine 4 (errsOf es 30)
  let cands := decs.filterMap (fun e => match e.2 with | .cand _ _ => some e.1 | _ => none)
  let bads := decs.filterMap (fun e => match e.2 with | .bad => some e.1 | _ => none)
  let fixed := decs.foldl (fun t e => fixErr t e.1 e.2) es
  let sealed := fixErr fixed 30 sealDec
  let ok := sealDec != .bad && rowSum 2 sealed == sealErr sealed 0 && rowSum 3 sealed == sealErr sealed 1
  if ok then (sealed, cands, bads) else (es, [], bads ++ cands)

def rowKey (ch r : Nat) : Nat := ch * 2 ^ 23 + r

/-- A read or write command to a rank wakes it and restarts its idle timer (R322). -/
def State.touchRank (s : State) (ch r : Nat) : State :=
  let x := s.rank ch r
  s.setRank ch r { x with power := .awake, idle := s.now, half := x.half || x.power == .selfRefresh }

/-- Every RUNNING instance becomes FAILED (R328); its work is discarded by the next tick (log entry 28). -/
def State.failRunning (s : State) : State :=
  { s with insts := SMap.mapVals s.insts (fun _ x => if x.state = .running then { x with state := .failedHard, failing := true } else x) }

/-- The channel stops (R328), with its event, and every RUNNING instance becomes FAILED. -/
def State.stopChan (s : State) (ch : Nat) : State :=
  if (s.chan ch).lost then s else (((s.setChan ch { s.chan ch with lost := true }).svEdge 5).logEvent 0x08 0xFF 2 ch).failRunning

/-- An uncorrectable line is found (R317): counters, MC_UE_ADDR, MCEVENT, at most one log entry per channel per second (R403); the channel stops
when 64 of its lines are found so within 1 s (R328). -/
def State.countUe (s : State) (da ch : Nat) : State :=
  let c := ch / 4
  let x := s.ctl c
  let h := s.chan ch
  let others := h.ues.filter (fun e => decide (s.now < e.2 + 10 ^ 9) && e.1 != da / 64)
  let logIt := match h.ueLog with
    | none => true
    | some t => decide (t + 10 ^ 9 ≤ s.now)
  let s1 := (s.setCtl c { x with ue := satInc x.ue }).setChan ch
    { h with ues := (da / 64, s.now) :: others, ueLog := if logIt then some s.now else h.ueLog }
  let s2 := ({ s1 with mc := { s1.mc with ue := satInc s1.mc.ue, ueAddr := some (da / 64 * 64) } }).svEdge 5
  let s3 := if logIt then s2.logEvent 0x06 0xFF 2 ch else s2
  if 63 ≤ others.length then s3.stopChan ch else s3

/-- Corrected lines are counted, and a channel with more than 1,000 within 1 h is logged at most once a second (R403, R405). -/
def State.countCe (s : State) (ch n : Nat) : State :=
  if n = 0 then s else
  let c := ch / 4
  let x := s.ctl c
  let h := s.chan ch
  let ces := (s.now, n) :: h.ces.filter (fun e => decide (s.now < e.1 + 3600 * 10 ^ 9))
  let logIt := decide (1000 < (ces.map (fun e => e.2)).sum) && (match h.ceLog with
    | none => true
    | some t => decide (t + 10 ^ 9 ≤ s.now))
  let s1 := (s.setCtl c { x with ce := satAdd x.ce n }).setChan ch
    { h with ces := ces, ceLog := if logIt then some s.now else h.ceLog }
  let s2 := { s1 with mc := { s1.mc with ce := satAdd s1.mc.ce n } }
  if logIt then s2.logEvent 0x05 0xFF 1 ch else s2

/-- The check half that holds a data line's check symbols (R312, R320). -/
def checkHalf (slot : Nat) : Nat := if slot < 16 then slot / 8 else 2 + (slot - 16) / 8

/-- Check halves kept after a read that used `hs` of row r: those of the 16 rows read most recently (R320). -/
def keepHalves (l : List (Nat × List Nat)) (r : Nat) (hs : List Nat) : List (Nat × List Nat) :=
  let old := ((l.find? (fun e => e.1 == r)).map (fun e => e.2)).getD []
  ((r, hs.filter (fun h => !old.contains h) ++ old) :: l.filter (fun e => e.1 != r)).take 16

/-- The row read, corrected and written back (R314, R316); answers the uncorrectable lines. -/
def State.readRow (s : State) (ch r : Nat) : List Nat × State :=
  let key := rowKey ch r
  let (left, fixed, bad) := decodeRow (SMap.get s.mc.errs [] key)
  let h := s.chan ch
  let s0 := s.setChan ch { h with held := keepHalves h.held r [0, 1, 2, 3] }
  let s1 := { s0 with mc := { s0.mc with errs := if left.isEmpty then SMap.erase s0.mc.errs key else SMap.set s0.mc.errs key left } }
  (bad, s1.countCe ch fixed.length)

/-- Content of a key slot; none when EMPTY (R375). -/
def State.slotKey (s : State) (k : Nat) : Option W512 := SMap.find s.keys.slots k

/-- Errors that strike cells of a channel: each differs the stored symbol further (R312). -/
def State.addUpsets (s : State) (ch : Nat) (ups : List Upset) : State :=
  let errs := ups.foldl (fun (m : SMap (List SymErr)) (u : Upset) =>
    let key := rowKey ch u.row
    let es' := addErr (SMap.get m [] key) u.line u.pos u.val
    if es'.isEmpty then SMap.erase m key else SMap.set m key es') s.mc.errs
  { s with mc := { s.mc with errs := errs } }

/-- A memory controller serves a channel unless it is lost, its cipher unit is out of service, or its package is excluded (R328, R374). -/
def State.chanDown (s : State) (ch : Nat) : Bool := (s.chan ch).lost || s.keys.oosMem.contains (ch / 4)

/-- Bytes under key `k2` of a line written under key `k1` (R327): equal keys give back the bytes, other keys give unrelated ones. -/
def recipher (k1 k2 : W512) (da : Nat) (d : List Byte) : List Byte :=
  if k1 = k2 then d else xtsDecrypt k2 (tweakMem da) (xtsEncrypt k1 (tweakMem da) d)

/-- Symbol errors of a line over its stored bytes (R312): positions 32 and 33 are check symbols and change no data byte. -/
def strike (es : List SymErr) (d : List Byte) : List Byte :=
  es.foldl (fun t e =>
    if e.pos < 32 then
      ((t.set (2 * e.pos) (t.getD (2 * e.pos) 0 ^^^ e.err.extractLsb' 0 8)).set (2 * e.pos + 1) (t.getD (2 * e.pos + 1) 0 ^^^ e.err.extractLsb' 8 8))
    else t) d

/-- The ciphertext of a data line as written (R327); a line never written holds zeros (log entry 4). -/
def State.cipherLine (s : State) (line : Nat) : List Byte :=
  let d := Cells.readList s.mc.cells (64 * line) 64
  match SMap.find s.mc.lineKeys line with
  | none => d
  | some k => xtsEncrypt k (tweakMem (64 * line)) d

/-- Symbols of the data lines and of the seal of a row as they lie in the DRAM page (R312, R313), errors included. -/
def State.rowSymbols (s : State) (ch r : Nat) : List (List W16) :=
  let lines := (List.range 30).map (fun j => lineSymbols (s.cipherLine (s.daOf ch r j / 64)))
  let es := SMap.get s.mc.errs [] (rowKey ch r)
  (List.range 31).map (fun j => (((lines ++ [sealSymbols lines]).getD j []).zipIdx).map (fun e =>
    (es.filter (fun x => x.line == j && x.pos == e.2)).foldl (fun a x => a ^^^ x.err) e.1))

/-- The 2 KiB page of a row (R312): 30 data lines, the check symbols c0, c1 of each in turn, and the seal. -/
def State.rowPage (s : State) (ch r : Nat) : List Byte :=
  let w := s.rowSymbols ch r
  let data := (w.take 30).map (fun l => l.take 32)
  let check := (w.take 30).map (fun l => l.drop 32)
  ((data ++ check ++ w.drop 30).flatten.map bytesOf).flatten

/-- Bytes of a line as an access under key `k` sees them, with the symbol errors `es` that decoding left (R314). A line never written reads zero
under every key (log entry 4). -/
def State.lineBytes (s : State) (k : W512) (line : Nat) (es : List SymErr) : List Byte :=
  let d := Cells.readList s.mc.cells (64 * line) 64
  match SMap.find s.mc.lineKeys line with
  | none => strike es d
  | some k1 => if es.isEmpty then recipher k1 k (64 * line) d else xtsDecrypt k (tweakMem (64 * line)) (strike es (s.cipherLine line))

/-- Bytes that a read of one data line moves: its check half too where the controller holds none (R320). -/
def Chan.readBytes (h : Chan) (r slot : Nat) : Nat := if h.held.any (fun e => e.1 == r && e.2.contains (checkHalf slot)) then 64 else 96

/-- Bytes moved for an owner tag (R400). -/
def State.moved (s : State) (tag n : Nat) : State := s.addAct (if tag < 24 then tag else 31) (fun a => { a with mem := a.mem + n })

/-- One data line read and decoded (R314): is it good? A candidate has its whole row read, corrected and written back (R316); uncorrectable
lines are counted (R317). -/
def State.readSlot (s : State) (tag ch r slot : Nat) : Bool × State :=
  let h := s.chan ch
  let s0 := (s.moved tag (h.readBytes r slot)).setChan ch { h with held := keepHalves h.held r [checkHalf slot] }
  match decodeLine 34 (errsOf (SMap.get s0.mc.errs [] (rowKey ch r)) slot) with
  | .clean => (true, s0)
  | .bad => (false, s0.countUe (s0.daOf ch r slot) ch)
  | .cand _ _ =>
    let (bad, s1) := (s0.moved tag 2048).readRow ch r
    (!bad.contains slot, bad.foldl (fun t j => t.countUe (t.daOf ch r j) ch) s1)

/-- The seal after a write of some lines of a row (R316): T2 and T3 follow the replaced lines as they were read, so what those still held in error
passes into them; SC0 and SC1 are coded afresh. A seal in error at one symbol is corrected first. -/
def resealErrs (es : List SymErr) (slots : List Nat) : List SymErr :=
  let gone := fun k => slots.foldl (fun a j => a ^^^ syndrome k (errsOf es j)) 0
  let d2 : W16 := gone 2
  let d3 : W16 := gone 3
  let left := fixErr (es.filter (fun e => !slots.contains e.line)) 30 (decodeLine 4 (errsOf es 30))
  let (x, y) := checkPair 2 (d2 ^^^ d3) (d2 ^^^ gfAlpha d3)
  addErr (addErr (addErr (addErr left 30 0 d2) 30 1 d3) 30 2 x) 30 3 y

/-- The row buffer of a channel written to its row (R316): with all 30 lines the seal is computed afresh; otherwise the lines it replaces and the
seal are read first. Written check halves move too. -/
def State.flushRow (s : State) (ch : Nat) : State :=
  match (s.chan ch).buf with
  | none => s
  | some b =>
    let s0 := s.setChan ch { s.chan ch with buf := none }
    let key := rowKey ch b.row
    if 30 ≤ b.slots.length then { s0.moved b.tag 128 with mc := { s0.mc with errs := SMap.erase s0.mc.errs key } }
    else
      let s1 := b.slots.foldl (fun (t : State) (j : Nat) => (t.readSlot b.tag ch b.row j).2) s0
      let left := resealErrs (SMap.get s1.mc.errs [] key) b.slots
      { s1.moved b.tag (32 * ((b.slots.map checkHalf) ++ [3]).eraseDups.length) with
          mc := { s1.mc with errs := if left.isEmpty then SMap.erase s1.mc.errs key else SMap.set s1.mc.errs key left } }

/-- The row buffer written if it holds lines of row r, before the row is read (log entry 100). -/
def State.flushFor (s : State) (ch r : Nat) : State := if (s.chan ch).buf.any (fun b => b.row == r) then s.flushRow ch else s

/-- A read of one line with an owner tag: its 64 bytes, none when uncorrectable (R314, R317, R373). -/
def State.readLine (s : State) (tag line : Nat) : Option (List Byte) × State :=
  let (ch, r, slot) := s.lineAddr (64 * line)
  match s.slotKey (memKeySlot tag) with
  | none => (none, ({ s with keys := { s.keys with keyErr := satInc s.keys.keyErr } }).countUe (64 * line) ch)
  | some k =>
    if s.chanDown ch then (none, s.countUe (64 * line) ch) else
    let (good, s1) := ((s.flushFor ch r).touchRank ch (s.rankOf r)).readSlot tag ch r slot
    (if good then some (s1.lineBytes k line (errsOf (SMap.get s1.mc.errs [] (rowKey ch r)) slot)) else none, s1)

/-- A line merged into its channel's row buffer; lines of another row, and a whole row, are written (R316). -/
def State.mergeLine (s : State) (tag ch r slot : Nat) : State :=
  let s0 := if (s.chan ch).buf.any (fun b => b.row != r) then s.flushRow ch else s
  let old := ((s0.chan ch).buf.map (fun b => b.slots)).getD []
  let slots := if old.contains slot then old else slot :: old
  let s1 := s0.setChan ch { s0.chan ch with buf := some { row := r, slots := slots, tag := tag } }
  if slots.length = 30 then s1.flushRow ch else s1

/-- A write of one whole line with an owner tag (R316, R327, R373): an EMPTY key writes no byte, nor does a lost channel. -/
def State.writeLine (s : State) (tag line : Nat) (d : List Byte) : State :=
  let (ch, r, slot) := s.lineAddr (64 * line)
  match s.slotKey (memKeySlot tag) with
  | none => { s with keys := { s.keys with keyErr := satInc s.keys.keyErr } }
  | some k =>
    if s.chanDown ch then s else
    let s1 := ((s.moved tag 64).touchRank ch (s.rankOf r)).mergeLine tag ch r slot
    { s1 with mc := { s1.mc with cells := Cells.writeList s1.mc.cells (64 * line) d, lineKeys := SMap.set s1.mc.lineKeys line k } }

/-- Lines touched by a byte range. -/
def linesOf (da len : Nat) : List Nat := if len = 0 then [] else (List.range ((da + len - 1) / 64 - da / 64 + 1)).map (da / 64 + ·)

/-- A read of a byte range of working memory; none where a line of it is uncorrectable. -/
def State.readMem (s : State) (tag da len : Nat) : Option (List Byte) × State :=
  let (acc, s') := (linesOf da len).foldl
    (fun (st : Option (List (List Byte)) × State) line =>
      let (d, t) := st.2.readLine tag line
      match st.1, d with
      | some ds, some b => (some (b :: ds), t)
      | _, _ => (none, t)) (some [], s)
  match acc with
  | none => (none, s')
  | some ds => (some (slice ds.reverse.flatten (da % 64) len), s')

/-- The new bytes of `d` at DA `da` over a line's old bytes. -/
def overlay (line da : Nat) (d old : List Byte) : List Byte :=
  (List.range 64).map (fun k =>
    let a := 64 * line + k
    if da ≤ a ∧ a < da + d.length then d.getD (a - da) 0 else old.getD k 0)

/-- One line of a write of bytes `d` at `da`: written whole, or read, changed and written (R316); false where the line to change is uncorrectable, which
keeps its bytes. -/
def State.storeLine (s : State) (tag da line : Nat) (d : List Byte) : Bool × State :=
  if da ≤ 64 * line ∧ 64 * line + 64 ≤ da + d.length then (true, s.writeLine tag line (slice d (64 * line - da) 64))
  else
    let (old, s1) := s.readLine tag line
    match old with
    | none => (false, s1)
    | some b => (true, s1.writeLine tag line (overlay line da d b))

/-- A write of a byte range, line by line (R316). -/
def State.writeMem (s : State) (tag da : Nat) (d : List Byte) : State :=
  (linesOf da d.length).foldl (fun t line => (t.storeLine tag da line d).2) s

/-! ## Core addresses -/

/-- The regions of R132, with the offset or DA. -/
inductive Region | ls (off : Nat) | pool (off : Nat) | unit (off : Nat) | dev (da : Nat) | none
deriving DecidableEq, Repr

def regionOf (a : Nat) : Region :=
  if a < 0x40000 then .ls a
  else if 0x10000000 ≤ a ∧ a < 0x10400000 then .pool (a - 0x10000000)
  else if 0x40000000 ≤ a ∧ a < 0x40100000 then .unit (a - 0x40000000)
  else if devBase ≤ a ∧ a < devBase + 2 ^ 41 then .dev (a - devBase)
  else .none

/-- Is a pool offset in the share of core c's instance (R90)? -/
def inPoolShare (n c off : Nat) : Bool :=
  match poolShare n c with
  | some (lo, len) => decide (lo ≤ off) && decide (off < lo + len)
  | none => false

/-- Is a DA in the core's window (R155)? -/
def Core.inWindow (k : Core) (da : Nat) : Bool := decide (k.winLo.toNat ≤ da) && decide (da < k.winHi.toNat)

/-! ## Placement in an instance's memory share (log entry 15) -/

/-- Regions sorted by first byte. -/
def insertRegion (x : Nat × Nat) : List (Nat × Nat) → List (Nat × Nat)
  | [] => [x]
  | y :: ys => if x.1 < y.1 then x :: y :: ys else y :: insertRegion x ys

/-- Lowest `align`-aligned place of `len` bytes in [lo, hi) clear of the regions. -/
def firstFit (align len hi : Nat) : Nat → List (Nat × Nat) → Option Nat
  | lo, [] => let a := roundUp lo align; if a + len ≤ hi then some a else none
  | lo, (b, n) :: rs =>
    let a := roundUp lo align
    if a + len ≤ b then some a else firstFit align len hi (max lo (b + n)) rs

/-- Reserve room in the instance's share. -/
def State.alloc (s : State) (i align len : Nat) : Option (Nat × State) :=
  let (lo, hi) := s.window i
  let x := s.inst i
  match firstFit align len hi lo x.regions with
  | none => none
  | some a => some (a, s.setInst i { x with regions := insertRegion (a, len) x.regions })

/-- Working space that keeper firmware reserves for the ingest context when it creates the instance (R102; log entry 67). -/
def ingestBytes : Nat := 16 * 2 ^ 20

/-- The ingest context's working space, at the top of the instance's share, from where it counts against it. -/
def State.reserveIngest (s : State) (i : Nat) : State :=
  let top := (s.window i).2
  s.modInst i (fun x => { x with regions := insertRegion (top - ingestBytes, ingestBytes) x.regions })

/-- Is there room? -/
def State.hasRoom (s : State) (i align len : Nat) : Bool := (s.alloc i align len).isSome

/-- Release a region. -/
def State.freeRegion (s : State) (i da : Nat) : State :=
  s.modInst i (fun x => { x with regions := x.regions.filter (fun r => r.1 != da) })

end Sys2Proof.Machine
end

