-- ==== Sys2Proof/Machine/SegLayout.lean ====
section
/-! DEFINITION. A segment as it lies on flash (spec/12 R332 to R335, R433; spec/13 R371 to R373): runs and directory copies of the extent, ciphertext and parity
pages, the seal and its digest, and which of its pages can be read (R344, R346). -/
namespace Sys2Proof.Machine

/-! ## The extent -/

/-- Bytes of data space in a stripe row, and of a page (R332, R433). -/
def rowBytes : Nat := 256 * 1024
def pageBytes : Nat := 16384

/-- Offset of directory copy 0, of copy 1, and the extent, for `len` bytes of runs and `n` blocks (R433). -/
def dirA0 (len : Nat) : Nat := roundUp len rowBytes
def dirA1 (len n : Nat) : Nat := roundUp (dirA0 len + 32 * n) rowBytes
def extentOf (len n : Nat) : Nat := dirA1 len n + 32 * n

def segMax : Nat := 16 * 2 ^ 20

/-- A segment's blocks with the offset of each (R333). -/
def Segment.placed (g : Segment) : List (Nat × SegBlock) :=
  (g.blocks.foldl (fun (a : Nat × List (Nat × SegBlock)) (b : SegBlock) => (a.1 + b.bytes.length, a.2 ++ [(a.1, b)])) (0, [])).2

/-- Bytes of the runs. -/
def Segment.runLen (g : Segment) : Nat := (g.blocks.map (fun b => b.bytes.length)).sum

/-- A directory entry (R334). -/
def dirEntry (off : Nat) (b : SegBlock) : List Byte :=
  leBytes 4 off ++ leBytes 2 b.rows ++ leBytes 2 b.lost.toNat ++ leBytes 4 b.table ++ leBytes 1 b.col ++ leBytes 3 0 ++ leBytes 8 b.lsn ++ leBytes 8 b.firstRow

/-- The directory: one entry per block in slot order (R333). -/
def Segment.directory (g : Segment) : List Byte := (g.placed.map (fun e => dirEntry e.1 e.2)).flatten

/-- The slot's data space in plaintext: runs, zeros, directory, zeros, directory, and zeros to the end of the final stripe row (R333, R433). -/
def Segment.plain (g : Segment) : List Byte :=
  let len := g.runLen
  let n := g.blocks.length
  slice ((g.blocks.map SegBlock.bytes).flatten) 0 (dirA0 len) ++ slice g.directory 0 (dirA1 len n - dirA0 len)
    ++ slice g.directory 0 (roundUp (extentOf len n) rowBytes - dirA1 len n)

/-- Stripe rows in use. -/
def Segment.rows (g : Segment) : Nat := ceilDiv g.extent rowBytes

/-! ## Ciphertext and parity -/

/-- The data space as ciphertext, a 4,096 B unit at a time (R371, R372). -/
def Segment.cipher (g : Segment) : List Byte :=
  ((List.range (g.rows * 64)).map (fun u => xtsEncrypt g.key (tweakSegment g.slot (4096 * u)) (slice g.plain (4096 * u) 4096))).flatten

/-- A data page of a stripe row, and its parity page, the XOR of the row's data pages (R332, R372). -/
def Segment.dataPage (g : Segment) (row k : Nat) : List Byte := slice g.cipher (row * rowBytes + k * pageBytes) pageBytes
def Segment.parityPage (g : Segment) (row : Nat) : List Byte :=
  (List.range 16).foldl (fun a k => xorBytes a (g.dataPage row k)) (List.replicate pageBytes 0)

/-- Bytes of the data space as a reader under key `k` sees them (R371). -/
def Segment.readAt (g : Segment) (k : W512) (off len : Nat) : List Byte :=
  if k = g.key then slice g.plain off len
  else
    let u0 := off / 4096
    let d := (List.range ((off + len + 4095) / 4096 - u0)).map (fun u =>
      xtsDecrypt k (tweakSegment g.slot (4096 * (u0 + u))) (slice g.cipher (4096 * (u0 + u)) 4096))
    slice d.flatten (off - 4096 * u0) len

/-! ## Seals -/

/-- Bytes 0 to 4,063 of a seal (R335). -/
def Segment.sealBody (g : Segment) : List Byte :=
  leBytes 4 0x4C414553 ++ leBytes 1 1 ++ leBytes 1 g.owner ++ leBytes 10 0 ++ leBytes 8 g.seq ++ leBytes 4 g.table ++ leBytes 1 g.col ++ leBytes 3 0
    ++ leBytes 4 g.blocks.length ++ leBytes 4 g.extent ++ leBytes 8 g.lsnLo ++ leBytes 8 g.lsnHi ++ leBytes 8 g.dur ++ leBytes 1 g.sup.length ++ leBytes 7 0
    ++ slice ((g.sup.map (leBytes 8)).flatten) 0 512 ++ List.replicate 3480 0

/-- The DIGEST of a seal (R335). -/
def sealDigest (key : W512) (extent body : List Byte) : List Byte := hmac .sha256 (bytesOf key) (extent ++ body)

/-- A seal in plaintext (R335). -/
def Segment.sealPlain (g : Segment) : List Byte := g.sealBody ++ sealDigest g.key (slice g.plain 0 g.extent) g.sealBody

/-- A seal copy as it lies on flash: bytes 0 to 15 clear, the rest one 4,080 B cipher unit (R335, R371, R372). -/
def Segment.sealCopy (g : Segment) (copy : Nat) : List Byte :=
  g.sealPlain.take 16 ++ xtsEncrypt g.key (tweakSeal g.slot copy) (g.sealPlain.drop 16)

/-- A seal read under key `k` over an extent's plaintext: MAGIC, VERSION and DIGEST check (R335). -/
def sealChecks (k : W512) (extent bs : List Byte) : Bool :=
  fieldLE bs 0 4 == 0x4C414553 && fieldLE bs 4 1 == 1 && slice bs 4064 32 == sealDigest k extent (slice bs 0 4064)

/-- Is a seal copy valid to a reader with key `k` (R335)? Under the key it was written with, one that reads back as written checks. -/
def Segment.sealValid (g : Segment) (k : W512) (copy : Nat) : Bool :=
  match g.seals[copy]? with
  | none => false
  | some c => c.good && (k == g.key || sealChecks k (g.readAt k 0 g.extent)
      ((g.sealCopy copy).take 16 ++ xtsDecrypt k (tweakSeal g.slot copy) ((g.sealCopy copy).drop 16)))

/-! ## Pages that cannot be read -/

/-- Pages of a row whose code fails or whose die is out of service: they are read from parity while they are one (R344). -/
def Segment.downIn (g : Segment) (dead : List Nat) (row : Nat) : List Nat :=
  (List.range 17).filter (fun k => g.failed.contains { row := row, page := k } || ((g.dies.getD row [])[k]?).any dead.contains)

/-- Data pages lost: those down in a row with a second page down (R346), numbered from the start of the slot. -/
def Segment.lostPages (g : Segment) (dead : List Nat) : List Nat :=
  ((List.range g.rows).map (fun row =>
    let d := g.downIn dead row
    if d.length < 2 then [] else (d.filter (fun k => decide (k < 16))).map (fun k => 16 * row + k))).flatten

/-- Has a byte range a byte in one of some pages? -/
def hitsPages (pages : List Nat) (off len : Nat) : Bool := pages.any (fun p => decide (pageBytes * p < off + len) && decide (off < pageBytes * (p + 1)))

/-- Is a directory copy readable: one of the two lies in no lost page (R346). -/
def Segment.dirReadable (g : Segment) (dead : List Nat) : Bool :=
  let l := g.lostPages dead
  let n := g.blocks.length
  !hitsPages l (dirA0 g.runLen) (32 * n) || !hitsPages l (dirA1 g.runLen n) (32 * n)

/-- Is a segment present (R336, R346): a seal copy that can be read is valid under key `k`, and a directory copy can be read. -/
def Segment.present (g : Segment) (dead : List Nat) (k : W512) : Bool :=
  ((List.range 2).any (fun c => g.sealValid k c && !(g.seals[c]?).any (fun x => dead.contains x.die))) && g.dirReadable dead

/-! ## Dies -/

/-- Dies of a flash channel in service (R332, R344): on YQ96-C those with d mod 8 ≥ 4 are absent. -/
def State.diesOf (s : State) (ch : Nat) : List Nat :=
  ((List.range (if s.part.variant = .c then 4 else 8)).map (8 * ch + ·)).filter (fun d => !s.flash.dieFail.contains d)

/-- Flash channels with a die in service. -/
def State.flashChans (s : State) : List Nat := (List.range 32).filter (fun ch => !(s.diesOf ch).isEmpty)

/-- `n` dies on as many different channels, which ones the store leaves open (R332, R336): a free value. -/
def State.pickDies (s : State) (n : Nat) : List Nat × State :=
  let (w, s1) := s.free
  let chans := s.flashChans
  ((List.range n).map (fun k =>
    let l := s.diesOf (chans.getD ((bits w 0 5 + k) % chans.length) 0)
    l.getD (bits w (5 + 3 * k) 3 % l.length) 0), s1)

/-- The dies of the pages of `n` stripe rows. -/
def State.pickRows : Nat → State → List (List Nat) × State
  | 0, s => ([], s)
  | n + 1, s =>
    let (d, s1) := s.pickDies 17
    let (ds, s2) := State.pickRows n s1
    (d :: ds, s2)

end Sys2Proof.Machine
end

