-- ==== Sys2Proof/Machine/HgBase.lean ====
section
/-! DEFINITION. Tables of a pipeline image (spec/03 R73 to R77), event flags (spec/04 R111), leases, flume entries and the discarding of items and
their jobs (spec/02 R68, spec/03 R84, R89, spec/13 R367). -/
namespace Sys2Proof.Machine

/-! ## Image tables -/

def imgStages (b : List Byte) : Nat := fieldLE b 18 1
def imgFlumes (b : List Byte) : Nat := fieldLE b 19 1
def imgExchs (b : List Byte) : Nat := fieldLE b 20 1
def imgScans (b : List Byte) : Nat := fieldLE b 21 1
def imgResult (b : List Byte) : Nat := fieldLE b 22 1
def imgStreamOut (b : List Byte) : Bool := fieldLE b 3 1 % 2 == 1
def imgParamLen (b : List Byte) : Nat := fieldLE b 24 4
def imgPoolNeed (b : List Byte) : Nat := fieldLE b 52 4
def imgLeaseNeed (b : List Byte) : Nat := fieldLE b 56 8

/-- Entry k of a table at the offset held at header byte `off`. -/
def imgEntry (b : List Byte) (off size k : Nat) : List Byte := slice b (fieldLE b off 4 + size * k) size

def stageEnt (b : List Byte) (s : Nat) : List Byte := imgEntry b 28 32 s
def flumeEnt (b : List Byte) (f : Nat) : List Byte := imgEntry b 32 8 f
def exchEnt (b : List Byte) (x : Nat) : List Byte := imgEntry b 36 16 x
def scanEnt (b : List Byte) (k : Nat) : List Byte := imgEntry b 40 16 k

def stKind (e : List Byte) : Nat := fieldLE e 1 1
def stRmode (e : List Byte) : Bool := fieldLE e 2 1 == 1
def stPrio (e : List Byte) : Nat := fieldLE e 3 1
def stMirror (e : List Byte) : Bool := fieldLE e 4 1 % 2 == 1
def stResult (e : List Byte) : Bool := fieldLE e 4 1 / 2 % 2 == 1
def stIn (e : List Byte) : Nat := fieldLE e 5 1
def stIn2 (e : List Byte) : Nat := fieldLE e 6 1
def stOutExch (e : List Byte) : Nat := fieldLE e 7 1
def stOut0 (e : List Byte) : Nat := fieldLE e 8 1
def stOut1 (e : List Byte) : Nat := fieldLE e 9 1
def stLease (e : List Byte) : Nat := fieldLE e 20 4
def stWaits (e : List Byte) : Nat := fieldLE e 24 8

def exTuple (e : List Byte) : Nat := fieldLE e 1 1
def exBufs (e : List Byte) : Nat := fieldLE e 2 2
def exBytes (e : List Byte) : Nat := fieldLE e 4 4

def flDepth (e : List Byte) : Nat := 2 ^ fieldLE e 2 1

/-- Pages of a stage's lease. -/
def stPages (e : List Byte) : Nat := stLease e / 4096

/-! ## Flags -/

/-- Is a queued item's ready condition met (R111)? -/
def Item.cond (t : Item) : Bool :=
  !t.rmode || (if t.waitall then (t.flags &&& t.mask) == t.mask else (t.flags &&& t.mask) != 0 || t.mask == 0)

/-- May the first run (false) or the second be dispatched: it waits for a core, and not for the codec after a fault? -/
def Item.open (t : Item) (twin : Bool) : Bool :=
  !t.draining.contains twin && (if twin then t.twin.any (fun r => r.state == .waiting) else t.prim.state == .waiting)

/-- Ready: a run is queued, and its condition holds. -/
def Item.ready (t : Item) : Bool := (t.open false || t.open true) && t.cond

/-- Flags set on a slot (R111): word 7 takes the tick when the item becomes ready by them; a flag that names a free slot is dropped and counted. -/
def State.orFlags (s : State) (slot : Nat) (bitsSet : W64) : State :=
  match s.item? slot with
  | none => { s with hg := { s.hg with sigdrop := satInc s.hg.sigdrop } }
  | some t =>
    let t1 := { t with flags := t.flags ||| bitsSet }
    s.setItem slot (if !t.ready && t1.ready then { t1 with stamp := s.now } else t1)

/-! ## Leases -/

/-- Arena bytes of spilled parcels (R92). -/
def Query.spills (q : Query) : List (Nat × Nat) :=
  (q.parcels.filter (fun p => p.spilled)).foldl (fun l p => insertRegion (p.addr, 256) l) []

/-- A lease of `pages` from the query's arena, the lowest that fits (log entry 15); 0 pages need none. -/
def Query.grant (q : Query) (pages : Nat) : Option (Option Lease × Query) :=
  if pages = 0 then some (none, q) else
  let taken := q.used.foldl (fun l x => insertRegion (x.da, 4096 * x.pages) l) q.spills
  match firstFit 4096 (4096 * pages) (q.arenaDa + q.leaseNeed) q.arenaDa taken with
  | none => none
  | some da => some (some { da := da, pages := pages }, { q with used := { da := da, pages := pages } :: q.used })

def Query.release (q : Query) (l : Option Lease) : Query :=
  match l with
  | none => q
  | some x => { q with used := q.used.filter (fun y => y.da != x.da) }

/-- One holder lets go of a handed lease (R89): it is freed when no consumer item and no range holds it. -/
def Query.letGo (q : Query) (h : Option Nat) : Query :=
  match h with
  | none => q
  | some k => match SMap.find q.handed k with
    | none => q
    | some x =>
      if x.users ≤ 1 then { (q.release (some x.lease)) with handed := SMap.erase q.handed k }
      else { q with handed := SMap.set q.handed k { x with users := x.users - 1 } }

/-! ## Flumes -/

def State.flume? (s : State) (f : Nat) : Option Flume := SMap.find s.hg.flumes f
def State.setFlume (s : State) (f : Nat) (x : Flume) : State := { s with hg := { s.hg with flumes := SMap.set s.hg.flumes f x } }

/-- Entries of a flume: its depth and 256 for each extension page (R120). -/
def Flume.room (x : Flume) : Nat := x.depth + 256 * x.pages.length
def Flume.full (x : Flume) : Bool := decide (x.room ≤ x.staged + x.posts.length)

/-- Staged entries of a run given back. -/
def State.unstage (s : State) (posts : List Post) : State :=
  posts.foldl (fun t p => match t.flume? p.flume with
    | some f => t.setFlume p.flume { f with staged := f.staged - 1 }
    | none => t) s

/-! ## Jobs of an item -/

def CodecJob.ofItem (slot : Nat) (j : CodecJob) : Bool := j.by_.slot == some slot
def DigestJob.ofItem (slot : Nat) (j : DigestJob) : Bool := j.by_.slot == some slot

/-- Units whose queue was full in `s` and has room in `t`, after those that gained room earlier (R53). -/
def Codec.gains (old new : Codec) : List Nat :=
  let len := fun (x : Codec) (u : Nat) => (SMap.get x.units CodecUnit.reset u).queue.length
  new.gained.filter (fun u => decide (len new u < 64)) ++ (List.range 48).filter (fun u => decide (64 ≤ len old u) && decide (len new u < 64))

/-- The codec's units that gained room since `s` noted (R53). -/
def State.noteRoom (t s : State) : State := { t with codec := { t.codec with gained := Codec.gains s.codec t.codec } }

/-- Codec and digest jobs that meet a condition are dropped: no record, no flag, no further byte (R68, R367). -/
def State.dropJobs (s : State) (pc : Submitter → Bool) : State :=
  State.noteRoom { s with
    codec := { s.codec with
      units := SMap.mapVals s.codec.units (fun _ u =>
        { u with queue := u.queue.filter (fun j => !pc j.by_), run := match u.run with
          | some r => if pc r.1.by_ then none else some r
          | none => none }),
      reissue := s.codec.reissue.filter (fun j => !pc j.by_) },
    dg := { s.dg with
      engines := SMap.mapVals s.dg.engines (fun _ e =>
        { e with queue := e.queue.filter (fun j => !pc j.by_), stack := e.stack.filter (fun j => !pc j.by_), run := match e.run with
          | some j => if pc j.by_ then none else some j
          | none => none }),
      held := s.dg.held.filter (fun j => !pc j.by_) } } s

def State.dropItemJobs (s : State) (slot : Nat) : State := s.dropJobs (fun b => b.slot == some slot)

/-- Does any codec or digest job of an item remain (R69, R363)? -/
def State.hasJobs (s : State) (slot : Nat) : Bool :=
  s.codec.units.any (fun e => e.2.queue.any (CodecJob.ofItem slot) || (match e.2.run with
    | some r => r.1.ofItem slot
    | none => false))
  || s.codec.reissue.any (CodecJob.ofItem slot)
  || s.dg.engines.any (fun e => e.2.queue.any (DigestJob.ofItem slot) || e.2.stack.any (DigestJob.ofItem slot) || (match e.2.run with
    | some j => j.ofItem slot
    | none => false))
  || s.dg.held.any (DigestJob.ofItem slot)

/-! ## Discarding items -/

def Item.runs (t : Item) : List Run := t.prim :: t.twin.toList

/-- Bytes of a parcel written where it lies: its cluster's pool, or the arena. -/
def State.putParcel (s : State) (i : Nat) (cluster : Nat) (p : Parcel) (off : Nat) (bs : List Byte) : State :=
  if p.spilled then s.writeMem i (p.addr + off) bs
  else s.setPool cluster (Cells.writeList (s.pool cluster) (p.addr + off) bs)

/-- The open parcels of a slot change state (R92, R93), in the query's record and in their headers. -/
def State.closeParcels (s : State) (ctx slot st : Nat) : State :=
  match s.query? ctx with
  | none => s
  | some q =>
    let mine := fun (p : Parcel) => p.slot == slot && p.state == 0
    (q.parcels.filter mine).foldl (fun (t : State) (p : Parcel) => t.putParcel q.inst (q.clusters.getD p.cl 0) p 2 [BitVec.ofNat 8 st])
      (s.setQuery ctx { q with parcels := q.parcels.map (fun p => if mine p then { p with state := st } else p) })

/-- Parcels of a sender become void (R93). -/
def State.voidParcels (s : State) (ctx slot : Nat) : State := s.closeParcels ctx slot 2

/-- A core whose item is discarded: one in DONE step 2 has nothing to wait for and goes to the dispatch loop (R116, R127). -/
def Core.loseItem (k : Core) : Core :=
  if k.act = .inDone then { k with item := none, act := .running, pc := Config.dispatchLoop, keeper := true, vres := 0 } else { k with item := none }

/-- An item's slot freed (R107): its staged entries, leases and jobs go, and a core that runs it runs nothing from then on. -/
def State.discardItem (s : State) (slot : Nat) : State :=
  match s.item? slot with
  | none => s
  | some t =>
    let s1 := t.runs.foldl (fun (u : State) (r : Run) => u.unstage r.posts) ((s.dropItemJobs slot).voidParcels t.ctx slot)
    let s2 := match s1.query? t.ctx with
      | some q => s1.setQuery t.ctx (t.runs.foldl (fun (y : Query) (r : Run) => y.release r.lease) q)
      | none => s1
    { s2 with
      hg := { s2.hg with items := SMap.erase s2.hg.items slot },
      cores := SMap.mapVals s2.cores (fun _ k => match k.item with
        | some (x, _) => if x = slot then k.loseItem else k
        | none => k) }

/-- Every item that meets a condition discarded. -/
def State.discardItems (s : State) (p : Item → Bool) : State :=
  (s.hg.items.filter (fun e => p e.2)).foldl (fun t e => t.discardItem e.1) s

/-- A query ends with a status (R84): the first stands; queued items go, running ones are left to their DONE. -/
def State.failQuery (s : State) (ctx : Nat) (st : W16) : State :=
  match s.query? ctx with
  | none => s
  | some q =>
    if q.status.isSome || q.fin then s else
    let s1 := s.setQuery ctx { q with status := some st }
    s1.discardItems (fun t => t.ctx == ctx && t.append.isNone && t.runs.all (fun r => match r.state with
      | .running _ => false
      | .committing _ => false
      | _ => true))

/-- A context, its flumes, pool room and arena released (R82); whatever is left of its items goes. -/
def State.closeCtx (s : State) (ctx : Nat) : State :=
  match s.query? ctx with
  | none => s
  | some q =>
    let s1 := s.discardItems (fun t => t.ctx == ctx && t.append.isNone)
    let s2 := s1.freeRegion q.inst q.arenaDa
    { s2 with hg := { s2.hg with queries := SMap.erase s2.hg.queries ctx,
                                 flumes := s2.hg.flumes.filter (fun e => !q.flumes.contains e.1) } }

end Sys2Proof.Machine
end

