-- ==== Sys2Proof/Machine/Wire.lean ====
section
/-! DEFINITION. WFP frames and sessions (spec/10 R286 to R297), the end of commands and their completions (spec/08 R231, R238, R242, R243, spec/09 R272). -/
namespace Sys2Proof.Machine

/-! ## Frames -/

/-- A key slot's 64 bytes; an EMPTY slot is all zero (R375). -/
def State.slotBytes (s : State) (k : Nat) : List Byte := match s.slotKey k with
  | some v => bytesOf v
  | none => List.replicate 64 0

def State.setSlot (s : State) (k : Nat) (v : List Byte) : State := { s with keys := { s.keys with slots := SMap.set s.keys.slots k (BitVec.ofNat 512 (leNat v)) } }
def State.zeroSlot (s : State) (k : Nat) : State := { s with keys := { s.keys with slots := SMap.erase s.keys.slots k } }

/-- Header bytes 0 to 31 (R287). -/
def wfpHead (ty port session seq tag flags len a0 a1 : Nat) : List Byte :=
  leBytes 1 1 ++ leBytes 1 ty ++ leBytes 2 port ++ leBytes 4 session ++ leBytes 4 seq ++ leBytes 1 tag ++ leBytes 1 flags ++ leBytes 2 len
    ++ leBytes 8 a0 ++ leBytes 8 a1

/-- AUTH (R289): bytes 0 to 15 of HMAC-SHA-256 over the header and the payload. -/
def wfpAuth (key head pay : List Byte) : List Byte := (hmac .sha256 key (head ++ pay)).take 16

/-- The source address of a port's frames: 02-59-51-00-HH-LL (R286). -/
def portMac (p : Nat) : BitVec 48 := BitVec.ofNat 48 (0x025951000000 + p)

/-- A frame of a session put on the wire. -/
def State.wire (s : State) (p : Nat) (x : Session) (seq ty tag a0 a1 : Nat) (pay : List Byte) : State :=
  let head := wfpHead ty p x.id.toNat seq tag 0 pay.length a0 a1
  s.emit (.frame p x.mac (portMac p) (head ++ wfpAuth (s.slotBytes x.slot) head pay ++ pay))

/-! ## The end of a command -/

def Inst.cmd? (x : Inst) (no : Nat) : Option Cmd := x.cmds.find? (fun c => c.no == no)

def Inst.putCmd (x : Inst) (c : Cmd) : Inst := { x with cmds := x.cmds.map (fun d => if d.no = c.no then c else d) }

/-- What a started command holds is released: intake buffer and ingest items, a query's context, a loading image and its digest job. -/
def State.dropWork (s : State) (i : Nat) (c : Cmd) : State :=
  match c.work with
  | .append a =>
    let s1 := s.discardItems (fun t => t.inst == i && (match t.append with
      | some (no, _) => no == c.no
      | none => false))
    let s2 := s1.freeRegion i a.bufDa
    match a.roomDa with
    | some r => s2.freeRegion i r
    | none => s2
  | .query ctx => s.closeCtx ctx
  | .image id =>
    let s1 := { s with dg := { s.dg with
      engines := SMap.mapVals s.dg.engines (fun _ e =>
        let keep := fun (j : DigestJob) => decide (j.why ≠ DigestFor.image i c.no)
        { e with queue := e.queue.filter keep, stack := e.stack.filter keep, run := match e.run with
          | some j => if keep j then some j else none
          | none => none }),
      held := s.dg.held.filter (fun j => decide (j.why ≠ DigestFor.image i c.no)) } }
    let gone := fun (m : Image) => m.loading && m.id == id
    (s1.inst i).images.foldl (fun (t : State) (m : Image) => if gone m then t.freeRegion i m.da else t)
      (s1.modInst i (fun x => { x with images := x.images.filter (fun m => !gone m) }))
  | _ => s

/-- A command's record removed without a completion. -/
def State.removeCmd (s : State) (i no : Nat) : State :=
  match (s.inst i).cmd? no with
  | none => s
  | some c => (s.dropWork i c).modInst i (fun x => { x with cmds := x.cmds.filter (fun d => d.no != no) })

/-! ## Sessions -/

/-- The tags of a closing session end without RESP (R296). -/
def State.endTags (s : State) (p : Nat) (x : Session) : State :=
  match instOfPort s.hi.n p with
  | none => s
  | some i => x.tags.foldl (fun t e => t.removeCmd i e.2.cmd) s

/-- The open session closes (R295, R296): CLOSED is sent but for reasons 7 and 8, its tags end, its key is zeroed. -/
def State.closeSession (s : State) (p reason : Nat) : State :=
  match (s.port p).sess with
  | none => s
  | some x =>
    let seq := if reason = 5 then 0xFFFFFFFF else x.tx.toNat + 1
    let s1 := if reason = 7 ∨ reason = 8 then s else s.wire p x seq 0x20 0xFF (4 + reason * 2 ^ 32) 0 []
    let s2 := (s1.endTags p x).zeroSlot x.slot
    s2.setPort p { s2.port p with sess := none }

/-- A pending session ends without a frame and its key is zeroed (R292). -/
def State.dropPending (s : State) (p : Nat) : State :=
  match (s.port p).pend with
  | none => s
  | some x => let s1 := s.zeroSlot x.slot; s1.setPort p { s1.port p with pend := none }

/-- OPENs in progress on a port end, and their port keys are zeroed. -/
def State.dropOpens (s : State) (p : Nat) : State :=
  let s1 := (s.port p).opens.foldl (fun (t : State) (r : OpenReq) => t.zeroSlot r.slot) s
  s1.setPort p { s1.port p with opens := [] }

/-- A frame on the open session under the next SEQ; one that would need 0xFFFF_FFFF closes the session with reason 5 instead (R294). -/
def State.send (s : State) (p ty tag a0 a1 : Nat) : State :=
  match (s.port p).sess with
  | none => s
  | some x =>
    if x.tx.toNat + 1 ≥ 0xFFFFFFFF then s.closeSession p 5 else
    let s1 := s.wire p x (x.tx.toNat + 1) ty tag a0 a1 []
    s1.setPort p { s1.port p with sess := some { x with tx := x.tx + 1, txTick := s.now } }

/-! ## Completions -/

def okClass (st : W16) : Bool := st.toNat / 256 == 0

/-- A completion entry (R231). -/
def cqEntry (cid : W16) (st : W16) (count firstBad : Nat) (res : W64) : W128 :=
  BitVec.ofNat 128 (cid.toNat + st.toNat * 2 ^ 16 + count * 2 ^ 32 + firstBad * 2 ^ 48 + res.toNat * 2 ^ 64)

/-- The completion of an individual command. -/
def soloCqe (cid st : W16) (res : W64) (cids : List W16) : Cqe :=
  { entry := cqEntry cid st 1 (if okClass st then 0xFFFF else 0) res, cids := cids }

/-- Offset, status and result of the first failing member. -/
def firstFail : Nat → List Member → Option (Nat × W16 × W64)
  | _, [] => none
  | k, m :: ms => match m.fin with
    | some (st, r) => if okClass st then firstFail (k + 1) ms else some (k, st, r)
    | none => firstFail (k + 1) ms

/-- The completion of a batch (R243). -/
def batchCqe (ms : List Member) : Cqe :=
  let close := ms.getLastD { no := 0, cid := 0, rel := [], fin := none }
  let entry := match firstFail 0 ms with
    | some (k, st, r) => cqEntry close.cid st ms.length k r
    | none => cqEntry close.cid 0 ms.length 0xFFFF ((close.fin.map (fun e => e.2)).getD 0)
  { entry := entry, cids := (ms.map (fun m => m.rel)).flatten }

/-- Every closed batch whose members have all completed gives its completion. -/
def Inst.closeBatches (x : Inst) : Inst :=
  let ready := fun (b : Batch) => b.closed && b.members.all (fun m => m.fin.isSome)
  { x with done := x.done ++ (x.batches.filter ready).map (fun b => batchCqe b.members), batches := x.batches.filter (fun b => !ready b) }

/-- SL_MALF (R282). -/
def Inst.countMalf (x : Inst) (st : W16) : Inst := if st.toNat / 256 = 1 then { x with malf := satInc x.malf } else x

/-- A ring command or member of a batch has its status: its own completion, or its place in the batch's. `cids` are released with its own. -/
def Inst.report (x : Inst) (batch : Option Nat) (no : Nat) (cid st : W16) (res : W64) (cids : List W16) : Inst :=
  let x1 := x.countMalf st
  match batch with
  | none => { x1 with done := x1.done ++ [soloCqe cid st res cids] }
  | some b =>
    let mark := fun (m : Member) => if m.no = no then { m with fin := some (st, res), rel := cids } else m
    ({ x1 with batches := x1.batches.map (fun (y : Batch) => if y.no = b then { y with members := y.members.map mark } else y) }).closeBatches

/-- CIDs outstanding on the ring (R238). -/
def Inst.cids (x : Inst) : List W16 :=
  (x.cmds.filter (fun (c : Cmd) => c.src == Src.ring)).map Cmd.cid ++ (x.batches.map (fun (b : Batch) => (b.members.map Member.rel).flatten)).flatten
    ++ ((x.done ++ x.culvert).map Cqe.cids).flatten

/-- A command's record leaves with its status (R239): the completion of a ring command, the RESP of a field command, which frees its tag (R298). -/
def State.finishOne (s : State) (i : Nat) (c : Cmd) (st : W16) (res : W64) : State :=
  let s1 := s.modInst i (fun x => { x with cmds := x.cmds.filter (fun d => d.no != c.no) })
  match c.src with
  | .ring =>
    let tgt := BitVec.ofNat 16 (fieldLE c.bytes 16 2)
    s1.modInst i (fun x => x.report c.batch c.no c.cid st res (if c.opc = 3 ∧ tgt ≠ c.cid ∧ x.cids.contains tgt then [c.cid, tgt] else [c.cid]))
  | .field p tag session =>
    match (s1.port p).sess with
    | none => s1
    | some x =>
      if x.id ≠ session then s1 else
      let s1 := s1.modInst i (fun x => x.countMalf st)
      let s2 := s1.setPort p { s1.port p with
        sess := some { x with tags := SMap.erase x.tags tag },
        overrun := if st = 0x0800 then satInc (s1.port p).overrun else (s1.port p).overrun,
        underrun := if st = 0x0801 then satInc (s1.port p).underrun else (s1.port p).underrun }
      s2.send p 0x13 tag st.toNat res.toNat

/-- Is the completion that covers a command formed, so that an ABORT in batch `b` may complete after it (R272)? -/
def Inst.formed (x : Inst) (no : Nat) (b : Option Nat) : Bool :=
  !x.cmds.any (fun c => c.no == no) && !x.batches.any (fun y => (b != some y.no) && y.members.any (fun m => m.no == no))

/-- An ABORT that waits completes once its target's completion is formed. -/
def State.settleAbort (i : Nat) (s : State) (d : Cmd) : State :=
  match d.phase with
  | .abortWait t st => if (s.inst i).formed t d.batch then s.finishOne i d st 0 else s
  | _ => s

/-- The ABORTs of an instance looked at in arrival order. -/
def State.settleAborts (s : State) (i : Nat) : State := (s.inst i).cmds.foldl (State.settleAbort i) s

/-- A command completes; what it held is released first, and an ABORT that waits for it completes after it (R272). A query's context stays until its
entry is written (R82). -/
def State.finish (s : State) (i no : Nat) (st : W16) (res : W64) : State :=
  match (s.inst i).cmd? no with
  | none => s
  | some c =>
    let s1 := match c.work with
      | .query ctx => (match s.query? ctx with
        | some q => s.setQuery ctx { q with fin := true }
        | none => s)
      | _ => s.dropWork i c
    (s1.finishOne i c st res).settleAborts i

/-- An entry that never becomes a command completes with MALFORMED (R252); its CID stays the earlier command's when it is that command's. -/
def Inst.malformed (x : Inst) (batch : Option Nat) (no : Nat) (cid st : W16) (own : Bool) : Inst :=
  x.report batch no cid st 0 (if own then [cid] else [])

/-- Contexts of finished queries whose CID an entry releases are freed once it is written (R82). -/
def State.releaseCids (s : State) (i : Nat) (cids : List W16) : State :=
  (s.hg.queries.filter (fun e => e.2.inst == i && e.2.fin && cids.contains e.2.cid)).foldl (fun t e => t.closeCtx e.1) s

end Sys2Proof.Machine
end

