-- ==== Sys2Proof/Machine/Store.lean ====
section
/-! DEFINITION. The owner's columns: open segments, seals falling due and eviction (spec/12 R333 to R340, R350, R433), metering (spec/01 R20), ingest items and
landing (spec/03 R102, spec/01 R18), and the completion of FLUSH (spec/09 R270). -/
namespace Sys2Proof.Machine

/-! ## Tables -/

def Owner.table? (o : Owner) (t : Nat) : Option Table := o.tables.find? (fun x => x.id == t)
def Owner.putTable (o : Owner) (t : Table) : Owner := { o with tables := o.tables.map (fun x => if x.id = t.id then t else x) }

def Table.col (t : Table) (c : Nat) : List Block := t.blocks.getD c []
def Table.tys (t : Table) : List Nat := t.cols.map ColDef.ty
def Table.stride (t : Table) : Nat := strideOf t.tys

/-- Block k of a column changed. -/
def Owner.modBlock (o : Owner) (tbl col k : Nat) (f : Block → Block) : Owner :=
  { o with tables := o.tables.map (fun t => if t.id = tbl then { t with blocks := t.blocks.modify col (fun bs => bs.modify k f) } else t) }

/-- Every block of an owner changed. -/
def Owner.mapBlocks (o : Owner) (f : Block → Block) : Owner :=
  { o with tables := o.tables.map (fun t => { t with blocks := t.blocks.map (fun bs => bs.map f) }) }

def Owner.allBlocks (o : Owner) : List Block := (o.tables.map (fun t => t.blocks.flatten)).flatten

/-- Bytes of landed blocks that are not sealed. -/
def Owner.unsealed (o : Owner) : Nat := ((o.allBlocks.filter (fun b => b.seg.isNone)).map Block.len).sum

/-- User flash in use: block bytes with padding and directory entries (R352). -/
def Owner.userBytes (o : Owner) : Nat := (o.allBlocks.map (fun b => b.len + 32)).sum

/-- The instance's unsealed charge (R20). -/
def State.unsealed (s : State) (i : Nat) : Nat :=
  ((s.owner? i).map Owner.unsealed).getD 0 + ((s.inst i).cmds.map (fun c => match c.work with
    | .append a => a.charges
    | _ => 0)).sum

/-- Does metering withhold intake: the charge is at or above 40/N GB (R20)? -/
def State.withheld (s : State) (i : Nat) : Bool := decide (40 * 10 ^ 9 ≤ s.hi.n * s.unsealed i)

/-! ## Capacity -/

/-- Raw bytes of the store (R2, R352). -/
def State.rawBytes (s : State) : Nat := (if s.part.variant = .c then 64 else 128) * 2 ^ 40

/-- An owner's user share of flash in bytes (R2, R352). -/
def State.userShare (s : State) : Nat := (if s.part.variant = .c then 48 else 96) * 2 ^ 40 / s.hi.n

/-- Segment slots: those that the stripe space holds, 64 rows of 17 pages each (R332, R352; log entry 101). -/
def State.slotCount (s : State) : Nat := s.rawBytes * 93 / 100 / (64 * 17 * pageBytes)

/-- The module reserve and a die's spare pool, in bytes (R345, R352). -/
def State.reserveBytes (s : State) : Nat := s.rawBytes * 2 / 100
def sparePool : Nat := 512 * 2 ^ 30 * 4 / 100

/-- The reserve cannot hold the next remap: the stripe rows of one block (R345, R356; log entry 101). -/
def State.resEmpty (s : State) : Bool := decide (s.reserveBytes < s.flash.reserveUsed + 17 * Config.nandBlock)

/-! ## Partition headers -/

/-- What a header copy records of an owner (R343, R377). -/
def Owner.header (o : Owner) (gen : Nat) (key : Option W512) : Header :=
  { gen := gen, no := o.no, nonce := o.nonce, oek := o.oek, keyGen := o.gen, schemas := o.tables.map (fun t => (t.id, t.cols)), nextTable := o.nextTable,
    dry := o.dry, key := key, good := true }

/-- One header copy written: the one of the lower generation, under the next (R343). -/
def State.writeHeader (s : State) (i : Nat) : State :=
  match s.owner? i with
  | none => s
  | some o =>
    let old := SMap.get s.flash.headers [] i
    let h := o.header ((old.map Header.gen).foldl max 0 + 1) (s.slotKey (storeKeySlot 31))
    let new := match old with
      | [a, b] => if a.gen ≤ b.gen then [h, b] else [a, h]
      | l => l ++ [h]
    { s with flash := { s.flash with headers := SMap.set s.flash.headers i new } }

/-- Both header copies written (R378 to R380). -/
def State.writeHeaders (s : State) (i : Nat) : State := (s.writeHeader i).writeHeader i

/-! ## Open segments and seals -/

/-- A block whose segment is open. -/
def Block.isOpen (b : Block) : Bool := b.seg.isNone && !b.taken

/-- The open segments of a column: bytes and block indices of each run, oldest first. -/
def openRuns (bs : List Block) : List (Nat × List Nat) :=
  let live := (bs.zipIdx).filter (fun e => e.1.isOpen)
  ((live.map (fun e => e.1.run)).eraseDups).map (fun r =>
    let mine := live.filter (fun e => e.1.run == r)
    ((mine.map (fun e => e.1.len)).sum, mine.map (fun e => e.2)))

/-- Open segments of an owner in ascending (TABLE_ID, COL) order: bytes and blocks. -/
def Owner.openSegs (o : Owner) : List (Nat × List (Nat × Nat × Nat)) :=
  (o.tables.map (fun t => (t.blocks.zipIdx.map (fun c => (openRuns c.1).map (fun r => (r.1, r.2.map (fun k => (t.id, c.2, k)))))).flatten)).flatten

/-- Runs packed into mixed segments, each taking runs until the next would not fit (R339). -/
def packMixed : Nat → List (Nat × Nat × Nat) → List (Nat × List (Nat × Nat × Nat)) → List (List (Nat × Nat × Nat))
  | _, cur, [] => if cur.isEmpty then [] else [cur]
  | len, cur, r :: rs =>
    if cur.isEmpty || decide (extentOf (len + r.1) (cur.length + r.2.length) ≤ segMax) then packMixed (len + r.1) (cur ++ r.2) rs
    else cur :: packMixed r.1 r.2 rs

/-- Regions of runs that have closed shrink to their blocks (R102, R350). -/
def shrinkRegions (bs : List Block) (rs : List (Nat × Nat)) : List (Nat × Nat) :=
  rs.map (fun r =>
    if bs.any (fun b => b.da == some r.1) then
      (r.1, (bs.filterMap (fun b => match b.da with
        | some a => if r.1 ≤ a ∧ a < r.1 + r.2 then some (a + b.len - r.1) else none
        | none => none)).foldl max 0)
    else r)

/-- A job for the seal of some blocks, which its segment has taken from then on. -/
def State.queueSeal (s : State) (i tbl col : Nat) (sup : List Nat) (blocks : List (Nat × Nat × Nat)) : State :=
  match s.owner? i with
  | none => s
  | some o =>
    let o1 := blocks.foldl (fun (y : Owner) (b : Nat × Nat × Nat) => y.modBlock b.1 b.2.1 b.2.2 (fun k => { k with taken := true })) o
    let bs := blocks.filterMap (fun b => ((o.table? b.1).map (fun t => t.col b.2.1)).bind (fun l => l[b.2.2]?))
    let s1 := (s.setOwner i o1).modInst i (fun x => { x with regions := shrinkRegions bs x.regions })
    { s1 with flash := { s1.flash with jobs := s1.flash.jobs ++ [{ owner := i, table := tbl, col := col, sup := sup, blocks := blocks }] } }

/-- A seal falls due for an owner: every open segment is sealed, those below 1 MiB in mixed segments (R339). A Dry owner seals nothing (R345). -/
def State.dueSeal (s : State) (i : Nat) : State :=
  match s.owner? i with
  | none => s
  | some o =>
    if o.dry then s else
    let segs := o.openSegs
    let big := segs.filter (fun e => decide (2 ^ 20 ≤ e.1))
    let small := segs.filter (fun e => decide (e.1 < 2 ^ 20))
    let s1 := big.foldl (fun (t : State) (e : Nat × List (Nat × Nat × Nat)) => match e.2.head? with
      | some b => t.queueSeal i b.1 b.2.1 [] e.2
      | none => t) s
    (packMixed 0 [] small).foldl (fun (t : State) (bs : List (Nat × Nat × Nat)) => t.queueSeal i 0xFFFFFFFF 0xFF [] bs) s1

/-! ## Residency -/

/-- Does a running query's snapshot name a block (R350)? -/
def Query.names (q : Query) (tbl col : Nat) (b : Block) : Bool :=
  decide (b.lsn ≤ q.snapshot) && (List.range (imgScans q.code)).any (fun k =>
    let e := scanEnt q.code k
    fieldLE e 4 4 == tbl && (fieldLE e 8 8).testBit col)

/-- Is a sealed segment named by a running query of its owner? -/
def State.segNamed (s : State) (i seq : Nat) : Bool :=
  match s.owner? i with
  | none => false
  | some o => s.hg.queries.any (fun q => q.2.inst == i && o.tables.any (fun t => t.blocks.zipIdx.any (fun c => c.1.any (fun b =>
      b.seg == some seq && q.2.names t.id c.2 b))))

/-- Are all readable blocks of the segment in memory? -/
def Owner.wholly (o : Owner) (seq : Nat) : Bool := o.allBlocks.all (fun b => b.seg != some seq || b.lost || b.da.isSome)

/-- Is any block of the segment in memory? -/
def Owner.resident (o : Owner) (seq : Nat) : Bool := o.allBlocks.any (fun b => b.seg == some seq && b.da.isSome)

/-- A sealed segment's blocks leave memory. -/
def State.evict (s : State) (i seq : Nat) : State :=
  match s.owner? i with
  | none => s
  | some o =>
    let das := o.allBlocks.filterMap (fun b => if b.seg = some seq then b.da else none)
    (s.setOwner i (o.mapBlocks (fun b => if b.seg = some seq then { b with da := none } else b))).modInst i (fun x =>
      { x with regions := x.regions.filter (fun r => !das.contains r.1) })

/-- The segment to evict: of those no running query names, the least recently scanned (R350). -/
def State.victim (s : State) (i : Nat) : Option Segment :=
  match s.owner? i with
  | none => none
  | some o => (s.flash.segments.filter (fun g => g.owner == i && o.resident g.seq && !s.segNamed i g.seq)).foldl
      (fun (a : Option Segment) (g : Segment) => match a with
        | none => some g
        | some h => if g.scanned < h.scanned then some g else some h) none

/-- Room in the share, evicting sealed segments while their memory is needed. -/
def State.allocEvict : Nat → State → Nat → Nat → Nat → Option (Nat × State)
  | 0, s, i, align, len => s.alloc i align len
  | n + 1, s, i, align, len =>
    match s.alloc i align len with
    | some r => some r
    | none => match s.victim i with
      | none => none
      | some g => State.allocEvict n (s.evict i g.seq) i align len

def State.room (s : State) (i align len : Nat) : Option (Nat × State) := State.allocEvict s.flash.segments.length s i align len

/-- A region made longer where the bytes after it are free. -/
def State.extendRegion (s : State) (i base len add : Nat) : Option State :=
  let x := s.inst i
  let stop := base + len
  if x.regions.any (fun r => decide (r.1 < stop + add) && decide (stop < r.1 + r.2)) || decide ((s.window i).2 < stop + add) then none
  else some (s.setInst i { x with regions := x.regions.map (fun r => if r.1 = base then (base, len + add) else r) })

/-! ## Ingest -/

/-- Lowest number in [lo, hi) that is no key of the map. -/
def gapFrom {α : Type} (hi : Nat) : Nat → SMap α → Option Nat
  | lo, [] => if lo < hi then some lo else none
  | lo, (k, _) :: m => if k < lo then gapFrom hi lo m else if k = lo then gapFrom hi (lo + 1) m else if lo < hi then some lo else none

/-- The instance's lowest free slot (log entry 15). -/
def State.freeSlot (s : State) (i : Nat) : Option Nat :=
  let n := slotsPer s.hi.n
  gapFrom ((i + 1) * n) (i * n) s.hg.items

def State.slotsUsed (s : State) (i : Nat) : Nat := (s.hg.items.filter (fun e => e.2.inst == i)).length

def State.addItem (s : State) (slot : Nat) (t : Item) : State :=
  { s with hg := { s.hg with items := SMap.set s.hg.items slot { t with order := s.hg.nextOrder, stamp := s.now }, nextOrder := s.hg.nextOrder + 1 } }

/-- An ingest item (R102): priority mode at priority 3, no outputs; its words 2, 3 and 5 are firmware's (free values). -/
def State.ingestItem (s : State) (i no k : Nat) : Option State :=
  match s.freeSlot i with
  | none => none
  | some slot =>
    let (w2, s1) := s.free
    let (w3, s2) := s1.free
    let (w5, s3) := s2.free
    some (s3.addItem slot
      { inst := i, ctx := ingestCtx s.hi.n i, stage := 0xFE, prio := 3, rmode := false, waitall := false, mirror := false, replayable := true,
        phase := 0, replays := 0, w2 := w2, w3 := w3, w4 := 0xFF00000000, w5 := w5, stamp := 0, flags := 0, mask := 0, isParked := false,
        parked := none, bound := none, replay := none, draining := [], order := 0, handed := none, append := some (no, k),
        prim := Run.fresh none, twin := none })

/-- Ingest items of an append: one per 65,536 rows. -/
def State.ingestCount (s : State) (i : Nat) (a : AppendWork) : Nat :=
  match (s.owner? i).bind (fun o => o.table? a.table) with
  | some t => ceilDiv (a.len / t.stride) 65536
  | none => 0

def State.setAppend (s : State) (i no : Nat) (a : AppendWork) : State :=
  s.modInst i (fun x => match x.cmd? no with
    | some c => x.putCmd { c with work := .append a }
    | none => x)

/-- Ingest items of one append, as slots are free. -/
def pumpAppend : Nat → State → Nat → Nat → AppendWork → State
  | 0, s, i, no, a => s.setAppend i no a
  | n + 1, s, i, no, a =>
    match s.ingestItem i no a.made with
    | none => s.setAppend i no a
    | some s1 => pumpAppend n s1 i no { a with made := a.made + 1 }

/-- Ingest items of every append whose bytes are all present (R102, R119). -/
def State.pumpIngest (s : State) (i : Nat) : State :=
  (s.inst i).cmds.foldl (fun (t : State) (c : Cmd) => match c.work with
    | .append a => if a.full then pumpAppend (t.ingestCount i a - a.made) t i c.no a else t
    | _ => t) s

/-! ## FLUSH -/

/-- Same ring, or same session (R270). -/
def Src.same : Src → Src → Bool
  | .ring, .ring => true
  | .field p _ x, .field q _ y => p == q && x == y
  | _, _ => false

/-- Does a landed append that a FLUSH covers still wait for a seal that has not fallen due? -/
def Owner.needsSeal (o : Owner) (lsns : List Nat) : Bool := o.allBlocks.any (fun b => b.isOpen && lsns.contains b.lsn)

/-- One started FLUSH looked at (R270, R338): it waits for covered APPENDs, then for their seals, which fall due; it completes with DUR. -/
def State.flushOne (s : State) (i no : Nat) : State :=
  match (s.inst i).cmd? no, s.owner? i with
  | some c, some o =>
    if (s.inst i).cmds.any (fun d => d.opc == 1 && d.src.same c.src && decide (d.no < no)) then s else
    let mine := fun (e : Nat × Src × Nat) => e.2.1.same c.src && decide (e.2.2 < no)
    let waiting := (o.origins.filter mine).map (fun e => e.1)
    if waiting.isEmpty then
      let s1 := s.setOwner i { o with bad := o.bad.filter (fun e => !mine e) }
      s1.finish i no (if o.bad.any mine then 0x0401 else 0x0002) (BitVec.ofNat 64 o.dur)
    else if o.dry then s.finish i no 0x0300 0
    else if o.needsSeal waiting then s.dueSeal i
    else s
  | _, _ => s

/-- Every started FLUSH of the instance looked at, in arrival order. -/
def State.flushCheck (s : State) (i : Nat) : State :=
  ((s.inst i).cmds.filter (fun c => c.work == .flush)).foldl (fun (t : State) (c : Cmd) => t.flushOne i c.no) s

/-- A command completes, and the FLUSHes that waited for it are looked at. -/
def State.complete (s : State) (i no : Nat) (st : W16) (res : W64) : State := (s.finish i no st res).flushCheck i

/-! ## Landing -/

/-- Block room left of an append that lands: its DA and bytes (R102). -/
abbrev Room := Option (Nat × Nat)

/-- Bytes at `da` reserved as one region. -/
def Inst.regionLen (x : Inst) (da : Nat) : Nat := ((x.regions.find? (fun r => r.1 == da)).map (fun r => r.2)).getD 0

/-- The first `k` bytes of an append's block room given to a region that starts at `base` and then has `len` bytes. -/
def State.carve (s : State) (i base len k : Nat) (r : Nat × Nat) : State × Room :=
  let left := (r.1 + k, r.2 - k)
  (s.modInst i (fun x =>
    let rest := x.regions.filter (fun e => e.1 != r.1 && e.1 != base)
    { x with regions := insertRegion (base, len) (if left.2 = 0 then rest else insertRegion left rest) }),
   if left.2 = 0 then none else some left)

/-- A region of an open run made to hold `len` bytes (R350): what it reserves already, the append's block room where that follows, or free bytes. -/
def State.growRun (s : State) (i base len : Nat) (room : Room) : Option (State × Room) :=
  let cap := (s.inst i).regionLen base
  if len ≤ cap then some (s, room) else
  match room with
  | some r => if r.1 = base + cap ∧ len - cap ≤ r.2 then some (s.carve i base len (len - cap) r) else (s.extendRegion i base cap (len - cap)).map (fun t => (t, room))
  | none => (s.extendRegion i base cap (len - cap)).map (fun t => (t, room))

/-- Where a new run of a column begins: in room for a whole segment, which the run reserves while it grows (R350), or, where the share has none, in the append's
own block room (R102; log entry 102). -/
def State.newRun (s : State) (i len : Nat) (room : Room) : Option (Nat × State × Room) :=
  match s.room i 64 segMax with
  | some (da, s1) => some (da, s1, room)
  | none => match room with
    | some r => if len ≤ r.2 then let (t, q) := s.carve i r.1 len len r; some (r.1, t, q) else none
    | none => (s.room i 64 len).map (fun e => (e.1, e.2, none))

/-- A column block placed: its DA and run, in its open run or in a new one where the segment is full (R350, R433). -/
def State.placeBlock (s : State) (i tbl col len : Nat) (room : Room) : Option (Nat × Nat × State × Room) :=
  match s.owner? i with
  | none => none
  | some o =>
    let bs := match o.table? tbl with
      | some t => t.col col
      | none => []
    let fresh := fun (u : State) => match u.newRun i len room with
      | none => none
      | some (da, u1, q) => match u1.owner? i with
        | none => none
        | some o1 => some (da, o1.nextRun, u1.setOwner i { o1 with nextRun := o1.nextRun + 1 }, q)
    match bs.getLast? with
    | none => fresh s
    | some b =>
      if !b.isOpen then fresh s else
      let mine := (bs.zipIdx).filter (fun e => e.1.isOpen && e.1.run == b.run)
      let total := (mine.map (fun e => e.1.len)).sum
      if segMax < extentOf (total + len) (mine.length + 1) then
        fresh (if o.dry then s else s.queueSeal i tbl col [] (mine.map (fun e => (tbl, col, e.2))))
      else match (mine.head?).bind (fun e => e.1.da) with
        | none => fresh s
        | some base => match s.growRun i base (total + len) room with
          | some (s1, q) => some (base + total, b.run, s1, q)
          | none => fresh s

/-- Where a block of a landing column goes: state, (DA, values) of the blocks so far, and the block room left. -/
abbrev LandAcc := Option (State × List RefBlock × Room)

/-- One block encoded, placed, written and linked. -/
def landBlock (i tbl col : Nat) (cd : ColDef) (lsn first : Nat) (refs : List RefBlock) (acc : LandAcc) (e : (List Nat × Bool) × Nat) : LandAcc :=
  match acc with
  | none => none
  | some (s, done, room) =>
    let bytes := encodeBlock cd.ty cd.pmask refs[e.2]? e.1.2 e.1.1
    match s.placeBlock i tbl col bytes.length room with
    | none => none
    | some (da, run, s1, q) =>
      let s2 := s1.writeMem i da bytes
      match s2.owner? i with
      | none => none
      | some o =>
        let blk : Block := { lsn := lsn, rows := e.1.1.length, firstRow := first + 4096 * e.2, len := bytes.length, da := some da, lost := false,
                             landedTick := s.now, seg := none, run := run, taken := false }
        let o1 := { o with tables := o.tables.map (fun t => if t.id = tbl then { t with blocks := t.blocks.modify col (· ++ [blk]) } else t) }
        some (s2.setOwner i o1, done ++ [{ da := da, vals := e.1.1 }], q)

/-- Values cut into blocks of 4,096, with LAST at the end of each 65,536-row item (R102). -/
def cutBlocks (vs : List Nat) : List (List Nat × Bool) :=
  let bs := chunk 4096 (ceilDiv vs.length 4096) vs
  bs.zipIdx.map (fun e => (e.1, e.2 % 16 == 15 || e.2 + 1 == bs.length))

/-- Columns of an append, in ordinal order: every column keeps the (DA, values) of its blocks for those that refer to it. -/
def landCols (i tbl lsn first rows : Nat) (tys : List Nat) (data : List Byte) :
    List (ColDef × Nat) → State → Room → List (List RefBlock) → Option (State × Room)
  | [], s, room, _ => some (s, room)
  | (cd, j) :: cs, s, room, seen =>
    let refs := if cd.ref = 0xFF then [] else seen.getD cd.ref []
    match (cutBlocks (columnOf tys j data rows)).zipIdx.foldl (landBlock i tbl j cd lsn first refs) (some (s, [], room)) with
    | none => none
    | some (s1, bs, q) => landCols i tbl lsn first rows tys data cs s1 q (seen ++ [bs])

/-- The last ingest item has committed: the append lands whole (R18, R102). Its blocks take the block room that its start reserved where the share has no
other, and what is left of that is released. -/
def State.land (s : State) (i : Nat) (c : Cmd) (a : AppendWork) : State :=
  match s.owner? i with
  | none => s
  | some o => match o.table? a.table with
    | none => s
    | some t =>
      let (d, s1) := s.readMem i a.bufDa a.len
      match d with
      | none => s1.complete i c.no 0x0400 0
      | some data =>
        let rows := a.len / t.stride
        let room := a.roomDa.map (fun r => (r, (s1.inst i).regionLen r))
        match landCols i t.id o.nextLsn t.rows rows t.tys data t.cols.zipIdx s1 room [] with
        | none => s1.complete i c.no 0x0301 0
        | some (s2, left) => match s2.owner? i with
          | none => s2
          | some o1 =>
            let o2 := { o1 with tables := o1.tables.map (fun x => if x.id = t.id then { x with rows := x.rows + rows } else x),
                                nextLsn := o.nextLsn + 1, origins := o1.origins ++ [(o.nextLsn, c.src, c.no)] }
            ((s2.setOwner i o2).setAppend i c.no { a with roomDa := left.map (fun r => r.1) }).complete i c.no 0x0001 (BitVec.ofNat 64 o.nextLsn)

end Sys2Proof.Machine
end

