-- ==== Sys2Proof/Machine/UnitMem.lean ====
section
/-! DEFINITION. Accesses of codec units and digest engines by core-space address (spec/02 R52, R55, spec/13 R358). -/
namespace Sys2Proof.Machine

/-- Whose addresses a job uses: a core, the owner tag of its accesses, and the window that device addresses must lie in. -/
structure Client where
  core : Nat
  tag : Nat
  lo : Nat
  hi : Nat
deriving DecidableEq, Repr

/-- A query core's own client (R55). -/
def State.clientOf (s : State) (c : Nat) : Client :=
  { core := c, tag := tagOfCore s.hi.n c, lo := (s.core c).winLo.toNat, hi := (s.core c).winHi.toNat }

def devOk (u : Client) (a len : Nat) : Bool := decide (devBase + u.lo ≤ a) && decide (a + len ≤ devBase + u.hi)

def lsOk (a len : Nat) : Bool := decide (a + len ≤ 0x40000)

/-- Bytes wholly inside the pool share of the core's instance (R90). -/
def State.poolOk (s : State) (u : Client) (a len : Nat) : Bool :=
  match poolShare s.hi.n u.core with
  | some (lo, n) => decide (0x10000000 + lo ≤ a) && decide (a + len ≤ 0x10000000 + lo + n)
  | none => false

/-- A read of a job; none where a memory line is uncorrectable. -/
def State.unitRead (s : State) (u : Client) (a len : Nat) : Option (List Byte) × State :=
  match regionOf a with
  | .ls off => (some (Cells.readList (s.core u.core).ls off len), s)
  | .pool off => (some (Cells.readList (s.pool (clusterOf u.core)) off len), s)
  | .dev da => s.readMem u.tag da len
  | _ => (some (List.replicate len 0), s)

def State.lsWrite (s : State) (c off : Nat) (bs : List Byte) : State :=
  let k := s.core c
  s.setCore c { k with ls := Cells.writeList k.ls off bs }

/-- A write of a job; both supervisor cores keep their local store in step. -/
def State.unitWrite (s : State) (u : Client) (a : Nat) (bs : List Byte) : State :=
  match regionOf a with
  | .ls off => if u.core < 96 then s.lsWrite u.core off bs else (s.lsWrite 96 off bs).lsWrite 97 off bs
  | .pool off => s.setPool (clusterOf u.core) (Cells.writeList (s.pool (clusterOf u.core)) off bs)
  | .dev da => s.writeMem u.tag da bs
  | _ => s

/-- The submission checks of R52: the descriptor and COMP, 64 B aligned, in local store or pool. -/
def State.submitOk (s : State) (u : Client) (a : Nat) : Bool := decide (a % 64 = 0) && (lsOk a 64 || s.poolOk u a 64)

/-- Where a submitted job goes (R53, R365): a unit, a stall, or the submission port, which ends it with BAD_DESC. -/
inductive Route | to (u : Nat) | wait | port
deriving DecidableEq, Repr

/-- The submitter of a job by core c, with the item it runs. -/
def State.submitter (s : State) (c : Nat) : Submitter :=
  { core := c, inst := instOfCore s.hi.n c, slot := (s.core c).item.map (fun e => e.1), twin := ((s.core c).item.map (fun e => e.2)).getD false }

/-- Word 7 of a descriptor (R51): the completion record's address, and the flag set on completion. -/
def compOf (desc : List Byte) : Nat := fieldLE desc 56 4
def State.notify (s : State) (desc : List Byte) : State :=
  let w := fieldLE desc 56 8
  if w.testBit 63 then s.orFlags (w / 2 ^ 32 % 2 ^ 16) (BitVec.ofNat 64 (2 ^ (w / 2 ^ 48 % 64))) else s

end Sys2Proof.Machine
end

