-- ==== Sys2Proof/Machine/Codec.lean ====
section
/-! DEFINITION. The codec (spec/02): submission and queues (R51 to R54), output buffers (R61 to R63), ENCODE, SCAN, STREAM and VERIFY jobs (R41 to R60, R66,
R67), completion (R56, R64) and unit faults (R70). -/
namespace Sys2Proof.Machine

/-! ## Jobs -/

/-- Codec statuses (R67). -/
def cdExhausted : Nat := 1
def cdBadDesc : Nat := 2
def cdBadHeader : Nat := 3
def cdCheckFail : Nat := 4
def cdXref : Nat := 5
def cdWindow : Nat := 6
def cdMem : Nat := 7

def jKind (d : List Byte) : Nat := fieldLE d 0 1 % 16
def jForm (d : List Byte) : Nat := fieldLE d 0 1 / 16
def jUnit (d : List Byte) : Nat := fieldLE d 1 1
def jPmask (d : List Byte) : Nat := fieldLE d 2 1 % 64
def jCount (d : List Byte) : Nat := fieldLE d 4 4
def jCnt (d : List Byte) : Bool := (fieldLE d 2 1).testBit 6
def jType (d : List Byte) : Nat := fieldLE d 3 1
def jIn (d : List Byte) : Nat := fieldLE d 8 8
def jXref (d : List Byte) : Nat := fieldLE d 16 8
def jOut (d : List Byte) : Nat := fieldLE d 24 8
def jCap (d : List Byte) : Nat := fieldLE d 32 4
def jCulvert (d : List Byte) : Nat := fieldLE d 40 8
def jPreds (d : List Byte) : Nat := fieldLE d 48 8

/-- Reserved bits and values of a descriptor, and COUNT's range (R51, R67). -/
def descOk (d : List Byte) : Bool :=
  let k := jKind d
  let n := jCount d
  decide (1 ≤ k) && decide (k ≤ 4) && !(fieldLE d 2 1).testBit 7 && fieldLE d 36 4 == 0 && fieldLE d 56 8 / 2 ^ 54 % 2 ^ 9 == 0
    && !(jCnt d && !(k == 2 && jForm d == 4)) && (k == 2 || jForm d == 0)
    && (match k with
        | 1 => (colWidth (jType d)).isSome && decide (1 ≤ n) && decide (n ≤ 65536)
        | 2 => decide (jForm d ≤ 5) && decide (1 ≤ n) && decide (n ≤ 4096)
        | 3 => decide (1 ≤ n) && decide (n ≤ 2 ^ 30) && !(streamCands (jPmask d)).isEmpty
        | _ => decide (1 ≤ n) && decide (n ≤ 4096))

/-- Bytes of IN that are known when the job starts. -/
def inLen (d : List Byte) : Nat :=
  match jKind d with
  | 1 => jCount d * (colW (jType d) / 8)
  | 3 => jCount d
  | _ => 64

/-- The job writes output: not a VERIFY (R60), not a SCAN of form AGG (R58). -/
def jWrites (d : List Byte) : Bool := !(jKind d == 4 || (jKind d == 2 && jForm d == 4))

/-- The job has predicates: a SCAN that names a block, of any form but DECODE (R51, R58). -/
def jHasPreds (d : List Byte) : Bool := jKind d == 2 && jForm d != 5 && jPreds d != 0

/-- The address checks made before any output (R55): IN, OUT, CULVERT and PREDS, each where the job has an access through it (DEDUCED, entry 98).
The whole of OUT_CAP is checked, whether or not the job would fill it, and IN, OUT and XREF_IN of any alignment are used as they stand
(DESIGN CHOICE, log entry 110). -/
def State.jobWindow (s : State) (u : Client) (d : List Byte) : Bool :=
  let anyOk := fun (a len : Nat) => devOk u a len || s.poolOk u a len
  devOk u (jIn d) (inLen d) && (!jWrites d || (anyOk (jOut d) (jCap d) && (jCulvert d == 0 || anyOk (jCulvert d) 64)))
    && (!jHasPreds d || lsOk (jPreds d) 64 || s.poolOk u (jPreds d) 64)

/-! ## Output -/

/-- Where output goes: the current buffer (first output address, capacity, bytes in it, link header or none), the next link, what is to be written,
buffers used and output bytes. -/
structure OutBuf where
  addr : Nat
  cap : Nat
  fill : Nat
  link : Option Nat
  next : Nat
  writes : List (Nat × List Byte)
  bufs : Nat
  total : Nat

def OutBuf.start (d : List Byte) : OutBuf :=
  { addr := jOut d, cap := jCap d, fill := 0, link := none, next := jCulvert d, writes := [], bufs := 0, total := 0 }

/-- USED of a culvert buffer, written when it is closed and in the last one (R62). -/
def OutBuf.close (o : OutBuf) : OutBuf :=
  match o.link with
  | some l => { o with writes := o.writes ++ [(l + 12, leBytes 4 o.fill)] }
  | none => o

def OutBuf.put (o : OutBuf) (bs : List Byte) : OutBuf :=
  { o with writes := o.writes ++ [(o.addr + o.fill, bs)], fill := o.fill + bs.length, total := o.total + bs.length }

/-- The next culvert buffer of the chain opened, or the status that ends the job (R62, R63, R55). The descriptor's CULVERT address is checked for
alignment when it is reached, as a NEXT link is, and the whole of CAP lies in the window (DESIGN CHOICE, log entries 110, 111). -/
def OutBuf.advance (o : OutBuf) (u : Client) (s : State) : Except Nat OutBuf × State :=
  let a := o.next
  if a = 0 then (.error cdExhausted, s)
  else if a % 64 ≠ 0 then (.error cdBadDesc, s)
  else if !(devOk u a 64 || s.poolOk u a 64) then (.error cdWindow, s)
  else
    let (h, s1) := s.unitRead u a 64
    match h with
    | none => (.error cdMem, s1)
    | some bs =>
      let cap := fieldLE bs 8 4
      if devOk u a (64 + cap) || s1.poolOk u a (64 + cap) then
        (.ok { o.close with addr := a + 64, cap := cap, fill := 0, link := some a, next := fieldLE bs 0 8, bufs := o.bufs + 1 }, s1)
      else (.error cdWindow, s1)

/-- One whole unit placed (R61): a buffer that is empty and cannot hold it ends the job with BAD_DESC (R63). The unit at hand is what is measured,
not the largest unit of R63's table (DESIGN CHOICE, log entry 112). -/
def OutBuf.place (o : OutBuf) (u : Client) (s : State) (unit : List Byte) : Except Nat OutBuf × State :=
  if unit.isEmpty then (.ok o, s)
  else if o.fill + unit.length ≤ o.cap then (.ok (o.put unit), s)
  else if o.fill = 0 then (.error cdBadDesc, s)
  else
    let (r, s1) := o.advance u s
    match r with
    | .error e => (.error e, s1)
    | .ok o1 => if unit.length ≤ o1.cap then (.ok (o1.put unit), s1) else (.error cdBadDesc, s1)

/-! ## A job's progress -/

/-- Counters of the completion record (R64), the state with the reads made, and the address to resume from. -/
structure Prog where
  s : State
  out : OutBuf
  status : Nat
  resume : Nat
  addr : Nat
  rowsIn : Nat
  rowsSel : Nat
  units : Nat
  rej : Nat
  acc : Nat
  dec : Nat
  agg : List (Nat × Nat)
  sum : Int
  read : Nat

def Prog.start (s : State) (d : List Byte) : Prog :=
  { s := s, out := OutBuf.start d, status := 0, resume := jIn d, addr := jIn d, rowsIn := 0, rowsSel := 0, units := 0, rej := 0, acc := 0, dec := 0,
    agg := [], sum := 0, read := 0 }

def Prog.fail (p : Prog) (st : Nat) (s : State) : Prog := { p with status := st, s := s, resume := p.addr }

/-- A block's header read and checked (R67). -/
def readHdr (s : State) (u : Client) (a : Nat) (winBad : Nat) : Except Nat BlkHdr × State :=
  if !devOk u a 64 then (.error winBad, s) else
  let (h, s1) := s.unitRead u a 64
  match h with
  | none => (.error cdMem, s1)
  | some bs => let x := parseHdr bs; if x.ok then (.ok x, s1) else (.error cdBadHeader, s1)

/-- A payload read, checked and decoded, with its CHECK (R42, R46). A PAYLOAD_LEN that reaches past the window is WINDOW_FAULT, before the payload
checks of BAD_HEADER can be made (DESIGN CHOICE, log entry 113). -/
def readValues (s : State) (u : Client) (a : Nat) (h : BlkHdr) (refs : List Nat) : Except Nat (List Nat) × State :=
  if !devOk u a (64 + h.plen) then (.error cdWindow, s) else
  let (b, s1) := s.unitRead u (a + 64) h.plen
  match b with
  | none => (.error cdMem, s1)
  | some pay =>
    if !payloadOk h pay then (.error cdBadHeader, s1)
    else let vs := decodePayload h pay refs; if checkOk h vs then (.ok vs, s1) else (.error cdCheckFail, s1)

/-- The shape conditions of R41 between a block (type and COUNT) and its reference. -/
def shapeOk (ty count : Nat) (r : BlkHdr) : Bool := r.count == count && !colFloat r.ty && colW r.ty == colW ty && !r.xcol

/-- A reference block's values (R41); any failure is XREF_FAULT, but for memory. -/
def readRef (s : State) (u : Client) (a : Nat) (h : BlkHdr) : Except Nat (List Nat) × State :=
  let (r, s1) := readValues s u a h []
  match r with
  | .ok vs => (.ok vs, s1)
  | .error e => (.error (if e = cdMem then cdMem else cdXref), s1)

/-- One block decoded in full, with its reference under P3 and P5 (R41, R46): values and payload bytes read. -/
def decodeBlock (s : State) (u : Client) (a : Nat) (h : BlkHdr) : Except Nat (List Nat × Nat) × State :=
  if !h.xcol then
    let (r, s1) := readValues s u a h []
    match r with
    | .ok vs => (.ok (vs, h.plen), s1)
    | .error e => (.error e, s1)
  else
    let ra := devBase + h.xref
    let (x, s1) := readHdr s u ra cdXref
    match x with
    | .error e => (.error (if e = cdMem then cdMem else cdXref), s1)
    | .ok rh =>
      if !shapeOk h.ty h.count rh then (.error cdXref, s1) else
      let (rv, s2) := readRef s1 u ra rh
      match rv with
      | .error e => (.error e, s2)
      | .ok refs =>
        let (r, s3) := readValues s2 u a h refs
        match r with
        | .ok vs => (.ok (vs, h.plen + 64 + rh.plen), s3)
        | .error e => (.error e, s3)

/-! ## ENCODE -/

/-- The reference of one output block (R44 step 1, R67): read and checked whole, its own CHECK too, then left out where it only breaks the shape
conditions. -/
def encodeRef (s : State) (u : Client) (ty count a : Nat) : Except Nat (Option RefBlock × Nat) × State :=
  if a = 0 then (.ok (none, 0), s) else
  let (x, s1) := readHdr s u a cdXref
  match x with
  | .error e => (.error (if e = cdMem then cdMem else cdXref), s1)
  | .ok h =>
    let (r, s2) := decodeBlock s1 u a h
    match r with
    | .error e => (.error (if e = cdMem then cdMem else cdXref), s2)
    | .ok (vs, _) => (.ok (if shapeOk ty count h then some { da := a - devBase, vals := vs } else none, a + h.extent), s2)

/-- One block of an ENCODE job (R44, R51): `x` is the address of its reference block. -/
def encodeStep (u : Client) (d : List Byte) (acc : Prog × Nat) (n : Nat) : Prog × Nat :=
  let (p, x) := acc
  if p.status ≠ 0 then acc else
  let w := colW (jType d) / 8
  let (b, s1) := p.s.unitRead u p.addr (n * w)
  match b with
  | none => (p.fail cdMem s1, x)
  | some bs =>
    let (r, s2) := encodeRef s1 u (jType d) n x
    match r with
    | .error e => (p.fail e s2, x)
    | .ok (ref, x1) =>
      let last := p.rowsIn + n == jCount d
      let unit := encodeBlock (jType d) (jPmask d) ref last (valuesOfBytes (8 * w) n bs)
      let (o, s3) := p.out.place u s2 unit
      match o with
      | .error e => (p.fail e s3, x1)
      | .ok out => ({ p with s := s3, out := out, addr := p.addr + n * w, rowsIn := p.rowsIn + n, units := p.units + 1, read := p.read + n * w }, x1)

def runEncode (s : State) (u : Client) (d : List Byte) : Prog :=
  let n := jCount d
  ((List.range (ceilDiv n 4096)).foldl (fun a k => encodeStep u d a (min 4096 (n - 4096 * k))) (Prog.start s d, jXref d)).1

/-! ## SCAN and VERIFY -/

/-- Passing rows of a block joined to the aggregate (R59): (key order kept by value) NaN left out, the sum over integer and TS types. -/
def Prog.aggregate (p : Prog) (ty : Nat) (vs : List Nat) : Prog :=
  let good := (vs.filter (fun v => !colNaN ty v)).map (fun v => (ty, v))
  { p with agg := p.agg ++ good, sum := p.sum + (if colFloat ty then 0 else (vs.map (fun v => boundKey ty v)).foldl (· + ·) 0) }

/-- What the AGG record keeps: least and greatest so far. -/
def Prog.shrink (p : Prog) : Prog :=
  match p.agg with
  | [] => p
  | (ty, _) :: _ =>
    let vs := p.agg.map (fun e => e.2)
    { p with agg := (match minBy (boundKey ty) vs, maxBy (boundKey ty) vs with
        | some a, some b => [(ty, a), (ty, b)]
        | _, _ => []) }

/-- One block of a SCAN or VERIFY job (R57 to R60, R66). The bound decision counts when it is made and the payload when it has been read and
checked, even where its CHECK fails or its unit then finds no room (R64; log entry 114). -/
def scanStep (u : Client) (d : List Byte) (pb : PredBlock) (p : Prog) (_ : Nat) : Prog :=
  if p.status ≠ 0 then p else
  let (x, s1) := readHdr p.s u p.addr cdWindow
  match x with
  | .error e => p.fail e s1
  | .ok h =>
    let verify := jKind d == 4
    let form := jForm d
    let whole := verify || form == 5
    let dec := if whole then Decision.decode else blockDecide h.ty pb h
    let cnt := jCnt d && !colFloat h.ty
    let need := dec == .decode || (dec == .accept && (form == 2 || form == 3 || (form == 4 && !cnt)))
    let q := { p with rej := p.rej + (if dec == Decision.reject then 1 else 0), acc := p.acc + (if dec == Decision.accept then 1 else 0) }
    let (r, s2) := if need then decodeBlock s1 u p.addr h else (Except.ok (List.replicate h.count 0, 0), s1)
    match r with
    | .error e => Prog.fail { q with dec := p.dec + (if e = cdCheckFail then 1 else 0) } e s2
    | .ok (vs, bytes) =>
      let q1 := { q with dec := p.dec + (if need then 1 else 0), read := p.read + 64 + bytes }
      let rows := vs.map (fun v => ((match dec with
        | .reject => false
        | .accept => true
        | .decode => whole || rowPasses h.ty pb v), v))
      let hits := (rows.filter (fun e => e.1)).map (fun e => e.2)
      let unit := if verify || (dec == .reject && form != 0) then [] else scanUnit form h.ty p.rowsIn rows
      let (o, s3) := p.out.place u s2 unit
      match o with
      | .error e => q1.fail e s3
      | .ok out =>
        let p1 := { q1 with s := s3, out := out, addr := p.addr + h.extent, rowsIn := p.rowsIn + h.count,
                            rowsSel := p.rowsSel + (if verify then 0 else hits.length), units := p.units + 1 }
        if form == 4 && !verify && !jCnt d then (p1.aggregate h.ty hits).shrink else p1

def noPreds : PredBlock := { p0 := ⟨0, 0, 0⟩, p1 := ⟨0, 0, 0⟩, combineOr := false }

def runScan (s : State) (u : Client) (d : List Byte) : Prog :=
  let p := Prog.start s d
  let go := fun (pb : PredBlock) (p : Prog) => (List.range (jCount d)).foldl (scanStep u d pb) p
  if jHasPreds d = false then go noPreds p
  else match s.unitRead u (jPreds d) 64 with
    | (some bs, s1) => (match parsePreds bs with
      | some pb => go pb { p with s := s1 }
      | none => p.fail cdBadDesc s1)
    | (none, s1) => p.fail cdMem s1

/-! ## STREAM -/

/-- One frame of a STREAM job (R47 to R49). -/
def streamStep (u : Client) (d : List Byte) (p : Prog) (n : Nat) : Prog :=
  if p.status ≠ 0 then p else
  let (b, s1) := p.s.unitRead u p.addr n
  match b with
  | none => p.fail cdMem s1
  | some bs =>
    let (o, s2) := p.out.place u s1 (encodeFrame (jPmask d) (p.rowsIn + n == jCount d) bs)
    match o with
    | .error e => p.fail e s2
    | .ok out => { p with s := s2, out := out, addr := p.addr + n, rowsIn := p.rowsIn + n, units := p.units + 1, read := p.read + n }

def runStream (s : State) (u : Client) (d : List Byte) : Prog :=
  let n := jCount d
  (List.range (ceilDiv n 32768)).foldl (fun a k => streamStep u d a (min 32768 (n - 32768 * k))) (Prog.start s d)

/-! ## The record -/

/-- The completion record of R64. AGG_MIN and AGG_MAX are 0 where every passing row is NaN, as with no passing row (DEDUCED from R59's NaN excluded,
log entry 109). -/
def Prog.record (p : Prog) (d : List Byte) : List Byte :=
  let o := p.out
  let agg := jKind d == 2 && jForm d == 4 && p.status == 0
  let a := fun (k : Nat) => match p.agg[k]? with
    | some e => extend64 e.1 e.2
    | none => 0
  let w4 := if p.status ≠ 0 then p.resume else if agg then a 0 else 0
  leBytes 2 p.status ++ leBytes 2 o.bufs ++ leBytes 4 o.fill ++ leBytes 8 o.total ++ leBytes 4 p.rowsIn ++ leBytes 4 p.rowsSel ++ leBytes 2 p.units
    ++ leBytes 2 p.rej ++ leBytes 2 p.acc ++ leBytes 2 p.dec ++ leBytes 8 w4 ++ leBytes 8 (if agg then a 1 else 0)
    ++ leBytes 16 (if agg then wrapInt 128 p.sum else 0)

/-- What a job will write, and the state after its reads (R55, R66). -/
def runJob (s : State) (j : CodecJob) : JobOut × State :=
  let u := s.clientOf j.by_.core
  let d := j.desc
  let p0 := Prog.start s d
  let p := if !descOk d then p0.fail cdBadDesc s
    else if !s.jobWindow u d then p0.fail cdWindow s
    else match jKind d with
      | 1 => runEncode s u d
      | 3 => runStream s u d
      | _ => runScan s u d
  let out := p.out.close
  let s1 := match j.by_.inst with
    | some i => p.s.addAct i (fun a => { a with codec := a.codec + p.read })
    | none => p.s
  ({ status := p.status, record := p.record d, writes := out.writes }, s1)

/-! ## Submission and queues -/

/-- In-service units of a cluster. -/
def State.unitsOf (s : State) (cl : Nat) : List Nat := (List.range 4).filterMap (fun k => if (s.unit (4 * cl + k)).oos then none else some (4 * cl + k))

/-- The cluster, from `cl` upward modulo 12, that has an in-service unit (R53, R70). -/
def State.codecCluster (s : State) (cl : Nat) : Option Nat := ((List.range 12).map (fun k => (cl + k) % 12)).find? (fun x => !(s.unitsOf x).isEmpty)

/-- A unit's load (R53). -/
def CodecUnit.load (x : CodecUnit) : Nat := x.queue.length + (if x.run.isSome then 1 else 0)

/-- The unit of lowest load, the lowest number winning a tie. -/
def State.leastLoad (s : State) (us : List Nat) : Option Nat :=
  us.foldl (fun (a : Option Nat) (u : Nat) => match a with
    | none => some u
    | some v => if (s.unit u).load < (s.unit v).load then some u else some v) none

def State.unitRoom (s : State) (u : Nat) : Bool := decide ((s.unit u).queue.length < 64)

/-- Where a submitted job goes (R53): one that has stalled on full queues goes to the first of the units to gain room. -/
def State.route (s : State) (c : Nat) (d : List Byte) (stalled : Bool) : Route :=
  let k := jUnit d
  if k = 0xFF then
    match s.codecCluster (clusterOf c) with
    | none => .port
    | some cl =>
      let us := (s.unitsOf cl).filter s.unitRoom
      match (if stalled then s.codec.gained.find? us.contains else none).or (s.leastLoad us) with
      | some u => .to u
      | none => .wait
  else if k < 4 then
    let u := 4 * clusterOf c + k
    if (s.unit u).oos then .port else if s.unitRoom u then .to u else .wait
  else .port

/-- A completion: output, record, flag, in this order (R56), and the counters of R71. -/
def State.codecEnd (s : State) (j : CodecJob) (o : JobOut) : State :=
  let u := s.clientOf j.by_.core
  let s1 := o.writes.foldl (fun (t : State) (w : Nat × List Byte) => t.unitWrite u w.1 w.2) s
  let s2 := (s1.unitWrite u (compOf j.desc) o.record).notify j.desc
  let c := s2.codec
  { s2 with codec := { c with
      checkFail := if o.status = cdCheckFail ∨ o.status = cdXref then satInc c.checkFail else c.checkFail,
      hdrFail := if o.status = cdBadHeader then satInc c.hdrFail else c.hdrFail,
      culvert := if fieldLE o.record 2 2 = 0 then c.culvert else satInc c.culvert } }

/-- The submission port's own completion of a job that no unit runs (R53). -/
def State.portEnd (s : State) (j : CodecJob) : State :=
  s.codecEnd j { status := cdBadDesc, record := ((Prog.start s j.desc).fail cdBadDesc s).record j.desc, writes := [] }

/-- A job at the tail of a unit's queue. A reissued job stands after those that already wait there (DESIGN CHOICE, log entry 115). -/
def State.enqueue (s : State) (u : Nat) (j : CodecJob) : State :=
  let x := s.unit u
  (s.setUnit u { x with queue := x.queue ++ [j] }).noteRoom s

/-- Jobs of the reissue list enter queues with room, in order, each to a unit chosen by R53; one whose cluster has no room waits in the list (R70). -/
def drainReissue : List CodecJob → State → State
  | [], s => s
  | j :: js, s =>
    match s.codecCluster (clusterOf j.by_.core) with
    | none => drainReissue js ({ s with codec := { s.codec with reissue := s.codec.reissue.filter (fun y => y.order != j.order) } }.portEnd j)
    | some cl => match s.leastLoad ((s.unitsOf cl).filter s.unitRoom) with
      | none => drainReissue js s
      | some u => drainReissue js (({ s with codec := { s.codec with reissue := s.codec.reissue.filter (fun y => y.order != j.order) } }).enqueue u j)

/-- A write of CD_SUBMIT by a core (R52, R53): none where its checks fail, and whether the write stalls. -/
def cdSubmit (s0 : State) (c : Nat) (v : W64) : Option (State × Bool) :=
  let s := drainReissue s0.codec.reissue s0
  let u := s.clientOf c
  let a := bits v 0 32
  if 96 ≤ c ∨ !s.submitOk u a then none else
  let d := (s.unitRead u a 64).1.getD []
  if !s.submitOk u (compOf d) then none else
  let j : CodecJob := { desc := d, by_ := s.submitter c, order := s.codec.nextOrder }
  let s1 := { s with codec := { s.codec with nextOrder := s.codec.nextOrder + 1 } }
  let stalled := match (s.core c).act with
    | .stalled _ (.codec _) => true
    | _ => false
  match s.route c d stalled with
  | .to x => some (s1.enqueue x j, false)
  | .wait => some (s, true)
  | .port => some (s1.portEnd j, false)

/-! ## Units -/

/-- The next job of a unit (R54): instances with jobs in turn, each instance's in submission order. -/
def CodecUnit.next (x : CodecUnit) (n : Nat) : Option CodecJob :=
  let start := match x.lastInst with
    | some l => l + 1
    | none => 0
  let order := (List.range n).map (fun k => (start + k) % n)
  match order.findSome? (fun i => x.queue.find? (fun j => j.by_.inst == some i)) with
  | some j => some j
  | none => x.queue.head?

/-- A unit starts its next job when that is of the kind named (a reserved KIND is started by any). In a re-sweep its memory accesses wait (R325). -/
def startJob (s : State) (u kind : Nat) : State :=
  let x := s.unit u
  if x.oos || x.run.isSome || s.mc.sweep then s else
  match x.next s.hi.n with
  | none => s
  | some j =>
    let k := jKind j.desc
    if k ≠ kind ∧ 1 ≤ k ∧ k ≤ 4 then s else
    let (o, s1) := runJob s j
    (s1.setUnit u { s1.unit u with queue := x.queue.filter (fun y => y.order != j.order), run := some (j, o), runTick := s.now, done := false,
                                   lastInst := j.by_.inst.or x.lastInst }).noteRoom s1

/-- ENCODE (R44, R51). -/
def execEncodeJob (u : Nat) (s : State) : Res := if 48 ≤ u then .fault .noSuchUnit else .next (startJob s u 1)
/-- SCAN (R57 to R59). -/
def execScanJob (u : Nat) (s : State) : Res := if 48 ≤ u then .fault .noSuchUnit else .next (startJob s u 2)
/-- STREAM (R47 to R50). -/
def execStreamJob (u : Nat) (s : State) : Res := if 48 ≤ u then .fault .noSuchUnit else .next (startJob s u 3)
/-- VERIFY (R60). -/
def execVerifyJob (u : Nat) (s : State) : Res := if 48 ≤ u then .fault .noSuchUnit else .next (startJob s u 4)

/-- CODEC_JOB_COMPLETE (R56, R64, R72); its writes wait in a re-sweep (R325). -/
def execCodecJobComplete (u : Nat) (s : State) : Res :=
  if 48 ≤ u then .fault .noSuchUnit else
  if s.mc.sweep then .next s else
  match (s.unit u).run with
  | none => .next s
  | some (j, o) =>
    let s1 := s.codecEnd j o
    .next (s1.setUnit u { s1.unit u with run := none, done := true, lastSt := o.status, lastRec := o.record })

/-- A unit's fault (R70): out of service, its running job and then its queue to the reissue list, CODEC_OOS and CDFAULT. -/
def codecFault (s : State) (u : Nat) : State :=
  let x := s.unit u
  if x.oos then s else
  let jobs := (x.run.map (fun r => r.1)).toList ++ x.queue
  let s1 := s.setUnit u { x with oos := true, queue := [], run := none }
  let s2 := { s1 with codec := { s1.codec with reissue := s1.codec.reissue ++ jobs, reissueCnt := satAdd s1.codec.reissueCnt jobs.length } }
  (s2.svEdge 4).logEvent 0x02 0xFF 1 u

/-- CODEC_UNIT_FAULT (R70). -/
def execCodecUnitFault (u : Nat) (s : State) : Res := if 48 ≤ u then .fault .noSuchUnit else .next (codecFault s u)

/-- CODEC_REISSUE_ENQUEUE (R70): reissued jobs enter queues as they have room. -/
def execCodecReissueEnqueue (s : State) : Res := .next (drainReissue s.codec.reissue s)

end Sys2Proof.Machine
end

