-- ==== Sys2Proof/Machine/Image.lean ====
section
/-! DEFINITION. The structural check of a pipeline image (spec/03 R73 to R77, R79), and the end of an IMAGE_LOAD (R78). -/
namespace Sys2Proof.Machine

/-- Offsets of a part of the image: where it begins and its bytes. -/
def imgParts (b : List Byte) : List (Nat × Nat) :=
  [(fieldLE b 28 4, 32 * imgStages b), (fieldLE b 32 4, 8 * imgFlumes b), (fieldLE b 36 4, 16 * imgExchs b), (fieldLE b 40 4, 16 * imgScans b),
   (fieldLE b 44 4, fieldLE b 48 4)]

/-- Pairwise disjoint byte ranges; an empty one overlaps nothing. -/
def disjointParts : List (Nat × Nat) → Bool
  | [] => true
  | x :: xs => xs.all (fun y => x.2 == 0 || y.2 == 0 || decide (x.1 + x.2 ≤ y.1) || decide (y.1 + y.2 ≤ x.1)) && disjointParts xs

/-- Header fields and the places of tables and code (R73, R79). -/
def imgHeaderOk (b : List Byte) : Bool :=
  let len := fieldLE b 4 4
  fieldLE b 0 2 == 0x5950 && fieldLE b 2 1 == 1 && fieldLE b 3 1 / 2 == 0 && len == b.length && len % 64 == 0 && decide (256 ≤ len)
    && decide (len ≤ 16 * 2 ^ 20) && fieldLE b 16 2 == 1 && decide (1 ≤ imgStages b) && decide (imgStages b ≤ 64) && decide (1 ≤ imgFlumes b)
    && decide (imgFlumes b ≤ 64) && decide (imgExchs b ≤ 16) && decide (imgScans b ≤ 16) && decide (imgResult b < imgFlumes b)
    && fieldLE b 23 1 == 0 && decide (imgParamLen b ≤ 4096) && allZero (slice b 64 64) && fieldLE b 48 4 % 4 == 0
    && (imgParts b).all (fun x => x.1 % 64 == 0 && (x.2 == 0 || (decide (128 ≤ x.1) && decide (x.1 + x.2 ≤ len - 32))))
    && disjointParts (imgParts b)

/-- An output or input index that is absent or exists. -/
def idxOk (k n : Nat) : Bool := k == 0xFF || decide (k < n)

/-- One stage entry (R74, R79). -/
def stageOk (b : List Byte) (s : Nat) : Bool :=
  let e := stageEnt b s
  let kind := stKind e
  let fin := stIn e
  fieldLE e 0 1 == s && decide (kind ≤ 3) && decide (fieldLE e 2 1 ≤ 1) && decide (stPrio e ≤ 7) && (!stRmode e || stPrio e == 0) && fieldLE e 4 1 / 4 == 0
    && fieldLE e 10 2 == 0 && fieldLE e 12 4 % 4 == 0 && decide (fieldLE e 12 4 < fieldLE b 48 4) && decide (fieldLE e 16 4 ≤ 192 * 1024)
    && stLease e % 4096 == 0 && decide (stLease e ≤ 4 * 2 ^ 20) && idxOk (stOutExch e) (imgExchs b) && idxOk (stOut0 e) (imgFlumes b)
    && idxOk (stOut1 e) (imgFlumes b)
    && (match kind with
        | 0 => decide (fin < imgScans b) && fieldLE (scanEnt b fin) 1 1 == s
        | 1 => decide (fin < imgFlumes b) && fieldLE (flumeEnt b fin) 1 1 == s && stOut0 e != fin && stOut1 e != fin
        | 2 => decide (fin < imgExchs b)
        | _ => fin == 0xFF)
    && (if kind = 2 then stIn2 e == 0xFF || (decide (stIn2 e < imgExchs b) && exBufs (exchEnt b fin) == exBufs (exchEnt b (stIn2 e))) else stIn2 e == 0xFF)
    && (if kind = 3 then decide (stWaits e < 2 ^ imgStages b) else stWaits e == 0)
    && !(stMirror e && (stOutExch e != 0xFF || kind == 2))
    && (stResult e || (stOut0 e != imgResult b && stOut1 e != imgResult b))

/-- One flume entry (R75, R79): every flume but RESULT_FLUME feeds a FLUME stage that takes it. -/
def flumeOk (b : List Byte) (f : Nat) : Bool :=
  let e := flumeEnt b f
  let c := fieldLE e 1 1
  fieldLE e 0 1 == f && decide (4 ≤ fieldLE e 2 1) && decide (fieldLE e 2 1 ≤ 12) && allZero (slice e 3 5)
    && (if f = imgResult b then c == 0xFF
        else decide (c < imgStages b) && stKind (stageEnt b c) == 1 && stIn (stageEnt b c) == f)

/-- One exchange entry (R76). -/
def exchOk (b : List Byte) (x : Nat) : Bool :=
  let e := exchEnt b x
  fieldLE e 0 1 == x && (exTuple e == 8 || exTuple e == 16 || exTuple e == 32) && decide (1 ≤ exBufs e) && decide (exBufs e ≤ 256)
    && exBytes e % 256 == 0 && decide (512 ≤ exBytes e) && allZero (slice e 8 8)

/-- One scan entry (R77): its STAGE is the ROOT stage it feeds. -/
def scanOk (b : List Byte) (k : Nat) : Bool :=
  let e := scanEnt b k
  let s := fieldLE e 1 1
  fieldLE e 0 1 == k && decide (s < imgStages b) && stKind (stageEnt b s) == 0 && stIn (stageEnt b s) == k && decide (1 ≤ fieldLE e 2 1)
    && decide (fieldLE e 2 1 ≤ 16) && fieldLE e 3 1 == 0

/-- Consumers of a stage's output flumes. -/
def nextStages (b : List Byte) (s : Nat) : List Nat :=
  let e := stageEnt b s
  ([stOut0 e, stOut1 e].filter (fun f => f != 0xFF && f != imgResult b)).map (fun f => fieldLE (flumeEnt b f) 1 1)

/-- Stages reached from some stages along flumes in at most n steps. -/
def reach (b : List Byte) : Nat → List Nat → List Nat
  | 0, seen => seen
  | n + 1, seen => reach b n ((seen ++ (seen.map (nextStages b)).flatten).eraseDups)

/-- No RESULT stage reaches another along flumes (R79). -/
def resultsOk (b : List Byte) : Bool :=
  ((List.range (imgStages b)).filter (fun s => stResult (stageEnt b s))).all (fun s =>
    ((reach b 64 (nextStages b s).eraseDups).filter (fun t => t != s)).all (fun t => !stResult (stageEnt b t)))

/-- Pool bytes that the exchanges need. -/
def exchPool (b : List Byte) : Nat := ((List.range (imgExchs b)).map (fun x => exBufs (exchEnt b x) * exBytes (exchEnt b x))).sum

/-- The structural check (R79). -/
def imageOk (b : List Byte) : Bool :=
  imgHeaderOk b && (List.range (imgStages b)).all (stageOk b) && (List.range (imgFlumes b)).all (flumeOk b) && (List.range (imgExchs b)).all (exchOk b)
    && (List.range (imgScans b)).all (scanOk b) && resultsOk b && decide (exchPool b ≤ imgPoolNeed b) && decide (imgPoolNeed b ≤ 4 * 2 ^ 20)

/-- An IMAGE_LOAD after its tag has been checked (R78 steps 2 to 4): `st` is the status of a check that failed, 0 for a match. -/
def State.imageDone (s : State) (i no : Nat) (st : W16) : State :=
  match (s.inst i).cmd? no with
  | none => s
  | some c => match c.work with
    | .image id => match (s.inst i).images.find? (fun m => m.loading && m.id == id) with
      | none => s
      | some m =>
        if st ≠ 0 then s.finish i no st 0
        else if !imageOk m.bytes then s.finish i no 0x010A 0
        else
          let s1 := s.modInst i (fun x => { x with images := x.images.map (fun y => if y.id = id then { y with loading := false } else y) })
          s1.finish i no 0 id
    | _ => s

end Sys2Proof.Machine
end

