-- ==== Sys2Proof/Machine/Digest.lean ====
section
/-! DEFINITION. The digest engines (spec/13 R357 to R370, R381, R383). -/
namespace Sys2Proof.Machine

/-! ## Descriptors -/

def gAlg (d : List Byte) : Nat := fieldLE d 0 1 % 16
def gDest (d : List Byte) : Nat := fieldLE d 0 1 / 16 % 4
def gMsrc (d : List Byte) : Bool := (fieldLE d 0 1).testBit 6
def gKsrc (d : List Byte) : Bool := (fieldLE d 0 1).testBit 7
def gUrgent (d : List Byte) : Bool := (fieldLE d 1 1).testBit 0
def gShmem (d : List Byte) : Bool := (fieldLE d 1 1).testBit 1
def gResume (d : List Byte) : Bool := (fieldLE d 1 1).testBit 2
def gFinal (d : List Byte) : Bool := (fieldLE d 1 1).testBit 3
def gEngine (d : List Byte) : Nat := fieldLE d 1 2 / 16 % 256
def gOwner (d : List Byte) : Nat := fieldLE d 2 2 / 16 % 32
def gIn (d : List Byte) : Nat := fieldLE d 8 8
def gLen (d : List Byte) : Nat := fieldLE d 16 5
def gKey (d : List Byte) : Nat := fieldLE d 24 8
def gKlen (d : List Byte) : Nat := fieldLE d 32 1
def gCmp (d : List Byte) : Nat := fieldLE d 33 1
def gOut (d : List Byte) : Nat := fieldLE d 40 8
def gShadow (d : List Byte) : Nat := fieldLE d 48 8

def algHash (a : Nat) : Hash :=
  match a with
  | 1 => .sha256
  | 2 => .sha384
  | 3 => .sha512
  | 4 => .sha3
  | 5 => .sha256
  | 6 => .sha384
  | _ => .sha512

def algHmac (a : Nat) : Bool := decide (5 ≤ a)

/-- Slot of an owner's keys: 0 memory, 1 store, 2 image, 3 enrolment. -/
def ownerSlot (k r : Nat) : Bool := decide (8 ≤ k) && decide (k < 104) && (k - 8) % 4 == r

/-- Slots that a derivation from RK writes (R376). -/
def rootSlot (k : Nat) : Bool := k == 2 || k == 3 || k == 4 || ownerSlot k 0 || ownerSlot k 1

/-- Is slot `m` a message that R375 lists for a job (R376): RK and OEKs for derivations into the slots that they name; a general slot is the supervisor's own? -/
def msgSlotOk (d : List Byte) (m : Nat) : Bool :=
  let out := gOut d % 1024
  (m == 0 && gAlg d == 7 && gDest d == 1 && rootSlot out) || (ownerSlot m 3 && gAlg d == 7 && gDest d == 1 && out + 1 == m) || decide (704 ≤ m)

/-- Is slot `k` a key that R375 lists for a job: FWK for firmware tags, store keys for digests, ENK for ENONCEs and owner nonces, IK[g] for image tags and
port keys, a general slot for any? -/
def keySlotOk (d : List Byte) (k : Nat) : Bool :=
  (k == 1 && gAlg d == 6 && gDest d != 1) || (k == 3 && gAlg d == 5 && gDest d != 1) || (k == 4 && (gAlg d == 5 || gAlg d == 7) && gDest d == 0)
    || (ownerSlot k 1 && gAlg d == 5 && gDest d != 1)
    || (ownerSlot k 2 && gAlg d == 5 && (gDest d == 2 || (gDest d == 1 && decide (704 ≤ gOut d % 1024)))) || decide (704 ≤ k)

/-- May a job write slot `k` (R375, R376): derivations from RK and OEK, session keys from a port key in a general slot, general slots? -/
def destSlotOk (d : List Byte) (k : Nat) : Bool :=
  let m := gIn d % 1024
  (rootSlot k && gAlg d == 7 && gMsrc d && m == 0) || (ownerSlot k 2 && gAlg d == 7 && gMsrc d && m == k + 1)
    || (decide (128 ≤ k) && decide (k < 704) && gAlg d == 5 && gKsrc d && decide (704 ≤ gKey d % 1024)) || decide (704 ≤ k)

/-- Reserved fields and values, ranges, and the rules of R360 that are BAD_DESC. -/
def digestDescOk (d : List Byte) (sup : Bool) : Bool :=
  let a := gAlg d
  let e := gEngine d
  decide (1 ≤ a) && decide (a ≤ 7) && decide (gDest d ≤ 2) && (decide (e < 8) || e == 0xFF) && fieldLE d 0 8 / 2 ^ 25 == 0 && fieldLE d 21 3 == 0
    && fieldLE d 34 6 == 0 && fieldLE d 56 8 / 2 ^ 54 % 2 ^ 9 == 0 && (gFinal d || gLen d % (algHash a).block == 0)
    && (if gDest d = 2 then decide (4 ≤ gCmp d) && decide (gCmp d ≤ (algHash a).resultLen) else gCmp d == 0)
    && (if algHmac a && !gKsrc d then decide (1 ≤ gKlen d) && decide (gKlen d ≤ 128) else gKlen d == 0)
    && !(gKsrc d && (!algHmac a || !gFinal d || gShmem d || gResume d)) && !(gMsrc d && decide (64 < gLen d))
    && gShadow d % 64 == 0 && !((gResume d || !gFinal d) && gShadow d == 0)
    && (if sup then (decide (gOwner d < 24) || gOwner d == 31) && !(fieldLE d 56 8).testBit 63 else gOwner d == 0 && !gUrgent d)

/-- Does a query-core job name a slot (R360)? -/
def slotNamed (d : List Byte) : Bool := gMsrc d || gKsrc d || gDest d == 1

/-- Does a supervisor job name a slot for a use that the map does not list (R360, R375)? With FINAL 0 it does not use DEST (R361). -/
def slotDenied (d : List Byte) : Bool :=
  (gMsrc d && !msgSlotOk d (gIn d % 1024)) || (gKsrc d && !keySlotOk d (gKey d % 1024)) || (gDest d == 1 && gFinal d && !destSlotOk d (gOut d % 1024))

/-- Whose addresses a digest job uses (R358). -/
def State.digestClient (s : State) (j : DigestJob) : Client :=
  if j.by_.core < 96 then s.clientOf j.by_.core
  else let w := s.window (gOwner j.desc); { core := 96, tag := gOwner j.desc, lo := w.1, hi := w.2 }

def State.digestWindow (s : State) (u : Client) (d : List Byte) : Bool :=
  let ok := fun (a len : Nat) => len == 0 || devOk u a len || s.poolOk u a len || lsOk a len
  (gMsrc d || ok (gIn d) (gLen d)) && (!algHmac (gAlg d) || gKsrc d || ok (gKey d) (gKlen d))
    && (!gFinal d || (match gDest d with
      | 0 => ok (gOut d) (algHash (gAlg d)).resultLen
      | 2 => ok (gOut d) (gCmp d)
      | _ => true))
    && (gShadow d == 0 || ok (gShadow d) 256)

/-! ## Shadow areas -/

/-- Bytes of a word of a hash's chaining state. -/
def stateWord (h : Hash) : Nat := match h with
  | .sha256 => 4
  | _ => 8

/-- A shadow area's 256 B (R366). -/
def shadowBytes (alg : Nat) (st : HashSt) : List Byte :=
  let h := algHash alg
  let body := leBytes 2 0x5348 ++ leBytes 1 alg ++ leBytes 1 (algHmac alg).toNat ++ leBytes 4 0
    ++ leBytes 8 (st.absorbed - (if algHmac alg then h.block else 0))
    ++ slice ((st.words.map (fun w => leBytes (stateWord h) w.toNat)).flatten) 0 200 ++ List.replicate 36 0
  body ++ bytesOf (crc32c body)

def wordsFrom (n : Nat) : Nat → List Byte → List (BitVec 64)
  | 0, _ => []
  | k + 1, bs => BitVec.ofNat 64 (leNat (bs.take n)) :: wordsFrom n k (bs.drop n)

/-- State held by a shadow area; none where its CHECK fails or it names another ALG. -/
def shadowState (alg : Nat) (bs : List Byte) : Option HashSt :=
  let h := algHash alg
  if fieldLE bs 252 4 ≠ (crc32c (bs.take 252)).toNat ∨ fieldLE bs 0 2 ≠ 0x5348 ∨ fieldLE bs 2 1 ≠ alg then none
  else some { words := wordsFrom (stateWord h) h.init.words.length (slice bs 16 200),
              absorbed := fieldLE bs 8 8 + (if algHmac alg then h.block else 0) }

/-! ## Running a job -/

/-- A slot latched (R381): its 64 bytes. -/
def State.latch (s : State) (k : Nat) : Option (List Byte) := (s.slotKey k).map bytesOf

/-- A job's start (R360, R364, R381): its checks, the key and slot message latched, its first state. -/
def startDigest (s : State) (j : DigestJob) : DigestJob × State :=
  let d := j.desc
  let sup := decide (96 ≤ j.by_.core)
  let u := s.digestClient j
  let bad := fun (n : Nat) (t : State) => ({ j with started := true, total := gLen d, fail := some n }, t)
  if !sup && slotNamed d then bad 5 s
  else if !digestDescOk d sup then bad 1 s
  else if slotDenied d then bad 5 s
  else if !s.digestWindow u d then bad 2 s
  else if (gMsrc d && (s.latch (gIn d % 1024)).isNone) || (gKsrc d && (s.latch (gKey d % 1024)).isNone) then bad 4 s
  else
    let h := algHash (gAlg d)
    let (key, s1) := if !algHmac (gAlg d) then (some [], s) else if gKsrc d then (s.latch (gKey d % 1024), s) else s.unitRead u (gKey d) (gKlen d)
    match key with
    | none => bad 3 s1
    | some k =>
      let msg := if gMsrc d then ((s1.latch (gIn d % 1024)).getD []).take (gLen d) else []
      let init := if algHmac (gAlg d) then h.absorb h.init (hmacPad h k 0x36) else h.init
      let go := fun (st : HashSt) (t : State) => ({ j with started := true, key := k, msg := msg, absorbed := 0, total := gLen d, st := some st, onDie := true }, t)
      if !gResume d then go init s1
      else
        let (b, s2) := s1.unitRead u (gShadow d) 256
        match b with
        | none => bad 3 s2
        | some bs => match shadowState (gAlg d) bs with
          | some st => go st s2
          | none => bad 6 s2

/-- A preempted job restored (R365, R366): from its on-die slot, or from its shadow area. One that has failed keeps its status. -/
def restoreDigest (s : State) (j : DigestJob) : DigestJob × State :=
  if j.onDie then (j, s)
  else if j.fail.isSome then ({ j with onDie := true }, s)
  else
    let (b, s1) := s.unitRead (s.digestClient j) (gShadow j.desc) 256
    match b with
    | none => ({ j with fail := some 3, onDie := true }, s1)
    | some bs => match shadowState (gAlg j.desc) bs with
      | some st => ({ j with st := some st, onDie := true }, s1)
      | none => ({ j with fail := some 6, onDie := true }, s1)

/-- Message bytes [off, off + n) of a job. -/
def State.message (s : State) (j : DigestJob) (off n : Nat) : Option (List Byte) × State :=
  if n = 0 then (some [], s) else if gMsrc j.desc then (some (slice j.msg off n), s) else s.unitRead (s.digestClient j) (gIn j.desc + off) n

/-- Whole blocks absorbed. -/
def absorbDigest (s : State) (j : DigestJob) (blocks : Nat) : DigestJob × State :=
  match j.fail, j.st with
  | none, some st =>
    let h := algHash (gAlg j.desc)
    let n := min (blocks * h.block) ((j.total - j.absorbed) / h.block * h.block)
    let (b, s1) := s.message j j.absorbed n
    match b with
    | none => ({ j with fail := some 3 }, s1)
    | some bs => ({ j with st := some (h.absorb st bs), absorbed := j.absorbed + n }, s1)
  | _, _ => (j, s)

/-! ## Placement -/

def State.digestLive (s : State) : List Nat := (List.range 8).filter (fun e => !(s.engine e).oos)

def Engine.load (x : Engine) : Nat := x.queue.length + (if x.run.isSome then 1 else 0)
def Engine.urgents (x : Engine) : Nat := (x.queue.filter (fun j => gUrgent j.desc)).length

/-- The engine of least measure, the lowest number winning a tie. -/
def leastOf (f : Nat → Nat) (es : List Nat) : Option Nat :=
  es.foldl (fun (a : Option Nat) (e : Nat) => match a with
    | none => some e
    | some b => if f e < f b then some e else some b) none

/-- Where a job goes among engines with room (R365). -/
def State.digestPlace (s : State) (d : List Byte) (es : List Nat) : Option Nat :=
  if gUrgent d then
    (es.find? (fun e => (s.engine e).run.isNone && (s.engine e).queue.isEmpty)).or (leastOf (fun e => (s.engine e).urgents) es)
  else leastOf (fun e => (s.engine e).load) es

def State.digestRoute (s : State) (d : List Byte) : Route :=
  let room := fun (e : Nat) => decide ((s.engine e).queue.length < 32)
  let e := gEngine d
  if e = 0xFF then
    if s.digestLive.isEmpty then .port else match s.digestPlace d (s.digestLive.filter room) with
      | some k => .to k
      | none => .wait
  else if e < 8 && !(s.engine e).oos then (if room e then .to e else .wait)
  else .port

def newDigest (s : State) (d : List Byte) (b : Submitter) (why : DigestFor) : DigestJob × State :=
  ({ desc := d, by_ := b, why := why, order := s.dg.nextOrder, started := false, key := [], msg := [], absorbed := 0, total := gLen d, st := none,
     preempts := 0, fail := none, onDie := true }, { s with dg := { s.dg with nextOrder := s.dg.nextOrder + 1 } })

def State.digestQueue (s : State) (e : Nat) (j : DigestJob) : State := let x := s.engine e; s.setEngine e { x with queue := x.queue ++ [j] }

/-- A job's record (R363). -/
def digestRecord (st mflag rlen engine bytes preempts : Nat) : List Byte :=
  leBytes 2 st ++ leBytes 2 mflag ++ leBytes 1 rlen ++ leBytes 1 engine ++ leBytes 2 0 ++ leBytes 8 bytes ++ leBytes 4 preempts ++ List.replicate 44 0

/-- The command status that an image check gives (R364, R383): 0 for a match. -/
def imageStatus (st mflag : Nat) : W16 :=
  if st = 0 then (if mflag = 0xA55A then 0 else 0x0501) else if st = 4 then 0x0501 else if st = 3 then 0x0400 else 0x0700

/-- The end of a job (R363): its record and flag, or the image check it served (R78, R383). -/
def State.digestEnd (s : State) (j : DigestJob) (rec : List Byte) : State :=
  match j.why with
  | .core => (s.unitWrite (s.digestClient j) (compOf j.desc) rec).notify j.desc
  | .image i no => s.imageDone i no (imageStatus (fieldLE rec 0 2) (fieldLE rec 2 2))

/-- In-service engines whose queue has room (R358). -/
def State.digestRoom (s : State) : List Nat := s.digestLive.filter (fun e => decide ((s.engine e).queue.length < 32))

/-- Jobs held back enter a queue in their order, by R365, while an engine has room; with no engine left they end with BAD_DESC. -/
def State.drainDigest (s : State) : State :=
  (s.dg.held).foldl (fun (t : State) (j : DigestJob) =>
    if t.digestLive.isEmpty then t.digestEnd j (digestRecord 1 0 0 0 0 0) else
    match t.digestPlace j.desc t.digestRoom with
    | some k => t.digestQueue k j
    | none => { t with dg := { t.dg with held := t.dg.held ++ [j] } }) { s with dg := { s.dg with held := [] } }

/-- A job placed, after those held back, or ended by the submission port with BAD_DESC where no engine can run it. -/
def State.digestSubmit (s : State) (d : List Byte) (b : Submitter) (why : DigestFor) : State × Bool :=
  let (j, s1) := newDigest s.drainDigest d b why
  match s1.digestRoute d with
  | .to e => (s1.digestQueue e j, false)
  | .wait => (s, true)
  | .port => (s1.digestEnd j (digestRecord 1 0 0 0 0 0), false)

/-- A write of DG_SUBMIT (R358): none where the checks of R52 fail, and whether the write stalls. -/
def dgSubmit (s : State) (c : Nat) (v : W64) : Option (State × Bool) :=
  let u := s.clientOf c
  let a := bits v 0 32
  if !s.submitOk u a then none else
  let d := (s.unitRead u a 64).1.getD []
  if !s.submitOk u (compOf d) then none else some (s.digestSubmit d (s.submitter c) .core)

/-- The supervisor's own job for an image of a command (R383): held back while no queue has room (R358; log entry 93). -/
def State.imageCheck (s : State) (i no da len : Nat) : State :=
  let d := leBytes 1 (5 + 2 * 16 + 128) ++ leBytes 2 (8 + 0xFF * 16 + (i % 16) * 2 ^ 12) ++ leBytes 5 (i / 16) ++ leBytes 8 (devBase + da) ++ leBytes 8 (len - 32)
    ++ leBytes 8 (imageKeySlot i) ++ leBytes 1 0 ++ leBytes 7 32 ++ leBytes 8 (devBase + da + len - 32) ++ leBytes 16 0
  let by_ : Submitter := { core := 96, inst := none, slot := none, twin := false }
  let (s1, full) := s.digestSubmit d by_ (.image i no)
  if !full then s1 else
  let (j, s2) := newDigest s d by_ (.image i no)
  { s2 with dg := { s2.dg with held := s2.dg.held ++ [j] } }

/-! ## Engines -/

/-- Turn of a job among the instances and the supervisor (last). -/
def DigestJob.owner (j : DigestJob) (n : Nat) : Nat := j.by_.inst.getD n

/-- What an engine runs next (R365): queued urgent jobs in order, then preempted ones, then the others by turns. -/
inductive NextJob | fresh (j : DigestJob) | restored (j : DigestJob) | nothing

def Engine.next (x : Engine) (n : Nat) : NextJob :=
  match x.queue.find? (fun j => gUrgent j.desc) with
  | some j => .fresh j
  | none => match x.stack with
    | j :: _ => .restored j
    | [] =>
      let start := match x.lastOwner with
        | some l => l + 1
        | none => 0
      match (((List.range (n + 1)).map (fun k => (start + k) % (n + 1))).findSome? (fun i => x.queue.find? (fun j => j.owner n == i))).or x.queue.head? with
      | some j => .fresh j
      | none => .nothing

/-- DIGEST_JOB (R357 to R360, R365): the engine starts or resumes a job, or continues the one that runs, and absorbs so many blocks. -/
def runDigest (s : State) (e blocks : Nat) : State :=
  let x := s.engine e
  if x.oos then s else
  let put := fun (t : State) (y : Engine) (j : DigestJob) =>
    let (j1, t1) := absorbDigest t j blocks
    (t1.setEngine e { y with run := some j1, runTick := s.now }).drainDigest
  match x.run with
  | some j => put s x j
  | none => match x.next s.hi.n with
    | .nothing => s
    | .fresh j =>
      let (j1, s1) := startDigest s j
      put s1 { x with queue := x.queue.filter (fun y => y.order != j.order), done := false, noRead := false, keyDest := false,
                      lastOwner := if gUrgent j.desc then x.lastOwner else some (j.owner s.hi.n) } j1
    | .restored j =>
      let (j1, s1) := restoreDigest s j
      put s1 { x with stack := x.stack.drop 1 } j1

/-- DIGEST_JOB; a re-sweep holds its reads (R325). -/
def execDigestJob (e blocks : Nat) (s : State) : Res :=
  if 8 ≤ e then .fault .noSuchUnit else if s.mc.sweep then .next s else .next (runDigest s e blocks)

/-- On-die shadow slots in use. -/
def State.shadowUsed (s : State) : Nat := (s.dg.engines.map (fun e => (e.2.stack.filter (fun j => j.onDie)).length)).sum

/-- DIGEST_PREEMPT (R365, R366): the running job saved on die, or in its shadow area with SHMEM, when an urgent job waits. -/
def preemptDigest (s : State) (e : Nat) : State :=
  let x := s.engine e
  match x.run with
  | none => s
  | some j =>
    if gUrgent j.desc || x.urgents == 0 then s else
    let mem := gShmem j.desc && gShadow j.desc != 0
    if !mem && decide (64 ≤ s.shadowUsed) then s else
    let s1 := if !mem then s else match j.st with
      | some st => s.unitWrite (s.digestClient j) (gShadow j.desc) (shadowBytes (gAlg j.desc) st)
      | none => s
    let s2 := s1.setEngine e { s1.engine e with run := none, stack := { j with preempts := j.preempts + 1, onDie := !mem } :: x.stack }
    { s2 with dg := { s2.dg with preempts := satInc s2.dg.preempts } }

/-- DIGEST_PREEMPT; a re-sweep holds its writes (R325). -/
def execDigestPreempt (e : Nat) (s : State) : Res :=
  if 8 ≤ e then .fault .noSuchUnit else if s.mc.sweep then .next s else .next (preemptDigest s e)

/-- What a finished job leaves: status, MFLAG, RLEN, the bytes that DG_RES shows, and the state. -/
structure DigestOut where
  st : Nat
  mflag : Nat := 0
  rlen : Nat := 0
  res : List Byte := []
  s : State

/-- The result of a job and its destination (R361, R362). -/
def finishDigest (s : State) (j : DigestJob) : DigestOut :=
  let d := j.desc
  let h := algHash (gAlg d)
  match j.fail, j.st with
  | some n, _ => { st := n, s := s }
  | none, none => { st := 1, s := s }
  | none, some st =>
    let (b, s1) := s.message j j.absorbed (j.total - j.absorbed)
    match b with
    | none => { st := 3, s := s1 }
    | some bs =>
      let u := s1.digestClient j
      if !gFinal d then { st := 0, s := s1.unitWrite u (gShadow d) (shadowBytes (gAlg d) (h.absorb st bs)) }
      else
        let inner := h.finish st bs
        let r := if algHmac (gAlg d) then hmacOuter h j.key inner else inner
        match gDest d with
        | 0 => { st := 0, rlen := r.length, res := r, s := s1.unitWrite u (gOut d) r }
        | 1 => { st := 0, rlen := r.length, s := s1.setSlot (gOut d % 1024) (slice r 0 64) }
        | _ =>
          let (x, s2) := s1.unitRead u (gOut d) (gCmp d)
          match x with
          | none => { st := 3, s := s2 }
          | some y =>
            if y = r.take (gCmp d) then { st := 0, mflag := 0xA55A, rlen := r.length, res := leBytes 2 0xA55A, s := s2 }
            else { st := 0, mflag := 0x3CC3, rlen := r.length, res := leBytes 2 0x3CC3,
                   s := { s2 with dg := { s2.dg with mismatch := satInc s2.dg.mismatch } } }

/-- DIGEST_JOB_COMPLETE (R361 to R363, R370): the rest of the message, the result at its destination, the record, the flag. -/
def completeDigest (s : State) (e : Nat) : State :=
  match (s.engine e).run with
  | none => s
  | some j =>
    let o := finishDigest s j
    let s1 := match j.by_.inst with
      | some i => o.s.addAct i (fun a => { a with digest := a.digest + (if o.st = 0 then j.total else 0) })
      | none => o.s
    let s2 := s1.setEngine e { s1.engine e with run := none, done := true, lastSt := o.st, res := slice o.res 0 64,
                                                keyDest := gDest j.desc == 1 && gFinal j.desc }
    s2.digestEnd j (digestRecord o.st o.mflag o.rlen e (if o.st = 0 then j.total else j.absorbed) j.preempts)

/-- DIGEST_JOB_COMPLETE; a re-sweep holds its accesses (R325). -/
def execDigestJobComplete (e : Nat) (s : State) : Res :=
  if 8 ≤ e then .fault .noSuchUnit else if s.mc.sweep then .next s else .next (completeDigest s e)

/-- A job as it was submitted, for its reissue from the start. -/
def DigestJob.again (j : DigestJob) : DigestJob :=
  { j with started := false, key := [], msg := [], absorbed := 0, st := none, preempts := 0, fail := none, onDie := true }

/-- A digest engine's fault (R368): out of service, its jobs reissued from their start, each to an engine by R365, or held back until one has room. -/
def digestFault (s : State) (e : Nat) : State :=
  let x := s.engine e
  if x.oos then s else
  let jobs := (x.run.toList ++ x.stack ++ x.queue).map DigestJob.again
  let s1 := s.setEngine e { x with oos := true, queue := [], run := none, stack := [] }
  ({ s1 with dg := { s1.dg with held := jobs ++ s1.dg.held } }.logEvent 0x03 0xFF 1 e).drainDigest

/-- DIGEST_ENGINE_FAULT (R368). -/
def execDigestEngineFault (e : Nat) (s : State) : Res := if 8 ≤ e then .fault .noSuchUnit else .next (digestFault s e)

/-- A read of DG_RES_e_k (R370): zero after a key-destined job, with NOREAD set. -/
def readDgRes (s : State) (e k : Nat) : Nat × State :=
  let x := s.engine e
  if !x.done then (0, s) else if x.keyDest then (0, s.setEngine e { x with noRead := true }) else (fieldLE x.res (8 * k) 8, s)

/-- DG_RES_READ (R370). -/
def execDgResRead (e k : Nat) (s : State) : Res := if 8 ≤ e ∨ 8 ≤ k then .fault .noSuchUnit else .next (readDgRes s e k).2

end Sys2Proof.Machine
end

