-- ==== Sys2Proof/Machine/Keys.lean ====
section
/-! DEFINITION. Key derivation and the enrolment-key load (spec/13 R375 to R379, R386), firmware authentication (R383), and the watchdog of codec units and
digest engines (spec/14 R393). -/
namespace Sys2Proof.Machine

/-- A derived key (R376): HMAC-SHA-512 keyed with label, nonce and index over RK. -/
def State.kdf (s : State) (label : String) (nonce : List Byte) (index : Nat) : List Byte :=
  hmac .sha512 (ascii label ++ nonce ++ leBytes 4 index) (s.slotBytes 0)

/-- IK[g] of an enrolment key (R376). -/
def imageKey (oek : List Byte) (g : Nat) : List Byte := hmac .sha512 (ascii "YQIMGKEY" ++ leBytes 4 g) oek

/-- The keys that PREP puts in slots 0 to 4: fuses, then the supervisor's derivations (R375, R376). -/
def State.prepKeys (s : State) : State :=
  let z : List Byte := List.replicate 32 0
  let s1 := (s.setSlot 0 (bytesOf Config.rootKey)).setSlot 1 (bytesOf Config.fwKey)
  ((s1.setSlot 2 (s1.kdf "YQMEMKEY" z 31)).setSlot 3 (s1.kdf "YQSTOKEY" z 31)).setSlot 4 (s1.kdf "YQENGNON" z 0)

/-- An owner's memory and store keys (R376, R378). -/
def State.ownerKeys (s : State) (i : Nat) (nonce : List Byte) : State :=
  (s.setSlot (memKeySlot i) (s.kdf "YQMEMKEY" nonce i)).setSlot (storeKeySlot i) (s.kdf "YQSTOKEY" nonce i)

/-- An owner's enrolment and image keys in their slots (R377). -/
def State.enrolKeys (s : State) (i : Nat) (oek : W512) (g : Nat) : State :=
  (s.setSlot (oekSlot i) (bytesOf oek)).setSlot (imageKeySlot i) (imageKey (bytesOf oek) g)

/-- A new owner nonce (R376), OCTR already raised. -/
def State.newNonce (s : State) : List Byte :=
  (hmac .sha512 (s.slotBytes 4) (ascii "YQOWNNON" ++ leBytes 8 s.keys.octr ++ leBytes 8 s.now)).take 32

/-- ENONCE of an OPEN (R292, R376). -/
def State.enonce (s : State) (p : Nat) (session : W32) : List Byte :=
  (hmac .sha256 (s.slotBytes 4) (leBytes 8 s.now ++ leBytes 2 p ++ bytesOf session)).take 16

/-- PK and SK of a port (R291). -/
def State.portKey (s : State) (i p : Nat) : List Byte := hmac .sha256 (s.slotBytes (imageKeySlot i)) (ascii "WFP-PORT" ++ leBytes 2 p)
def sessionKey (pk unonce enonce : List Byte) (p : Nat) (session : W32) : List Byte :=
  hmac .sha256 pk (ascii "WFP-SESS" ++ unonce ++ enonce ++ leBytes 2 p ++ bytesOf session)

/-- The firmware check of R383, a comparator job inside its step (log entry 104): its MFLAG where a job can run, and what the engine that R365 takes shows of
it when it is idle. A mismatch counts. -/
def State.fwCheck (s : State) (image : List Byte) : Bool × State :=
  let n := image.length
  match s.digestPlace [] s.digestLive with
  | none => (false, s)
  | some e =>
    if n < 48 then (false, s) else
    let x := s.engine e
    let show_ := fun (t : State) (st mflag : Nat) =>
      if x.run.isSome || !x.queue.isEmpty then t
      else t.setEngine e { x with done := true, noRead := false, keyDest := false, lastSt := st, res := slice (leBytes 2 mflag) 0 64 }
    match s.slotKey 1 with
    | none => (false, show_ s 4 0)
    | some k =>
      if image.drop (n - 48) = hmac .sha384 ((bytesOf k).take 48) (image.take (n - 48)) then (true, show_ s 0 0xA55A)
      else (false, show_ { s with dg := { s.dg with mismatch := satInc s.dg.mismatch } } 0 0x3CC3)

/-- A write of KS_OEK_CTL (R379, R386). -/
def oekLoad (s : State) (v : W32) : State :=
  if !v.getLsbD 8 || !s.isUp then s else
  let i := bits v 0 5
  let data : W512 := BitVec.ofNat 512 (leNat s.keys.oekData)
  let k := { s.keys with oekData := List.replicate 64 0 }
  let s1 := { s with keys := k }
  let ok := k.busy.isNone && decide (i < s.hi.n) && (s.inst i).state == .stopped && (match s.owner? i with
    | some o => o.oek.isNone
    | none => false)
  if ok then ({ s1 with keys := { k with busy := some (i, data) } }).setSlot (oekSlot i) (bytesOf data)
  else { s1 with keys := { k with reject := true } }

/-- KS_OEK_LOAD (R379). -/
def execKsOekLoad (v : W32) (s : State) : Res := .next (oekLoad s v)

/-- KS_OEK_LOAD_DONE (R379): OEK and g = 1 in both header copies, IK[1] derived, BUSY clear. -/
def execKsOekLoadDone (s : State) : Res :=
  match s.keys.busy with
  | none => .next s
  | some (i, oek) =>
    let s1 := { s with keys := { s.keys with busy := none } }
    match s1.owner? i with
    | none => .next s1
    | some o => .next (((s1.setOwner i { o with oek := some oek, gen := 1 }).writeHeaders i).enrolKeys i oek 1)

/-- UNIT_WATCHDOG_EXPIRY (R393): a job that has made no progress for 10 µs is a unit fault. A codec job moves on for Config.codecTime after its start
(log entry 105), a digest job at each DIGEST_JOB; a re-sweep does not count. -/
def execUnitWatchdogExpiry (k : UnitKind) (u : Nat) (s : State) : Res :=
  match k with
  | .codec => if 48 ≤ u then .fault .noSuchUnit else
    let x := s.unit u
    match x.run with
    | some (j, _) => if !s.mc.sweep && decide (x.runTick + Config.codecTime (inLen j.desc) + 10000 ≤ s.now) then .next (codecFault s u) else .next s
    | none => .next s
  | .digest => if 8 ≤ u then .fault .noSuchUnit else
    let x := s.engine u
    if x.run.isSome && !s.mc.sweep && decide (x.runTick + 10000 ≤ s.now) then .next (digestFault s u) else .next s

end Sys2Proof.Machine
end

