-- ==== Sys2Proof/Machine/InstEnd.lean ====
section
/-! DEFINITION. What resets and failures do to an instance (spec/08 R247 to R249, spec/04 R127, spec/09 R271). -/
namespace Sys2Proof.Machine

/-- Items, contexts and jobs of an instance discarded; a core that ran one gets HGQUIT (R127, R207). -/
def State.dropItems (s : State) (i : Nat) : State :=
  let quit := s.cores.filterMap (fun e => match e.2.item with
    | some (slot, _) => if (s.item? slot).any (fun t => t.inst == i) then some e.1 else none
    | none => none)
  let s1 := (s.discardItems (fun t => t.inst == i)).dropJobs (fun b => b.inst == some i)
  let s2 := (s1.hg.queries.filter (fun e => e.2.inst == i)).foldl (fun t e => t.closeCtx e.1) s1
  quit.foldl (fun (t : State) (c : Nat) => t.icEdge c 1) s2

/-- Loaded images dropped (R80). -/
def State.dropImages (s : State) (i : Nat) : State :=
  ((s.inst i).images.foldl (fun (t : State) (m : Image) => t.freeRegion i m.da) s).modInst i (fun x => { x with images := [] })

/-- A field command discarded by an FLR: an APPEND completes on its session with ABORTED (R249); any other leaves its tag free without a frame
(log entry 22). -/
def State.dropField (s : State) (i : Nat) (c : Cmd) : State :=
  let s1 := s.dropWork i c
  if c.opc = 1 then s1.finishOne i c 0x0600 0
  else
    let s2 := s1.modInst i (fun x => { x with cmds := x.cmds.filter (fun d => d.no != c.no) })
    match c.src with
    | .field p tag id => match (s2.port p).sess with
      | some x => if x.id = id then s2.setPort p { s2.port p with sess := some { x with tags := SMap.erase x.tags tag } } else s2
      | none => s2
    | .ring => s2

/-- Queued, fetched and in-flight commands discarded without completions, with the culvert, items, contexts and images (R248). -/
def State.discardAll (s : State) (i : Nat) : State :=
  let s1 := (s.inst i).cmds.foldl (fun (t : State) (c : Cmd) => match c.src with
    | .ring => t.removeCmd i c.no
    | .field _ _ _ => t.dropField i c) s
  (((s1.dropItems i).dropImages i)).modInst i (fun x =>
    { x with done := [], culvert := [], stall := false, openBatch := none, batches := [], deficit := [0, 0, 0, 0], streak := 0, reads := 0,
             unsig := 0, unsigTick := none, limit := x.sqCi, lapped := false })

/-- Ports of an instance that have a session or a pending one. -/
def State.portsOf (s : State) (i : Nat) : List Nat :=
  (s.fp.ports.filter (fun e => instOfPort s.hi.n e.1 == some i && (e.2.sess.isSome || e.2.pend.isSome || !e.2.opens.isEmpty))).map (fun e => e.1)

/-- Every session of an instance's ports closes; pending ones end without a frame (R292, R295). -/
def State.closePorts (s : State) (i reason : Nat) : State :=
  (s.portsOf i).foldl (fun (t : State) (p : Nat) =>
    ((t.closeSession p reason).dropPending p).dropOpens p) s

/-- The instance becomes FAILED (R247): rings stop, commands are discarded, its field sessions close with reason 6 (R295). -/
def State.failInst (s : State) (i : Nat) (why : InstState) : State :=
  ((s.closePorts i 6).discardAll i).modInst i (fun x => { x with state := why })

/-- The work of instances that the loss of a channel made FAILED is discarded (R247, R328). -/
def State.settleFailed (s : State) : State :=
  (s.insts.filter (fun e => e.2.failing)).foldl (fun (t : State) (e : Nat × Inst) =>
    (t.failInst e.1 .failedHard).modInst e.1 (fun x => { x with failing := false })) s

/-- The effect of an FLR on an instance that has a state other than NONE (R247, R248): RESETTING. -/
def State.flr (s : State) (i : Nat) : State :=
  (s.discardAll i).modInst i (fun x => { x with state := .resetting })

/-- In-service cores of an instance. -/
def State.liveCores (s : State) (i : Nat) : List Nat := (coresOf s.hi.n i).filter (fun c => !s.hg.oos.contains c)

/-- R122 step 3: with no core left, the instance becomes FAILED once its started commands have completed and their completions are written. -/
def State.settleNoCore (s : State) (i : Nat) : State :=
  let x := s.inst i
  if s.hi.n = 0 ∨ s.hi.n ≤ i ∨ !(s.liveCores i).isEmpty then s
  else match x.state with
    | .none => s
    | .failedLink => s
    | .failedHard => s
    | _ => if x.cmds.any (fun c => c.phase != .queued) || !x.done.isEmpty || !x.culvert.isEmpty then s else s.failInst i .failedHard

end Sys2Proof.Machine
end

