-- ==== Sys2Proof/Machine/HgOps.lean ====
section
/-! DEFINITION. Headgate (spec/04): creation of items (spec/03 R83, R87 to R89, R108), dispatch (R114), commit and the comparison of mirrored runs
(R117, R118, R125), core faults and replay (R121 to R123), and the end of a query (spec/03 R84). -/
namespace Sys2Proof.Machine

/-! ## Creation of items -/

/-- Bytes of the lease arena left for leases, extension pages and spilled parcels: the flumes' entries beyond 16 take the rest of LEASE_NEED
(R120; log entry 23). -/
def flumeStore (code : List Byte) : Nat := ((List.range (imgFlumes code)).map (fun f => 16 * (flDepth (flumeEnt code f) - 16))).sum

/-- Word 4 of a stage's items (R110). -/
def outWord (q : Query) (e : List Byte) : W64 :=
  let fl := fun (k : Nat) => if k = 0xFF then 0 else q.flumes.getD k 0 + 2 ^ 12
  BitVec.ofNat 64 (fl (stOut0 e) + fl (stOut1 e) * 2 ^ 16 + stOutExch e * 2 ^ 32)

/-- A query's lease granted, for `ok` runs of an item. -/
def Query.grantTwin (q : Query) (pages : Nat) (mirror : Bool) : Option (Option Lease × Option Lease × Query) :=
  match q.grant pages with
  | none => none
  | some (l, q1) =>
    if mirror then match q1.grant pages with
      | none => none
      | some (l2, q2) => some (l, l2, q2)
    else some (l, none, q1)

/-- An item of a stage created, when a slot and its lease are free (R83, R89, R109). -/
def State.makeItem (s : State) (ctx stage : Nat) (w2 w3 : W64) (bound handed : Option Nat) : Option State :=
  match s.query? ctx with
  | none => none
  | some q =>
    let e := stageEnt q.code stage
    match s.freeSlot q.inst, q.grantTwin (stPages e) (stMirror e) with
    | some slot, some (l, l2, q1) =>
      some ((s.setQuery ctx q1).addItem slot
        { inst := q.inst, ctx := ctx, stage := stage, prio := stPrio e, rmode := stRmode e, waitall := false, mirror := stMirror e,
          replayable := true, phase := 0, replays := 0, w2 := w2, w3 := w3, w4 := outWord q e, w5 := BitVec.ofNat 64 (devBase + q.paramDa),
          stamp := 0, flags := 0, mask := 0, isParked := false, parked := none, bound := bound, replay := none, draining := [], order := 0,
          handed := handed, append := none, prim := Run.fresh l, twin := if stMirror e then some (Run.fresh l2) else none })
    | _, _ => none

/-- Items of a query may still be created: it has not failed or ended (R84). -/
def Query.live (q : Query) : Bool := q.status.isNone && !q.fin

/-- A morsel record's bytes (R87): COL_j is the core-space address of the first block of each selected column. -/
def morselBytes (t : Table) (cols : Nat) (m : Morsel) : List Byte :=
  let sel := (List.range 64).filter (fun j => cols.testBit j)
  leBytes 4 m.rows ++ [BitVec.ofNat 8 sel.length, BitVec.ofNat 8 m.blocks, 0, 0]
    ++ (sel.map (fun j => leBytes 8 (devBase + (((t.col j)[m.first]?.bind (fun b => b.da)).getD 0)))).flatten

/-- A morsel's record written in the arena. -/
def State.writeMorsel (s : State) (q : Query) (scan : List Byte) (m : Morsel) : State :=
  match (s.owner? q.inst).bind (fun o => o.table? (fieldLE scan 4 4)) with
  | some t => s.writeMem q.inst m.da (morselBytes t (fieldLE scan 8 8) m)
  | none => s

/-- Are a morsel's segments in memory (R350)? -/
def State.morselReady (s : State) (i : Nat) (m : Morsel) : Bool :=
  match s.owner? i with
  | none => false
  | some o => m.segs.all (fun g => o.wholly g)

/-- Does a morsel read a lost block (R340, R350)? -/
def State.morselLost (s : State) (q : Query) (scan : List Byte) (m : Morsel) : Bool :=
  match (s.owner? q.inst).bind (fun o => o.table? (fieldLE scan 4 4)) with
  | none => false
  | some t => (List.range t.cols.length).any (fun j => (fieldLE scan 8 8).testBit j && (((t.col j).drop m.first).take m.blocks).any (fun b => b.lost))

/-- ROOT stages with morsels left, in turn from `q.rootTurn` (R83). -/
def nextRoot (q : Query) : Option (Nat × Morsel × List Morsel) :=
  let left := q.morsels.filter (fun e => !e.2.isEmpty)
  match (left.find? (fun e => decide (q.rootTurn ≤ e.1))).or left.head? with
  | some (st, m :: ms) => some (st, m, ms)
  | _ => none

/-- ROOT_ITEM_CREATE (R83, R108): the next morsel's item, while an eighth of the slots is free. -/
def createRoot (s : State) (ctx : Nat) : State :=
  match s.query? ctx with
  | none => s
  | some q =>
    let n := slotsPer s.hi.n
    if !q.live || decide (8 * (n - s.slotsUsed q.inst) < n) then s else
    match nextRoot q with
    | none => s
    | some (st, m, ms) =>
      let scan := scanEnt q.code (stIn (stageEnt q.code st))
      if s.morselLost q scan m then s.failQuery ctx 0x0401 else
      if !s.morselReady q.inst m then s else
      let q1 := { q with morsels := q.morsels.map (fun e => if e.1 = st then (st, ms) else e), rootTurn := st + 1 }
      let stamp := fun (g : Segment) => if m.segs.contains g.seq then { g with scanned := s.now } else g
      let s1 := ({ s with flash := { s.flash with segments := s.flash.segments.map stamp } }).setQuery ctx q1
      match s1.makeItem ctx st (BitVec.ofNat 64 (devBase + m.da)) (BitVec.ofNat 64 (m.rows + m.no * 2 ^ 32)) none none with
      | none => s
      | some s2 => if m.segs.isEmpty then s2 else s2.writeMorsel q scan m

/-- FLUME_ITEM_CREATE (R83, R88): the oldest committed post of a flume becomes an item of the flume's consumer, which keeps a handed lease. -/
def createFlume (s : State) (f : Nat) : State :=
  match s.flume? f with
  | none => s
  | some x => match s.query? x.ctx, x.posts with
    | some q, (w1, w2, h) :: rest =>
      if !q.live || x.image = imgResult q.code then s else
      match s.makeItem x.ctx (fieldLE (flumeEnt q.code x.image) 1 1) w1 w2 none h with
      | none => s
      | some s1 => s1.setFlume f { x with posts := rest }
    | _, _ => s

/-! ## Drained stages -/

/-- Stages that send into exchange x, or post to flume f. -/
def senders (code : List Byte) (x : Nat) : List Nat := (List.range (imgStages code)).filter (fun t => stOutExch (stageEnt code t) == x)
def posters (code : List Byte) (f : Nat) : List Nat :=
  (List.range (imgStages code)).filter (fun t => stOut0 (stageEnt code t) == f || stOut1 (stageEnt code t) == f)

/-- Exchanges that a stage reads. -/
def inputsOf (e : List Byte) : List Nat := [stIn e, stIn2 e].filter (fun x => x != 0xFF)

/-- Partitions with a committed parcel in any input exchange, in order of local cluster and index (R83): one that holds void parcels alone is empty
(DEDUCED, log entry 121). -/
def partitions (q : Query) (e : List Byte) : List (Nat × Nat) :=
  let x := inputsOf e
  ((List.range q.clusters.length).map (fun cl => ((List.range (exBufs (exchEnt q.code (stIn e)))).map (fun b => (cl, b))))).flatten.filter (fun k =>
    q.parcels.any (fun p => x.contains p.exch && p.cl == k.1 && p.buf == k.2 && p.state == 1))

/-- A stage has drained (R83): no item of it is left and every stage that can create its items has drained, and nothing of theirs waits. -/
def drained (s : State) (ctx : Nat) (q : Query) : Nat → Nat → Bool
  | 0, _ => false
  | n + 1, t =>
    let e := stageEnt q.code t
    !s.hg.items.any (fun i => i.2.ctx == ctx && i.2.stage == t) &&
    (match stKind e with
     | 0 => (q.morsels.filter (fun m => m.1 == t)).all (fun m => m.2.isEmpty)
     | 1 => (posters q.code (stIn e)).all (drained s ctx q n) && (match s.flume? (q.flumes.getD (stIn e) 0) with
        | some f => f.posts.isEmpty
        | none => true)
     | 2 => (inputsOf e).all (fun x => (senders q.code x).all (drained s ctx q n)) && (partitions q e).all (fun k => q.exchMade.contains (t, k.1, k.2))
     | _ => ((List.range 64).filter (fun k => (stWaits e).testBit k)).all (drained s ctx q n) && q.barrierMade.contains t)

def State.drained (s : State) (ctx : Nat) (t : Nat) : Bool :=
  match s.query? ctx with
  | some q => Machine.drained s ctx q 65 t
  | none => true

/-- Stages of a kind. -/
def stagesOf (code : List Byte) (k : Nat) : List Nat := (List.range (imgStages code)).filter (fun t => stKind (stageEnt code t) == k)

/-- One item for a partition that has none yet. -/
def createPart (ctx t : Nat) (s : State) (k : Nat × Nat) : State :=
  match s.query? ctx with
  | none => s
  | some q =>
    if q.exchMade.contains (t, k.1, k.2) then s else
    match s.makeItem ctx t (BitVec.ofNat 64 (k.2 + k.1 * 2 ^ 16)) 0 q.clusters[k.1]? none with
    | none => s
    | some s1 => match s1.query? ctx with
      | some q1 => s1.setQuery ctx { q1 with exchMade := (t, k.1, k.2) :: q1.exchMade }
      | none => s1

/-- EXCH_ITEM_CREATE (R83, R93): the items of every EXCH stage whose input exchanges have closed, as slots and the arena allow. -/
def createExch (s : State) (ctx : Nat) : State :=
  match s.query? ctx with
  | none => s
  | some q =>
    if !q.live then s else
    (stagesOf q.code 2).foldl (fun (u : State) (t : Nat) =>
      let e := stageEnt q.code t
      if (inputsOf e).all (fun x => (senders q.code x).all (s.drained ctx)) then (partitions q e).foldl (createPart ctx t) u else u) s

/-- BARRIER_ITEM_CREATE (R83): the one item of each BARRIER stage whose WAITS have drained. -/
def createBarrier (s : State) (ctx : Nat) : State :=
  match s.query? ctx with
  | none => s
  | some q =>
    if !q.live then s else
    (stagesOf q.code 3).foldl (fun (u : State) (t : Nat) =>
      if q.barrierMade.contains t || !((List.range 64).filter (fun k => (stWaits (stageEnt q.code t)).testBit k)).all (s.drained ctx) then u
      else match u.makeItem ctx t 0 0 none none with
        | none => u
        | some u1 => match u1.query? ctx with
          | some q1 => u1.setQuery ctx { q1 with barrierMade := t :: q1.barrierMade }
          | none => u1) s

/-! ## Dispatch -/

/-- Clusters of an instance that still have an in-service core (R123 step 3). -/
def State.liveClusters (s : State) (i : Nat) : List Nat :=
  ((clustersOf s.hi.n i).map (fun e => e.1)).filter (fun cl => (s.liveCores i).any (fun c => clusterOf c == cl))

/-- The run of an item that waits: the primary first. -/
def Item.nextRun (t : Item) : Bool := !t.open false

def Item.run (t : Item) (twin : Bool) : Run := if twin then t.twin.getD t.prim else t.prim
def Item.setRun (t : Item) (twin : Bool) (r : Run) : Item := if twin then { t with twin := some r } else { t with prim := r }

/-- May core c run the waiting run of an item (R114, R124)? -/
def State.free? (s : State) (t : Item) (c : Nat) : Bool :=
  let cl := clusterOf c
  t.ready && (t.parked.isNone || t.parked == some cl) && (t.bound.isNone || t.bound == some cl) &&
  (!t.mirror || (match (t.run (!t.nextRun)).lastCore with
    | none => true
    | some d => if (s.liveClusters t.inst).length ≥ 2 then clusterOf d != cl else d != c))

/-- Items of an instance that dispatch considers (R119, R127). -/
def State.offers (s : State) (i : Nat) : List (Nat × Item) :=
  if (s.inst i).stall then [] else s.hg.items.filter (fun e => e.2.inst == i && !(s.hg.paused && e.2.append.isSome))

/-- Order within a context (R114 step 4). -/
def Item.key (slot : Nat) (t : Item) : List Nat :=
  match t.replay with
  | some k => [0, k, 0, slot]
  | none => if t.rmode then [1, t.stamp, 0, slot] else [2, t.prio, t.stamp, slot]

def lexLt : List Nat → List Nat → Bool
  | a :: as, b :: bs => decide (a < b) || (decide (a = b) && lexLt as bs)
  | _, _ => false

/-- The first of the items in their order. -/
def firstItem (l : List (Nat × Item)) : Option (Nat × Item) :=
  l.foldl (fun (a : Option (Nat × Item)) (e : Nat × Item) => match a with
    | none => some e
    | some b => if lexLt (e.2.key e.1) (b.2.key b.1) then some e else some b) none

/-- Cores of an instance blocked in TAKE, the longest waiting first, the lower number breaking a tie. -/
def State.waiters (s : State) (i : Nat) : List Nat :=
  let w := (s.liveCores i).filterMap (fun c => match (s.core c).act with
    | .taking t => some (t, c)
    | _ => none)
  (w.foldl (fun (l : List (Nat × Nat)) (e : Nat × Nat) =>
    (l.filter (fun x => decide (x.1 < e.1) || (decide (x.1 = e.1) && decide (x.2 < e.2)))) ++ [e]
      ++ (l.filter (fun x => !(decide (x.1 < e.1) || (decide (x.1 = e.1) && decide (x.2 < e.2)))))) []).map (fun e => e.2)

/-- The pairing of an instance (R114 steps 2 to 4): core, slot, item. -/
def State.pairing (s : State) (i : Nat) : Option (Nat × Nat × Item) :=
  let offers := s.offers i
  (s.waiters i).findSome? (fun c =>
    let mine := offers.filter (fun e => s.free? e.2 c)
    let ctxs := mine.map (fun e => e.2.ctx)
    let last := SMap.find s.hg.lastCtx i
    let later := ctxs.filter (fun x => match last with
      | some l => decide (l < x)
      | none => true)
    let least := fun (l : List Nat) => l.foldl (fun (a : Option Nat) (x : Nat) => match a with
      | none => some x
      | some y => some (min x y)) none
    match (least later).or (least ctxs) with
    | none => none
    | some x => (firstItem (mine.filter (fun e => e.2.ctx == x))).map (fun e => (c, e.1, e.2)))

/-- Word 0 of the descriptor (R109). -/
def Item.word0 (t : Item) (slot : Nat) (twin : Bool) : W64 :=
  BitVec.ofNat 64 (t.stage + t.ctx * 2 ^ 8 + t.prio * 2 ^ 19 + t.rmode.toNat * 2 ^ 22 + t.waitall.toNat * 2 ^ 23 + t.replayable.toNat * 2 ^ 24
    + t.mirror.toNat * 2 ^ 25 + twin.toNat * 2 ^ 26 + t.phase * 2 ^ 28 + slot * 2 ^ 32 + t.replays * 2 ^ 48)

/-- Word 6 (R89). -/
def leaseWord (l : Option Lease) : W64 :=
  match l with
  | none => 0
  | some x => BitVec.ofNat 64 (x.da + x.pages * 2 ^ 44)

/-- The descriptor of one run (R109, R110). -/
def Item.words (t : Item) (slot : Nat) (twin : Bool) : List W64 :=
  [t.word0 slot twin, if t.rmode then t.flags &&& t.mask else 0, t.w2, t.w3, t.w4, t.w5, leaseWord (t.run twin).lease, BitVec.ofNat 64 t.stamp]

/-- TAKE's end (R114, R116): the descriptor in g16 to g23, masked flags cleared, statistics, the core past its TAKE. -/
def State.pair (s : State) (i c slot : Nat) (t : Item) : State :=
  let twin := t.nextRun
  let k := s.core c
  let g := ((t.words slot twin).zipIdx).foldl (fun (v : Core) (e : W64 × Nat) => v.wr (BitVec.ofNat 5 (16 + e.2)) e.1) k
  let t1 := ({ t with flags := if t.rmode then t.flags &&& ~~~t.mask else t.flags, isParked := false, parked := none, replay := none }).setRun twin
    { t.run twin with state := .running c, lastCore := some c }
  let st := s.stat i
  let wait := s.now - t.stamp
  let s1 := ((s.setItem slot t1).setCore c { g with act := .running, pc := k.pc + 4, item := some (slot, twin), progress := s.now }).setStat i
    { st with waitMax := BitVec.ofNat 64 (max st.waitMax.toNat wait), waitSum := st.waitSum + BitVec.ofNat 64 wait, disp := st.disp + 1 }
  { s1 with hg := { s1.hg with lastInst := some i, lastCtx := SMap.set s1.hg.lastCtx i t.ctx } }

/-- DISPATCH (R114): one pairing, instances in turn. Ingest items that waited for a slot are queued first. -/
def dispatchOne (s0 : State) : State :=
  let s := s0.instList.foldl (fun (t : State) (i : Nat) => t.pumpIngest i) s0
  let n := s.hi.n
  let start := match s.hg.lastInst with
    | some l => l + 1
    | none => 0
  match (((List.range n).map (fun k => (start + k) % n)).findSome? (fun i => (s.pairing i).map (fun p => (i, p)))) with
  | none => s
  | some (i, c, slot, t) => s.pair i c slot t

/-! ## The end of an item and of a query -/

/-- A query's command ends with its status: first failure, or OK (R84); its context stays until the entry is written (R82). -/
def State.endQuery (s : State) (ctx : Nat) : State :=
  match s.query? ctx with
  | none => s
  | some q => if q.fin then s else s.complete q.inst q.cmd (q.status.getD 0) (BitVec.ofNat 64 q.written)

/-- An item ends with a status: its query ends under R84, or its append ends with it (R302). -/
def State.failItem (s : State) (slot : Nat) (t : Item) (st : W16) : State :=
  let s1 := s.discardItem slot
  match t.append with
  | some (no, _) => s1.complete t.inst no st 0
  | none => s1.failQuery t.ctx st

/-- A core whose item is over continues in keeper mode at the dispatch loop (R116). -/
def State.coreLoop (s : State) (c : Nat) : State :=
  let k := s.core c
  s.setCore c { k with act := .running, pc := Config.dispatchLoop, keeper := true, vres := 0, item := none, progress := s.now }

/-- Does a word name bytes of a lease (R125)? -/
def inLease (l : Option Lease) (w : W64) : Option Nat :=
  match l with
  | none => none
  | some x => let a := bits w 0 41; if x.da ≤ a ∧ a < x.da + 4096 * x.pages then some x.da else none

/-- A word as R125 compares it: with an offset from the run's own lease in bits [40:0]. -/
def normWord (l : Option Lease) (w : W64) : Bool × Nat :=
  match inLease l w with
  | some da => (true, w.toNat - da)
  | none => (false, w.toNat)

/-- What R125 compares of a run. -/
def Run.output (r : Run) : W16 × (Bool × Nat) × List (Bool × (Bool × Nat) × (Bool × Nat)) × List (Nat × (Bool × Nat)) :=
  (r.status, normWord r.lease r.sig, r.posts.map (fun p => (p.sel, normWord r.lease p.w1, normWord r.lease p.w2)),
   r.signals.map (fun g => (g.slot, normWord r.lease g.mask)))

/-- Is a result post well formed (R103)? -/
def goodRange (l : Option Lease) (p : Post) : Bool :=
  match l with
  | none => false
  | some x => p.w2.getLsbD 63 && bits p.w2 32 31 == 0 && decide (x.da ≤ p.w1.toNat) && decide (p.w1.toNat + bits p.w2 0 32 ≤ x.da + 4096 * x.pages)

/-- A committed post joins its flume (R117), with the lease it hands on. -/
def State.commitPost (s : State) (h : Option Nat) (p : Post) : State :=
  match s.flume? p.flume with
  | none => s
  | some f => s.setFlume p.flume { f with staged := f.staged - 1, posts := f.posts ++ [(p.w1, p.w2, if p.w2.getLsbD 63 then h else none)] }

/-- A signal applied at commit, to an item of the same context only; other flags are dropped and counted (R116). -/
def State.applySignal (ctx : Nat) (s : State) (g : Signal) : State :=
  if (s.item? g.slot).any (fun t => t.ctx == ctx) then s.orFlags g.slot g.mask
  else { s with hg := { s.hg with sigdrop := satAdd s.hg.sigdrop (popCount 64 g.mask.toNat) } }

/-- A run's outputs published and its item's slot freed (R89, R93, R118 step 3). A result post that R103 does not allow ends the query. -/
def State.publish (s : State) (slot : Nat) (t : Item) : State :=
  match s.query? t.ctx with
  | none => s.discardItem slot
  | some q =>
    let r := t.prim
    let result := fun (p : Post) => (s.flume? p.flume).any (fun f => f.image == imgResult q.code)
    let bad := r.posts.filter (fun p => result p && !goodRange r.lease p)
    let good := r.posts.filter (fun p => !(result p && !goodRange r.lease p))
    let handing := (good.filter (fun p => p.w2.getLsbD 63)).length
    let (h, q1) := match r.lease with
      | none => ((none : Option Nat), q)
      | some l => if handing = 0 then (none, q.release (some l)) else
          (some q.nextHanded, { q with handed := SMap.set q.handed q.nextHanded { lease := l, users := handing }, nextHanded := q.nextHanded + 1 })
    let q2 := (match t.twin with
      | some w => q1.release w.lease
      | none => q1).letGo t.handed
    let s1 := good.foldl (fun (u : State) (p : Post) => u.commitPost h p) ((s.unstage bad).setQuery t.ctx q2)
    let s2 := match t.twin with
      | some w => s1.unstage w.posts
      | none => s1
    let s3 := (r.signals.foldl (State.applySignal t.ctx) s2).closeParcels t.ctx slot 1
    let s4 := { s3 with hg := { s3.hg with items := SMap.erase s3.hg.items slot } }
    if bad.isEmpty then s4 else s4.failQuery t.ctx 0x0700

/-- An ingest item commits; with the last of them its append lands (R102). -/
def State.commitIngest (s : State) (slot : Nat) (t : Item) (no : Nat) : State :=
  let s1 := { s with hg := { s.hg with items := SMap.erase s.hg.items slot } }
  match (s1.inst t.inst).cmd? no with
  | none => s1
  | some c => match c.work with
    | .append a =>
      let a1 := { a with committed := a.committed + 1 }
      let s2 := s1.setAppend t.inst no a1
      if a1.committed < s2.ingestCount t.inst a1 then s2 else s2.land t.inst { c with work := .append a1 } a1
    | _ => s1

/-- The commit of an item whose run (or second run) has reached DONE (R84, R118, R125). -/
def State.commitItem (s : State) (slot : Nat) (t : Item) : State :=
  match t.append with
  | some (no, _) => s.commitIngest slot t no
  | none =>
    if (s.query? t.ctx).any (fun q => q.status.isSome) then s.discardItem slot else
    match t.twin with
    | none => s.publish slot t
    | some w =>
      if t.prim.output == w.output then s.publish slot t
      else
        let st := s.stat t.inst
        let s1 := (s.discardItem slot).setStat t.inst { st with mismatch := satInc st.mismatch }
        (s1.logEvent 0x10 t.inst 2 slot).failQuery t.ctx 0x0402

/-- COMMIT (R118, R69): once every codec and digest job of the item has its record. The core continues at the dispatch loop. -/
def State.commit (s : State) (slot : Nat) : State :=
  match s.item? slot with
  | none => s
  | some t =>
    match t.runs.findSome? (fun r => match r.state with
      | .committing c => some c
      | _ => none) with
    | none => s
    | some c => if s.hasJobs slot then s else (s.coreLoop c).commitItem slot t

/-! ## Core faults -/

/-- A run requeued from its first phase (R121 step 4, R126): flags, mask and phase 0, the same words and lease. A mirrored item's held or running twin
keeps its state. -/
def State.requeue (s : State) (slot : Nat) (t : Item) (twin : Bool) (count : Bool) : State :=
  let t1 := ({ t with flags := 0, mask := 0, phase := 0, waitall := false, replays := if count then t.replays + 1 else t.replays, stamp := s.now,
                      isParked := false, parked := none, replay := some s.hg.nextReplay, draining := t.draining.filter (fun b => b != twin) }).setRun twin (Run.fresh (t.run twin).lease)
  let s1 := s.setItem slot t1
  let st := s1.stat t.inst
  let s2 := s1.setStat t.inst { st with replay := if count then satInc st.replay else st.replay }
  { s2 with hg := { s2.hg with nextReplay := s2.hg.nextReplay + 1 } }

/-- What a faulted run has staged is discarded (R121 step 2), and its jobs with it (R68). -/
def State.dropStaged (s : State) (slot : Nat) (t : Item) (twin : Bool) : State :=
  let s1 := ((s.dropJobs (fun b => b.slot == some slot && b.twin == twin)).voidParcels t.ctx slot).unstage (t.run twin).posts
  s1.setItem slot (({ t with draining := t.draining ++ [twin] }).setRun twin { Run.fresh (t.run twin).lease with lastCore := none })

/-- R121 steps 1 and 2 for the run a core was on, or its end when it may not be replayed (R122). -/
def State.faultRun (s : State) (c : Nat) : State :=
  match (s.core c).item with
  | none => s
  | some (slot, twin) =>
    let s1 := s.setCore c { s.core c with item := none }
    match s1.item? slot with
    | none => s1
    | some t =>
      if (s1.query? t.ctx).any (fun q => q.status.isSome) && t.append.isNone then s1.discardItem slot
      else if 2 ≤ t.replays + t.draining.length || !t.replayable then s1.failItem slot t 0x0701
      else s1.dropStaged slot t twin

/-- A started append that has not landed, or a started query, ends with NO_CORE (R122 step 1). -/
def State.endNoCore (i : Nat) (s : State) (c : Cmd) : State :=
  match c.work with
  | .append _ => s.complete i c.no 0x0702 0
  | .query ctx => (((s.failQuery ctx 0x0702).discardItems (fun t => t.ctx == ctx && t.append.isNone)).endQuery ctx)
  | _ => s

/-- The last in-service core of a cluster is lost (R123): parked items there start again, and queries with buffers there end with NO_CORE. -/
def State.clusterLost (s : State) (i cl : Nat) : State :=
  let s1 := (s.hg.items.filter (fun e => e.2.inst == i && e.2.parked == some cl)).foldl (fun (t : State) (e : Nat × Item) =>
    let u := t.dropStaged e.1 e.2 false
    match u.item? e.1 with
    | some x => u.requeue e.1 x false false
    | none => t) s
  (s1.hg.queries.filter (fun e => e.2.inst == i && e.2.clusters.contains cl && decide (0 < imgExchs e.2.code))).foldl (fun (t : State) (e : Nat × Query) =>
    t.failQuery e.1 0x0702) s1

/-- A query core's fault as Headgate takes it (R121 steps 1 and 2, R122, R123), with its event and HGFAULT (R392, R405). -/
def State.coreFault (s : State) (c : Nat) : State :=
  if s.hg.oos.contains c then s else
  let s0 := { s with hg := { s.hg with oos := c :: s.hg.oos } }
  let s1 := ((s0.setCore c (s0.core c).halt).svEdge 3).logEvent 0x01 ((instOfCore s.hi.n c).getD 0xFF) 1 c
  let s2 := s1.faultRun c
  match instOfCore s.hi.n c with
  | none => s2
  | some i =>
    if (s2.liveCores i).isEmpty then
      ((s2.inst i).cmds.foldl (State.endNoCore i) s2).settleNoCore i
    else if (s2.liveClusters i).contains (clusterOf c) then s2 else s2.clusterLost i (clusterOf c)

/-- REPLAY_REQUEUE (R121 steps 3 and 4, R126), of the run that faulted first: once the codec and the digest engines hold no job of the run. -/
def State.replay (s : State) (slot : Nat) : State :=
  match s.item? slot with
  | none => s
  | some t => match t.draining with
    | [] => s
    | twin :: _ =>
      if s.hasJobs slot && !t.mirror then s
      else if (s.query? t.ctx).any (fun q => q.status.isSome) && t.append.isNone then s.discardItem slot
      else s.requeue slot t twin true

/-! ## The Distributary network -/

/-- Local cluster of a partition key (R91, R218). -/
def localCluster (n c k : Nat) : Nat := if n = 8 ∧ c = 2 then 3 * k / 2 ^ 17 else k * c / 2 ^ 16

/-- Pool bytes before buffer b of exchange x, from the start of the query's pool reservation (log entry 24). -/
def bufOff (code : List Byte) (x b : Nat) : Nat :=
  ((List.range x).map (fun y => exBufs (exchEnt code y) * exBytes (exchEnt code y))).sum + b * exBytes (exchEnt code x)

def Parcel.inBuf (p : Parcel) (x cl b : Nat) : Bool := p.exch == x && p.cl == cl && p.buf == b

/-- The 256 B of a parcel (R92). -/
def Parcel.bytes (p : Parcel) (next : Nat) : List Byte :=
  slice (leBytes 2 p.slot ++ leBytes 1 p.state ++ leBytes 1 p.tuples.length ++ leBytes 4 p.seq ++ leBytes 8 next ++ List.replicate 16 0
    ++ p.tuples.flatten) 0 256

/-- Where the next parcel of a buffer goes: after its parcels while it has room, then in the arena; none when neither has (R92). -/
def Query.parcelPlace (q : Query) (x cl b : Nat) : Option (Bool × Nat) :=
  let mine := q.parcels.filter (fun p => p.inBuf x cl b)
  let used := 256 * mine.length
  if !mine.any (fun p => p.spilled) && decide (used + 256 ≤ exBytes (exchEnt q.code x)) then
    some (false, (SMap.get q.poolBase 0 (q.clusters.getD cl 0)) + bufOff q.code x b + used)
  else
    let taken := q.used.foldl (fun l y => insertRegion (y.da, 4096 * y.pages) l) q.spills
    (firstFit 256 256 (q.arenaDa + q.leaseNeed) q.arenaDa taken).map (fun a => (true, a))

/-- One tuple delivered (R91, R92): into the sender's open parcel of its buffer, or a new one; a full arena ends the query with OUT_OF_SPACE.
The sender's count SEQ begins at 0 (DESIGN CHOICE, log entry 120). -/
def State.sendTuple (ctx slot x : Nat) (s : State) (tuple : List Byte) : State :=
  match s.query? ctx, s.item? slot with
  | some q, some t =>
    if q.status.isSome then s else
    let e := exchEnt q.code x
    let k := fieldLE tuple 0 2
    let cl := localCluster s.hi.n q.clusters.length k
    let b := k % exBufs e
    let s1 := s.setItem slot (t.setRun false { t.prim with sent := t.prim.sent + 1 })
    let isMine := fun (p : Parcel) => p.inBuf x cl b && p.slot == slot && p.state == 0 && decide (p.tuples.length < 224 / exTuple e)
    let cluster := q.clusters.getD cl 0
    match q.parcels.find? isMine with
    | some p =>
      let p1 := { p with tuples := p.tuples ++ [tuple] }
      let s2 := s1.putParcel q.inst cluster p 3 [BitVec.ofNat 8 p1.tuples.length]
      (s2.putParcel q.inst cluster p (32 + exTuple e * p.tuples.length) tuple).setQuery ctx
        { q with parcels := q.parcels.map (fun y => if y = p then p1 else y) }
    | none =>
      match q.parcelPlace x cl b with
      | none => s1.failQuery ctx 0x0301
      | some (spilled, addr) =>
        let p : Parcel := { exch := x, cl := cl, buf := b, slot := slot, state := 0, seq := t.prim.sent, tuples := [tuple], spilled := spilled, addr := addr }
        let s2 := (s1.putParcel q.inst cluster p 0 (p.bytes 0)).setQuery ctx { q with parcels := q.parcels ++ [p] }
        if !spilled then s2 else
        let mine := q.parcels.filter (fun y => y.inBuf x cl b)
        match ((mine.filter (fun y => y.spilled)).getLast?).or mine.head? with
        | some y => s2.putParcel q.inst cluster y 8 (leBytes 8 (devBase + addr))
        | none => s2
  | _, _ => s

/-- Tuples sent by an item in order. -/
def State.sendTuples (s : State) (slot x : Nat) (size : Nat) (bs : List Byte) : State :=
  match s.item? slot with
  | none => s
  | some t =>
    let s1 := s.addAct t.inst (fun a => { a with dist := a.dist + bs.length })
    (chunk size (bs.length / size) bs).foldl (State.sendTuple t.ctx slot x) s1

/-! ## Flume extension -/

/-- FLUME_EXTEND (R120): when every in-service core of the instance is stalled in POST, DSEND or WDSEND and one waits on a full flume, each full flume
gains an arena page; without a free page the query ends with OUT_OF_SPACE. -/
def extendOne (s : State) (f : Nat) : State :=
  match s.flume? f with
  | none => s
  | some x => if !x.full then s else
    match s.query? x.ctx with
    | none => s
    | some q => match q.grant 1 with
      | some (some l, q1) =>
        let s1 := (s.setQuery x.ctx q1).setFlume f { x with pages := l.da :: x.pages }
        { s1 with hg := { s1.hg with flspill := satInc s1.hg.flspill } }
      | _ => s.failQuery x.ctx 0x0301

def stalledSend (k : Core) : Bool :=
  match k.act with
  | .stalled _ (.post _ _ _) => true
  | .stalled _ (.send _ _ _) => true
  | _ => false

/-- The item that a core runs. -/
def State.runOf (s : State) (c : Nat) : Option (Nat × Bool × Item) :=
  match (s.core c).item with
  | none => none
  | some (slot, twin) => (s.item? slot).map (fun t => (slot, twin, t))

/-- Hardware flume of an item's output selection (R110). -/
def Item.output (t : Item) (sel : Bool) : Option Nat :=
  let w := t.w4.toNat / (if sel then 2 ^ 16 else 1)
  if w.testBit 12 then some (w % 4096) else none

/-- Has the item's query failed, so that nothing of it will be published (R84)? -/
def State.doomed (s : State) (t : Item) : Bool := (s.query? t.ctx).any (fun q => q.status.isSome)

/-- Does a core wait in POST on a flume that is still full? -/
def State.postBlocked (s : State) (c : Nat) : Bool :=
  match (s.core c).act, s.runOf c with
  | .stalled _ (.post sel _ _), some (_, _, t) => !s.doomed t && ((t.output sel).bind s.flume?).any Flume.full
  | _, _ => false

def flumeExtend (s : State) (i : Nat) : State :=
  let live := s.liveCores i
  if live.isEmpty || !live.all (fun c => stalledSend (s.core c)) || !live.any s.postBlocked then s
  else (s.hg.flumes.filter (fun e => e.2.inst == i)).foldl (fun (t : State) (e : Nat × Flume) => extendOne t e.1) s

end Sys2Proof.Machine
end

