-- ==== Sys2Proof/Machine/FlashStore.lean ====
section
/-! DEFINITION. The flash store on its own (spec/12): seals (R336 to R340), checkpoints (R341), lost ranges (R346, R355), die failures and Dry (R344, R345),
read scrub (R348), garbage collection (R349) and the reading of segments back into memory (R350). -/
namespace Sys2Proof.Machine

/-! ## Lost ranges -/

/-- Distance between two row ranges; 0 where they touch or overlap. -/
def rowGap (a : LostEntry) (first rows : Nat) : Nat :=
  if a.firstRow + a.rows < first then first - (a.firstRow + a.rows) else if first + rows < a.firstRow then a.firstRow - (first + rows) else 0

/-- The entry of the same table and column nearest to a range. -/
def nearest (l : List LostEntry) (tbl col first rows : Nat) : Option LostEntry :=
  (l.filter (fun e => e.table == tbl && e.col == col)).foldl (fun (a : Option LostEntry) (e : LostEntry) => match a with
    | none => some e
    | some b => if rowGap e first rows < rowGap b first rows then some e else some b) none

/-- A range entered on page 0x03 (R355). A merged entry stands as the newest, with the new range's cause and time (log entry 29). -/
def Owner.addLost (o : Owner) (e : LostEntry) : Owner :=
  if o.lost.length < 4096 then { o with lost := e :: o.lost } else
  match nearest o.lost e.table e.col e.firstRow e.rows with
  | some b =>
    let lo := min b.firstRow e.firstRow
    let hi := max (b.firstRow + b.rows) (e.firstRow + e.rows)
    { o with lost := { e with firstRow := lo, rows := hi - lo } :: o.lost.erase b }
  | none => { o with lost := e :: o.lost.dropLast, lostDropped := true }

/-- Lost ranges of one finding: page 0x03, FS_LOST_CNT, LOG, FSEVENT and the event (R355, R405). -/
def State.enterLost (s : State) (i : Nat) (es : List LostEntry) : State :=
  match s.owner? i with
  | none => s
  | some o =>
    if es.isEmpty then s else
    let s1 := s.setOwner i (es.foldl Owner.addLost o)
    let s2 := { s1 with flash := { s1.flash with lostCnt := satAdd s1.flash.lostCnt es.length } }
    ((es.foldl (fun (t : State) (_ : LostEntry) => t.vfEvent i 4) s2).svEdge 6).logEvent 0x0B i 2 es.length

/-! ## Seals -/

/-- SEAL_INTERVAL_EXPIRY (R338, R339): the oldest unsealed block has waited 1 s. -/
def execSealIntervalExpiry (i : Nat) (s : State) : Res :=
  if 24 ≤ i then .fault .noSuchUnit else
  match s.owner? i with
  | none => .next s
  | some o =>
    if s.isUp && o.allBlocks.any (fun b => b.isOpen && decide (b.landedTick + 10 ^ 9 ≤ s.now)) then .next (s.dueSeal i) else .next s

/-- One block taken into a segment: its bytes as they lie in memory, none of an uncorrectable line (R340). -/
def sealBlock (i : Nat) (acc : State × List SegBlock) (e : Nat × Nat × Nat) : State × List SegBlock :=
  let (s, out) := acc
  match ((s.owner? i).bind (fun o => o.table? e.1)).bind (fun t => (t.col e.2.1)[e.2.2]?) with
  | none => acc
  | some b =>
    let (d, s1) := match b.da with
      | some da => s.readMem i da b.len
      | none => (none, s)
    (s1, out ++ [{ table := e.1, col := e.2.1, lsn := b.lsn, firstRow := b.firstRow, rows := b.rows, lost := d.isNone,
                   bytes := d.getD (List.replicate b.len 0), gone := false }])

/-- The durable frontier (R337): every block of every append up to it is sealed. -/
def Owner.frontier (o : Owner) : Nat :=
  let open_ := (o.allBlocks.filter (fun b => b.seg.isNone)).map Block.lsn
  max o.dur (open_.foldl (fun a l => min a (l - 1)) (o.nextLsn - 1))

/-- A new frontier: appends it covers wait no more; those with a lost block wait for a FLUSH to report it (R338). -/
def Owner.setDur (o : Owner) (d : Nat) : Owner :=
  let isBad := fun (l : Nat) => o.allBlocks.any (fun b => b.lsn == l && b.lost)
  { o with dur := d, origins := o.origins.filter (fun e => decide (d < e.1)),
           bad := o.bad ++ o.origins.filter (fun e => decide (e.1 ≤ d) && isBad e.1) }

/-- Free slots by rising erase count (R347). -/
def Flash.byWear (f : Flash) : List Nat → List Nat
  | [] => []
  | x :: xs =>
    let l := f.byWear xs
    let w := fun (n : Nat) => SMap.get f.erases 0 n
    (l.takeWhile (fun y => decide (w y < w x))) ++ x :: l.dropWhile (fun y => decide (w y < w x))

/-- The next `n` slots in the order in which segments take them (R341, R347): those never used, then the least erased. -/
def State.allocOrder (s : State) (n : Nat) : List Nat :=
  let f := s.flash
  ((List.range (min n (s.slotCount - f.nextSlot))).map (f.nextSlot + ·) ++ f.byWear f.freeSlots).take n

/-- A slot taken for a segment. -/
def Flash.takeSlot (f : Flash) (slot : Nat) : Flash := { f with nextSlot := max f.nextSlot (slot + 1), freeSlots := f.freeSlots.filter (fun x => x != slot) }

/-- A segment sealed in a slot, its pages on the dies of `rows` and its two seal pages on those of `seals` (R332, R336). -/
def State.addSegment (s : State) (slot : Nat) (g : Segment) (rows : List (List Nat)) (seals : List Nat) : State :=
  let f := s.flash.takeSlot slot
  { s with flash := { f with sealSeq := f.sealSeq + 1, sealsSince := f.sealsSince + 1, written := f.written + g.runLen,
                             segments := f.segments ++ [{ g with dies := rows, seals := seals.map (fun d => { die := d, good := true }) }] } }

/-- A segment laid out over its stripe rows. -/
def State.layRows (s : State) (slot : Nat) (g : Segment) : State :=
  let r := State.pickRows g.rows s
  let q := r.2.pickDies 2
  q.2.addSegment slot g r.1 q.1

/-- A segment of an owner's blocks under the next SEQ, before its pages are laid out. -/
def State.newSegment (s : State) (i tbl col : Nat) (sup : List Nat) (blocks : List SegBlock) (dur slot : Nat) : Segment :=
  let lsns := blocks.map SegBlock.lsn
  { seq := s.flash.sealSeq + 1, owner := i, table := tbl, col := col, extent := extentOf (blocks.map (fun b => b.bytes.length)).sum blocks.length,
    lsnLo := lsns.foldl min (lsns.headD 0), lsnHi := lsns.foldl max 0, dur := dur, sup := sup, blocks := blocks, slot := slot, scanned := s.now,
    key := (s.slotKey (storeKeySlot i)).getD 0, dies := [], failed := [], seals := [], reads := 0, scrubTick := s.now }

/-- A segment of an owner's blocks sealed in the first of the free slots named; without one nothing is written. -/
def State.writeSegIn (s : State) (slots : List Nat) (i tbl col : Nat) (sup : List Nat) (blocks : List SegBlock) (dur : Nat) : State :=
  match slots with
  | [] => s
  | slot :: _ => s.layRows slot (s.newSegment i tbl col sup blocks dur slot)

/-- A segment of an owner's blocks sealed in the next slot of the allocation order (R336, R341). -/
def State.writeSeg (s : State) (i tbl col : Nat) (sup : List Nat) (blocks : List SegBlock) (dur : Nat) : State :=
  s.writeSegIn (s.allocOrder 1) i tbl col sup blocks dur

/-- SEGMENT_SEALED (R336 to R340): the owner's oldest seal under way completes; it waits while a sweep holds memory (R325) or no slot is free. -/
def segmentSealed (s : State) (i : Nat) : State :=
  match s.flash.jobs.find? (fun j => j.owner == i) with
  | none => s
  | some j =>
    if s.mc.sweep || (s.allocOrder 1).isEmpty then s else
    let s0 := { s with flash := { s.flash with jobs := s.flash.jobs.erase j } }
    let (s1, segs) := j.blocks.foldl (sealBlock i) (s0, [])
    if segs.isEmpty then s1 else
    let seq := s1.flash.sealSeq + 1
    let isLost := fun (t c first : Nat) => segs.any (fun b => b.lost && b.table == t && b.col == c && b.firstRow == first)
    match s1.owner? i with
    | none => s1
    | some o =>
      let mark := fun (y : Owner) (e : Nat × Nat × Nat) => y.modBlock e.1 e.2.1 e.2.2 (fun b =>
        { b with seg := some seq, taken := false, lost := b.lost || isLost e.1 e.2.1 b.firstRow })
      let o1 := j.blocks.foldl mark o
      let dur := o1.frontier
      let s2 := (s1.setOwner i (o1.setDur dur)).writeSeg i j.table j.col j.sup segs dur
      let s3 := s2.addAct i (fun a => { a with fwrite := a.fwrite + (segs.map (fun b => b.bytes.length)).sum })
      let lost := (segs.filter (fun b => b.lost)).map (fun b =>
        ({ table := b.table, col := b.col, cause := 2, firstRow := b.firstRow, rows := b.rows, time := s.tod } : LostEntry))
      ((s3.enterLost i lost).flushCheck i).settleNoCore i

def execSegmentSealed (i : Nat) (s : State) : Res := if 24 ≤ i then .fault .noSuchUnit else if s.isUp then .next (segmentSealed s i) else .next s

/-! ## Checkpoints -/

/-- Segments that a newer one replaces (R349), or of whose blocks the owner holds none any more. -/
def Flash.dead (f : Flash) (g : Segment) : Bool :=
  f.segments.any (fun h => h.sup.contains g.seq) || !(match SMap.find f.owners g.owner with
    | some o => o.allBlocks.any (fun b => b.seg == some g.seq)
    | none => false)

/-- Dead segments go: their slots are erased and free (R347, R349). -/
def Flash.sweep (f : Flash) : Flash :=
  let slots := (f.segments.filter f.dead).map Segment.slot
  { f with segments := f.segments.filter (fun g => !f.dead g), freeSlots := f.freeSlots ++ slots,
           erases := slots.foldl (fun m x => SMap.set m x (SMap.get m 0 x + 1)) f.erases }

/-- The record of a checkpoint (R341, R376, R389). -/
def State.ckptOf (s : State) : Ckpt :=
  let f := s.flash
  { seq := f.sealSeq, durs := f.owners.foldl (fun m e => SMap.set m e.2.no e.2.dur) [], segs := f.segments.map Segment.seq, free := f.freeSlots,
    nextSlot := f.nextSlot, wear := f.erases, order := s.allocOrder 16384, octr := s.keys.octr, scrub := SMap.mapTo s.mc.chans Chan.scrubRow,
    reads := f.segments.map (fun g => (g.seq, g.reads, ((s.now : Int) - g.scrubTick).toNat)), key := s.slotKey (storeKeySlot 31), good := true }

/-- A checkpoint written to the area not written last (R341); the slots whose replacement it records are erased (R349). -/
def State.checkpoint (s : State) : State :=
  let s1 := { s with flash := s.flash.sweep }
  let c := s1.ckptOf
  let f := s1.flash
  ({ s1 with flash := { f with areas := if f.turn = 0 then (f.areas.1, c) else (c, f.areas.2), turn := 1 - f.turn, ckptTick := s.now, sealsSince := 0 } }).addAct 31
    (fun a => { a with fwrite := a.fwrite + Config.ckptBytes f.segments.length })

/-- CHECKPOINT_TIMER (R341): 30 s after the previous one, or 8,192 seals. -/
def execCheckpointTimer (s : State) : Res :=
  if s.isUp && !s.flash.unusable && (decide (s.flash.ckptTick + 30 * 10 ^ 9 ≤ s.now) || decide (8192 ≤ s.flash.sealsSince)) then .next s.checkpoint else .next s

/-! ## Dies and Dry -/

/-- An owner enters Dry (R345): header, STORE_DRY on the instance, the event; its seals under way end and its FLUSHes with them (R270). -/
def State.goDry (s : State) (i : Nat) : State :=
  match s.owner? i with
  | none => s
  | some o =>
    if o.dry then s else
    let s1 := s.setOwner i { (o.mapBlocks (fun b => { b with taken := false })) with dry := true }
    let s2 := { s1 with flash := { s1.flash with jobs := s1.flash.jobs.filter (fun j => j.owner != i) } }
    ((((s2.writeHeader i).vfEvent i 3).svEdge 6).logEvent 0x0C i 2 0).flushCheck i

/-- Owners with data in the rows that a die's pages belong to (R345). -/
def Flash.ownersOn (f : Flash) (d : Nat) : List Nat :=
  ((f.segments.filter (fun g => g.dies.any (fun r => r.contains d))).map Segment.owner).eraseDups

/-- What the reserve cannot hold sends the owners of the affected rows into Dry (R345). -/
def State.reserveOut (s : State) (d : Nat) : State := (s.flash.ownersOn d).foldl State.goDry s

/-- Bytes of the reserve that a die's live pages need (R344): those of its segments' rows and seals. -/
def Flash.liveBytes (f : Flash) (d : Nat) : Nat :=
  pageBytes * (f.segments.map (fun g => (g.dies.map (fun r => r.count d)).sum + (g.seals.filter (fun c => c.die == d)).length)).sum

/-- A die fails whole (R344): out of service, its live pages rebuilt into the reserve; where that cannot hold them, the owners affected enter Dry (R345). -/
def State.failDie (s : State) (d : Nat) : State :=
  if s.flash.dieFail.contains d || (s.part.variant == .c && decide (4 ≤ d % 8)) then s else
  let s1 := (({ s with flash := { s.flash with dieFail := d :: s.flash.dieFail } }).svEdge 6).logEvent 0x09 0xFF 1 d
  let live := s1.flash.liveBytes d
  if s1.flash.reserveUsed + live ≤ s1.reserveBytes then
    { s1 with flash := { s1.flash with rebuild := s1.flash.rebuild ++ [(d, live)], reserveUsed := s1.flash.reserveUsed + live } }
  else s1.reserveOut d

/-- A block of a die fails (R345): the die's own pool replaces it; when that is empty, the stripe rows that used it are remapped into the reserve; when that cannot
hold them, the owners affected enter Dry. -/
def State.failBlock (s : State) (d : Nat) : State :=
  let n := SMap.get s.flash.spare 0 d
  if (n + 1) * Config.nandBlock ≤ sparePool then { s with flash := { s.flash with spare := SMap.set s.flash.spare d (n + 1) } }
  else if s.flash.reserveUsed + 17 * Config.nandBlock ≤ s.reserveBytes then
    { s with flash := { s.flash with reserveUsed := s.flash.reserveUsed + 17 * Config.nandBlock } }
  else s.reserveOut d

/-! ## Losses -/

/-- Does an owner's block come from a segment's entry? -/
def Block.isOf (b : Block) (seq : Nat) (e : SegBlock) : Bool := b.seg == some seq && b.firstRow == e.firstRow && b.lsn == e.lsn

/-- One owner's block of a table and column changed where it is an entry's. -/
def Owner.modOf (o : Owner) (seq : Nat) (e : SegBlock) (f : Block → Block) : Owner :=
  { o with tables := o.tables.map (fun t => if t.id = e.table then
      { t with blocks := t.blocks.modify e.col (fun bs => bs.map (fun b => if b.isOf seq e then f b else b)) } else t) }

/-- A segment changed where it has a SEQ. -/
def State.modSeg (s : State) (seq : Nat) (f : Segment → Segment) : State :=
  { s with flash := { s.flash with segments := s.flash.segments.map (fun g => if g.seq = seq then f g else g) } }

/-- Blocks of a segment with a byte in a lost page are lost, and entered on page 0x03 (R346). -/
def State.losePages (s : State) (g : Segment) (pages : List Nat) : State :=
  match s.owner? g.owner with
  | none => s
  | some o =>
    let hit := (g.placed.filter (fun e => hitsPages pages e.1 e.2.bytes.length)).map (fun e => e.2)
    let live := hit.filter (fun b => ((o.table? b.table).map (fun t => (t.col b.col).any (fun x => x.isOf g.seq b && !x.lost))).getD false)
    let o1 := live.foldl (fun (y : Owner) (b : SegBlock) => y.modOf g.seq b (fun x => { x with lost := true })) o
    let s1 := (s.setOwner g.owner o1).modSeg g.seq (fun h => { h with blocks := h.blocks.map (fun b => if hit.contains b then { b with gone := true } else b) })
    s1.enterLost g.owner (live.map (fun b =>
      ({ table := b.table, col := b.col, cause := 1, firstRow := b.firstRow, rows := b.rows, time := s.tod } : LostEntry)))

def State.seg? (s : State) (seq : Nat) : Option Segment := s.flash.segments.find? (fun g => g.seq == seq)

/-- What two pages down in one row of a segment have lost is found (R346). -/
def State.findLoss (s : State) (seq : Nat) : State :=
  match s.seg? seq with
  | none => s
  | some g => s.losePages g (g.lostPages s.flash.dieFail)

/-- A segment read through (R344, R346, R348): pages found failing their code stay so, the read is counted, and losses are found. -/
def State.readSegment (s : State) (seq : Nat) (bad : List PageAt) : State :=
  (s.modSeg seq (fun g => { g with reads := g.reads + 1, failed := g.failed ++ bad.filter (fun p => !g.failed.contains p) })).findLoss seq

/-- A segment's pages on a die written anew on other dies, a seal copy from the other one where that is good (R344). -/
def State.rehome (s : State) (d seq : Nat) : State :=
  let (live, s1) := s.pickDies 1
  let die := fun (x : Nat) => if x = d then live.headD 0 else x
  s1.modSeg seq (fun g => { g with
    dies := g.dies.map (fun r => r.map die)
    seals := g.seals.zipIdx.map (fun e => if e.1.die = d then
      { die := live.headD 0, good := (g.seals[1 - e.2]?).any (fun c => c.good && !s.flash.dieFail.contains c.die) } else e.1) })

/-- REBUILD_DONE (R344, R346, R405): the losses that the rebuild met are found, and the die's pages stand elsewhere. -/
def execRebuildDone (s : State) : Res :=
  match s.flash.rebuild with
  | [] => .next s
  | (d, n) :: rest =>
    if !s.isUp then .next s else
    let s1 := { s with flash := { s.flash with rebuild := rest } }
    let hit := (s1.flash.segments.filter (fun g => g.dies.any (fun r => r.contains d) || g.seals.any (fun c => c.die == d))).map Segment.seq
    let s2 := hit.foldl (fun (t : State) (q : Nat) => (t.findLoss q).rehome d q) s1
    .next ((s2.addAct 31 (fun a => { a with fwrite := a.fwrite + n })).logEvent 0x0A 0xFF 0 d)

/-! ## Read scrub, garbage collection and reads -/

/-- Live blocks of some segments (R349), in order of table, column and row. -/
def State.liveBlocks (s : State) (o : Owner) (seqs : List Nat) : List SegBlock :=
  let stored := ((s.flash.segments.filter (fun g => seqs.contains g.seq)).map (fun g => g.blocks.map (fun b => (g.seq, b)))).flatten
  (o.tables.map (fun t => (t.blocks.zipIdx.map (fun c => c.1.filterMap (fun b =>
    if b.seg.any (fun q => seqs.contains q) && decide (b.lsn ≤ o.dur) then
      (stored.find? (fun e => e.2.table == t.id && e.2.col == c.2 && b.isOf e.1 e.2)).map (fun e => { e.2 with lost := b.lost, gone := false })
    else none))).flatten)).flatten

/-- Blocks of replaced segments named by the new one; a column's run that is not in memory is one run of the new segment (R38, R349). -/
def Owner.moveTo (o : Owner) (seqs : List Nat) (seq : Nat) : Owner :=
  let mine := fun (b : Block) => b.seg.any (fun q => seqs.contains q)
  let tables := o.tables.zipIdx.map (fun t => { t.1 with blocks := t.1.blocks.zipIdx.map (fun c =>
    let whole := c.1.all (fun b => !mine b || b.da.isNone)
    c.1.map (fun b => if mine b then { b with seg := some seq, run := if whole then o.nextRun + 64 * t.2 + c.2 else b.run } else b)) })
  { o with tables := tables, nextRun := o.nextRun + 64 * o.tables.length }

/-- May segments be rewritten (R349): at most 64 of one owner, none dead, none with a block above DUR. -/
def State.mayCollect (s : State) (i : Nat) (o : Owner) (seqs : List Nat) : Bool :=
  !seqs.isEmpty && decide (seqs.length ≤ 64) && decide (seqs.Nodup) && !o.dry && !(s.allocOrder 1).isEmpty
    && seqs.all (fun q => s.flash.segments.any (fun g => g.seq == q && g.owner == i && !s.flash.dead g))
    && o.allBlocks.all (fun b => !b.seg.any (fun q => seqs.contains q) || decide (b.lsn ≤ o.dur))

/-- Live blocks rewritten (R349): those of up to 64 segments of one owner, as one new segment that supersedes them. -/
def rewrite (s : State) (i : Nat) (seqs : List Nat) : State :=
  match s.owner? i with
  | none => s
  | some o =>
    let ok := s.mayCollect i o seqs
    let live := s.liveBlocks o seqs
    let len := (live.map (fun b => b.bytes.length)).sum
    if !ok || live.isEmpty || decide (segMax < extentOf len live.length) then s else
    let b0 := live.headD { table := 0, col := 0, lsn := 0, firstRow := 0, rows := 0, lost := false, bytes := [], gone := false }
    let one := live.all (fun b => b.table == b0.table && b.col == b0.col)
    let seq := s.flash.sealSeq + 1
    let s1 := (s.setOwner i (o.moveTo seqs seq)).writeSeg i (if one then b0.table else 0xFFFFFFFF) (if one then b0.col else 0xFF) seqs live o.dur
    let turn := fun (q : Nat) => if seqs.contains q then seq else q
    let s2 := { s1 with
      flash := { s1.flash with written := s.flash.written }
      hg := { s1.hg with queries := SMap.mapVals s1.hg.queries (fun _ q => if q.inst = i then
        { q with morsels := q.morsels.map (fun (e : Nat × List Morsel) => (e.1, e.2.map (fun (m : Morsel) => { m with segs := (m.segs.map turn).eraseDups }))) } else q) } }
    s2.addAct 31 (fun a => { a with fread := a.fread + len, fwrite := a.fwrite + len })

/-- GARBAGE_COLLECTION (R346, R349): the segments are read, then their live blocks rewritten. -/
def collect (s : State) (i : Nat) (seqs : List Nat) : State :=
  match s.owner? i with
  | none => s
  | some o => if s.mayCollect i o seqs then rewrite (seqs.foldl (fun t q => t.readSegment q []) s) i seqs else s

def execGarbageCollection (i : Nat) (seqs : List Nat) (s : State) : Res :=
  if 24 ≤ i then .fault .noSuchUnit else if s.isUp then .next (collect s i seqs) else .next s

/-- FLASH_READ_SCRUB (R346, R348): the segment read and stamped; after 50,000 reads, or with a page that is weak or fails its code, it is refreshed. -/
def flashReadScrub (s : State) (seq : Nat) (bad : List PageAt) (weak : Bool) : State :=
  let s1 := (s.readSegment seq bad).modSeg seq (fun g => { g with scrubTick := s.now })
  match s1.seg? seq with
  | none => s
  | some g =>
    let s2 := s1.addAct 31 (fun a => { a with fread := a.fread + g.extent })
    if weak || !g.failed.isEmpty || decide (50000 ≤ g.reads) then rewrite s2 g.owner [seq] else s2

def execFlashReadScrub (r : SegRead) (weak : Bool) (s : State) : Res := if s.isUp then .next (flashReadScrub s r.seq r.bad weak) else .next s

/-- Is a segment wanted by a running query, with blocks of it not in memory (R350)? -/
def State.wanted (s : State) (o : Owner) (g : Segment) : Bool :=
  !o.wholly g.seq && s.hg.queries.any (fun (e : Nat × Query) => e.2.inst == g.owner && e.2.live && e.2.morsels.any (fun m => m.2.any (fun x => x.segs.contains g.seq)))

/-- A run read back: contiguous, in a place of its own (R350). None where the share has no room even after eviction. -/
def placeRun (i seq : Nat) (s : State) (run : List SegBlock) : Option State :=
  match s.room i 64 (run.map (fun b => b.bytes.length)).sum with
  | none => none
  | some (da, s1) =>
    let put := fun (a : Nat × State) (b : SegBlock) =>
      let t := a.2.writeMem i a.1 b.bytes
      (a.1 + b.bytes.length, match t.owner? i with
        | some o => t.setOwner i (o.modOf seq b (fun x => { x with da := some a.1 }))
        | none => t)
    some (run.foldl put (da, s1)).2

/-- Blocks grouped into runs of one table, column and run number. -/
def groupRuns (o : Owner) (seq : Nat) : List SegBlock → List (Nat × List SegBlock)
  | [] => []
  | b :: bs =>
    let r := ((((o.table? b.table).map (fun t => t.col b.col)).getD []).find? (fun x => x.isOf seq b)).map (fun x => x.run)
    match r, groupRuns o seq bs with
    | none, l => l
    | some k, [] => [(k, [b])]
    | some k, (j, g) :: l => if k = j && g.all (fun x => x.table == b.table && x.col == b.col) then (k, b :: g) :: l else (k, [b]) :: (j, g) :: l

/-- Bytes of a segment's block as its owner reads them from flash (R371). -/
def State.segBytes (s : State) (g : Segment) (e : Nat × SegBlock) : List Byte :=
  if s.slotKey (storeKeySlot g.owner) = some g.key then e.2.bytes else g.readAt ((s.slotKey (storeKeySlot g.owner)).getD 0) e.1 e.2.bytes.length

/-- SEGMENT_READ_COMPLETE (R346, R350): losses found, the segment's readable blocks in memory, and queries that name a lost one ended with DATA_LOST. It waits while a
sweep holds memory (R325). -/
def segmentRead (s0 : State) (seq : Nat) (bad : List PageAt) : State :=
  match s0.seg? seq, s0.mc.sweep with
  | some g0, false => match s0.owner? g0.owner with
    | none => s0
    | some o0 =>
      if !s0.wanted o0 g0 then s0 else
      let s := s0.readSegment seq bad
      match s.seg? seq, s.owner? g0.owner with
      | some g, some o =>
        let want := (g.placed.filter (fun e => (((o.table? e.2.table).map (fun t => t.col e.2.col)).getD []).any (fun x => x.isOf seq e.2 && !x.lost && x.da.isNone))).map
          (fun e => { e.2 with bytes := s.segBytes g e })
        match (groupRuns o seq want).foldlM (fun (t : State) (r : Nat × List SegBlock) => placeRun g.owner seq t r.2) s with
        | none => s
        | some s1 =>
          let s3 := s1.addAct g.owner (fun a => { a with fread := a.fread + g.extent })
          let lost := fun (q : Query) => o.tables.any (fun t => t.blocks.zipIdx.any (fun c => c.1.any (fun b => b.seg == some seq && b.lost && q.names t.id c.2 b)))
          (s3.hg.queries.filter (fun (e : Nat × Query) => e.2.inst == g.owner && lost e.2)).foldl (fun (t : State) (e : Nat × Query) => t.failQuery e.1 0x0401) s3
      | _, _ => s
  | _, _ => s0

def execSegmentReadComplete (r : SegRead) (s : State) : Res := if s.isUp then .next (segmentRead s r.seq r.bad) else .next s

end Sys2Proof.Machine
end

