-- ==== Sys2Proof/Machine/MemCtl.lean ====
section
/-! DEFINITION. The memory controllers on their own: training and re-sweep (spec/11 R324, R325), refresh, temperature and power states (R311, R321, R322),
patrol scrub (R326), and the loss of a channel (R328). -/
namespace Sys2Proof.Machine

/-! ## Sweeps -/

/-- MC_EYE_c_k (R331). -/
def eyeWord (e : Eye) : W32 :=
  let wide := fun (lo hi : BitVec 6) => decide (lo.toNat ≤ hi.toNat) && decide (12 ≤ hi.toNat - lo.toNat + 1)
  BitVec.ofNat 32 (e.rdLo.toNat + e.rdHi.toNat * 2 ^ 8 + e.wrLo.toNat * 2 ^ 16 + e.wrHi.toNat * 2 ^ 24
    + (if wide e.rdLo e.rdHi && wide e.wrLo e.wrHi then 2 ^ 31 else 0))

/-- Does a lane of a controller pass? A lane that the sweep's result does not list passed at no step (R324). -/
def lanePass (eyes : List Eye) (c k : Nat) : Bool := (eyes.find? (fun e => e.ctl == c && e.k == k)).any (fun e => (eyeWord e).getLsbD 31)

/-- The delay that a swept lane gets, from the ends of its eye (R324). -/
def eyeDelay (lo hi : BitVec 6) : Nat := (lo.toNat + hi.toNat) / 2

/-- A controller after a sweep: every lane's eye recorded, its delays set where it has one, in service (R324). -/
def Ctl.swept (x : Ctl) (eyes : List Eye) (c : Nat) : Ctl :=
  let lane := fun (k : Nat) => eyes.find? (fun e => e.ctl == c && e.k == k)
  { x with
      inserv := true
      trainFail := !(List.range 16).all (lanePass eyes c)
      eyes := (List.range 16).filterMap (fun k => (lane k).map (fun e => (k, eyeWord e)))
      delays := (List.range 16).filterMap (fun k => (lane k).map (fun e => (k, eyeDelay e.rdLo e.rdHi, eyeDelay e.wrLo e.wrHi))) }

/-- The end of a sweep: every controller in use has its eyes and serves, and a channel with a failing lane is lost (R324, R328). Lanes of an excluded
package have none (R329). -/
def endSweep (s : State) (eyes : List Eye) : State :=
  let on := (List.range 24).filter (fun c => c != s.mc.exclNow)
  let s1 := on.foldl (fun (t : State) (c : Nat) => t.setCtl c ((t.ctl c).swept eyes c)) s
  let failed := s.chanList.filter (fun ch => !(List.range 4).all (fun j => lanePass eyes (ch / 4) (4 * (ch % 4) + j)))
  let s2 := failed.foldl State.stopChan s1
  { s2 with mc := { s2.mc with trained := true, sweep := false } }

/-- MEMORY_SWEEP_DONE (R324): the start-up sweep ends in TRAIN. -/
def execMemorySweepDone (eyes : List Eye) (s : State) : Res :=
  if s.pw.state == .train && s.mc.sweep then .next (endSweep s eyes) else .next s

/-- A write of 1 to MC_CTL.RESWEEP (R325). -/
def resweep (s : State) : State :=
  let quiet := s.instList.all (fun i => match (s.inst i).state with
    | .none => true
    | .stopped => true
    | _ => false)
  if quiet && !s.sl.act && s.sl.test == .idle then { s with mc := { s.mc with sweep := true, sweepStart := s.now } }
  else { s with mc := { s.mc with reject := true } }

/-- A tick moved on by the time from `from` on, which does not count (R392, R393). -/
def State.past (s : State) (start t : Nat) : Nat := t + (s.now - max t start)

/-- Progress monitors and unit watchdogs after a re-sweep that began at `start`: its time does not count. -/
def State.resumeRuns (s : State) (start : Nat) : State :=
  { s with
    cores := SMap.mapVals s.cores (fun _ k => { k with progress := s.past start k.progress })
    codec := { s.codec with units := SMap.mapVals s.codec.units (fun _ x => { x with runTick := s.past start x.runTick }) }
    dg := { s.dg with engines := SMap.mapVals s.dg.engines (fun _ x => { x with runTick := s.past start x.runTick }) } }

/-- RESWEEP (R325). -/
def execResweep (s : State) : Res := if s.isUp then .next (resweep s) else .next s

/-- RESWEEP_DONE (R325): no stored byte has changed, and what waited goes on. -/
def execResweepDone (eyes : List Eye) (s : State) : Res :=
  if s.isUp && s.mc.sweep then .next ((endSweep s eyes).resumeRuns s.mc.sweepStart) else .next s

/-! ## Ranks -/

/-- Does a channel's controller work on it? Not while it is lost, excluded (R329) or suspended by a sweep. -/
def State.chanRuns (s : State) (ch : Nat) : Bool := s.mc.trained && !s.mc.sweep && !s.chanDown ch && ch / 4 != s.mc.exclNow

/-- The refresh interval in force, in ns (R321, R322). -/
def Rank.interval (x : Rank) : Nat := if x.half then 1953 else 3906

/-- REFRESH (R321): due, and the device does not refresh itself. -/
def execRefresh (ch rank : Nat) (s : State) : Res :=
  if 96 ≤ ch ∨ 2 ≤ rank then .fault .noSuchUnit else
  let x := s.rank ch rank
  if s.chanRuns ch && x.power != .selfRefresh && decide (x.refTick + x.interval ≤ s.now) then
    .next (s.setRank ch rank { x with refs := x.refs + 1, refTick := s.now })
  else .next s

/-- TEMP_READOUT (R321): every 16 ms of an awake rank. -/
def execTempReadout (ch rank : Nat) (cls : TempClass) (s : State) : Res :=
  if 96 ≤ ch ∨ 2 ≤ rank then .fault .noSuchUnit else
  let x := s.rank ch rank
  if s.chanRuns ch && x.power == .awake && decide (x.mrTick + 16 * 10 ^ 6 ≤ s.now) then
    let s1 := s.setRank ch rank { x with cls := cls, half := cls != .cool, mrTick := s.now }
    let h := s1.chan ch
    if cls == .hot then
      let c := s1.ctl (ch / 4)
      let s2 := (s1.setCtl (ch / 4) { c with throt := if h.throttle then c.throt else satInc c.throt }).setChan ch { h with throttle := true, cools := 0 }
      .next ((s2.svEdge 5).logEvent 0x07 0xFF 1 ch)
    else .next (s1.setChan ch { h with cools := h.cools + 1, throttle := h.throttle && decide (h.cools + 1 < 2) })
  else .next s

/-- ZQ_LATCH (R311): every 1 ms of an awake rank, from READY on (R389). -/
def execZqLatch (ch rank : Nat) (s : State) : Res :=
  if 96 ≤ ch ∨ 2 ≤ rank then .fault .noSuchUnit else
  let x := s.rank ch rank
  if s.isUp && s.chanRuns ch && x.power == .awake && decide (x.zqTick + 10 ^ 6 ≤ s.now) then .next (s.setRank ch rank { x with zqTick := s.now }) else .next s

/-- POWER_DOWN_ENTRY (R322). -/
def execPowerDownEntry (ch rank : Nat) (s : State) : Res :=
  if 96 ≤ ch ∨ 2 ≤ rank then .fault .noSuchUnit else
  let x := s.rank ch rank
  if s.chanRuns ch && x.power == .awake && s.mc.pdn != 0 && decide (x.idle + s.mc.pdn.toNat ≤ s.now) then
    .next (s.setRank ch rank { x with power := .powerDown })
  else .next s

/-- SELF_REFRESH_ENTRY (R322). -/
def execSelfRefreshEntry (ch rank : Nat) (s : State) : Res :=
  if 96 ≤ ch ∨ 2 ≤ rank then .fault .noSuchUnit else
  let x := s.rank ch rank
  if s.chanRuns ch && x.power != .selfRefresh && s.mc.sref != 0 && decide (x.idle + 1000 * s.mc.sref.toNat ≤ s.now) then
    .next (s.setRank ch rank { x with power := .selfRefresh })
  else .next s

/-! ## Scrub and loss -/

/-- Passes that every channel in use has made (MC_SCRUB_PASSES). -/
def State.scrubPasses (s : State) : Nat := (s.chanList.map (fun ch => (s.chan ch).passes)).foldl min (2 ^ 32 - 1)

/-- A row read for its check (R276, R326): corrected and written back, uncorrectable lines recorded. -/
def State.checkRow (s : State) (ch r : Nat) : State :=
  let (bad, s1) := (s.flushFor ch r).readRow ch r
  bad.foldl (fun (t : State) (j : Nat) => if j < 30 then t.countUe (t.daOf ch r j) ch else t) s1

/-- One row scrubbed (R326). -/
def scrubRow (s : State) (ch : Nat) : State :=
  let h := s.chan ch
  let r := h.scrubRow
  let k := s.rankOf r
  let x := s.rank ch k
  let asleep := x.power == .selfRefresh
  if asleep && (match x.wake with
    | some t => decide (s.now < t + 10 ^ 10)
    | none => false) then s else
  let s1 := if asleep then s.setRank ch k { x with power := .awake, half := true, wake := some s.now } else s
  let s3 := s1.checkRow ch r
  let last := r + 1 == 2 ^ 23
  let g := s3.chan ch
  let s4 := (s3.setChan ch { g with scrubRow := if last then 0 else r + 1, passes := if last then g.passes + 1 else g.passes }).addAct 31
    (fun a => { a with mem := a.mem + 2048 })
  { s4 with mc := { s4.mc with passes := BitVec.ofNat 32 s4.scrubPasses } }

/-- PATROL_SCRUB (R326): the next row of a channel, after errors have struck some cells. -/
def execPatrolScrub (ch : Nat) (upsets : List Upset) (s : State) : Res :=
  if 96 ≤ ch then .fault .noSuchUnit else
  let s1 := s.addUpsets ch upsets
  if s.isUp && s.chanRuns ch then .next (scrubRow s1 ch) else .next s1

/-- A channel is lost (R328): it stops, and every RUNNING instance becomes FAILED. -/
def State.loseChan (s : State) (ch : Nat) : State := (s.stopChan ch).settleFailed

end Sys2Proof.Machine
end

