-- ==== Sys2Proof/Machine/SelfTest.lean ====
section
/-! DEFINITION. Self-tests (spec/09 R275 to R280): their pause and end, and the faults of cipher units (spec/13 R374). -/
namespace Sys2Proof.Machine

/-- Does the supervisor pair run (R395)? -/
def State.svUp (s : State) : Bool := (s.core 96).act != .halted || (s.core 97).act != .halted

/-- Test time used so far (R275). -/
def State.testTime (s : State) : Nat := s.sl.testNs + (if s.sl.test = .running then s.now - s.sl.testTick else 0)

/-- A ring fetch, field command or mailbox GO (R277): a running test pauses. -/
def State.pauseTest (s : State) : State :=
  { s with sl := { s.sl with testNs := s.testTime, test := if s.sl.test = .running then .paused else s.sl.test, lastCmd := s.now } }

/-- The test ends with a result on page 0x04, and LOG on instance 0 (R275, R279). -/
def State.endTest (s : State) (result element index : Nat) : State :=
  let e : TestLog := { kind := s.sl.testKind, result := result, element := element, index := index, start := s.sl.testStart, testNs := s.testTime }
  let s1 := { s with sl := { s.sl with log := (e :: s.sl.log).take 20, test := .idle, testKind := 0, testNs := 0 } }
  (s1.vfEvent 0 4).logEvent 0x11 0xFF (if result = 1 then 2 else 0) result

/-- A cipher unit out of service (R374): unit k < 24 of a memory controller, whose channels are lost, or 32 + flash channel, whose dies go. -/
def State.cipherOos (s : State) (k : Nat) : State :=
  if k < 24 then
    let s1 := ({ s with keys := { s.keys with oosMem := k :: s.keys.oosMem } }).logEvent 0x04 0xFF 2 k
    (List.range 4).foldl (fun (t : State) (n : Nat) => t.loseChan (4 * k + n)) s1
  else if 32 ≤ k ∧ k < 64 then
    let s1 := ({ s with keys := { s.keys with oosFlash := (k - 32) :: s.keys.oosFlash } }).logEvent 0x04 0xFF 1 k
    (List.range 8).foldl (fun (t : State) (n : Nat) => t.failDie (8 * (k - 32) + n)) s1
  else s

/-- CHANNEL_LOST (R328): a channel alone, or the cipher unit of a controller, which takes its four (R374). -/
def execChannelLost (l : ChanLoss) (s : State) : Res :=
  match l with
  | .chan ch => if 96 ≤ ch then .fault .noSuchUnit else if !s.engineUp then .next s else .next (s.loseChan ch)
  | .cipher c =>
    if 24 ≤ c then .fault .noSuchUnit else if !s.engineUp || s.keys.oosMem.contains c then .next s else .next (s.cipherOos c)

/-- Does a die exist (R332)? Those with d mod 8 ≥ 4 are absent on YQ96-C. -/
def State.hasDie (s : State) (d : Nat) : Bool := decide (d < 256) && (s.part.variant != .c || decide (d % 8 < 4))

/-- DIE_FAIL (R344, R345): a die, one block of it, or the cipher unit of a flash channel, which takes the channel's dies (R374). -/
def execDieFail (k : DieFault) (s : State) : Res :=
  match k with
  | .whole d => if !s.hasDie d then .fault .noSuchUnit else if !s.engineUp then .next s else .next (s.failDie d)
  | .block d => if !s.hasDie d then .fault .noSuchUnit else if !s.engineUp then .next s else .next (s.failBlock d)
  | .cipher ch =>
    if 32 ≤ ch then .fault .noSuchUnit else if !s.engineUp || s.keys.oosFlash.contains ch then .next s else .next (s.cipherOos (32 + ch))

/-- What a failed element does (R276): a core, unit or engine out of service, rows and segments read with what the test found (R316, R317, R346). -/
def State.testFailed (s : State) (f : TestFail) : State :=
  let index := f.index.toNat
  match f.element.toNat with
  | 1 => if index < 96 then s.coreFault index else s
  | 2 => if index < 48 then codecFault s index else s
  | 3 => if index < 8 then digestFault s index else s
  | 4 => s.cipherOos index
  | 5 => f.upsets.foldl (fun (t : State) (e : Nat × Upset) => if e.1 < 96 ∧ t.chanRuns e.1 = true then (t.addUpsets e.1 [e.2]).checkRow e.1 e.2.row else t) s
  | 6 => ((f.pages.map (fun e => e.1)).eraseDups).foldl (fun (t : State) (q : Nat) => t.readSegment q ((f.pages.filter (fun e => e.1 == q)).map (fun e => e.2))) s
  | _ => s

/-- SELFTEST_END (R275, R276, R279); it waits for the supervisor pair (R395). -/
def execSelftestEnd (failed : Option TestFail) (s : State) : Res :=
  if s.sl.test != .running || !s.isUp || !s.svUp then .next s else
  let s1 := s.addAct 31 (fun a => { a with core := a.core + Config.testWork s.testTime })
  match failed with
  | none => .next (s1.endTest 0 0 0)
  | some f => .next ((s1.testFailed f).endTest 1 f.element.toNat f.index.toNat)

/-- SELFTEST_RESUME (R277): 10 ms with no fetch, field command or GO. -/
def execSelftestResume (s : State) : Res :=
  if s.sl.test == .paused && s.svUp && decide (s.sl.lastCmd + 10 * 10 ^ 6 ≤ s.now) then
    .next { s with sl := { s.sl with test := .running, testTick := s.now } }
  else .next s

end Sys2Proof.Machine
end

