-- ==== Sys2Proof/Machine/Restart.lean ====
section
/-! DEFINITION. What resets of the engine do (spec/08 R248, spec/15 R414, R418, R420), recovery (spec/12 R342, spec/13 R377), and the supervisor-only reset
(spec/08 R228, spec/14 R395). -/
namespace Sys2Proof.Machine

/-- The window registers of an instance's cores and their wide registers (R155, R162, R219). -/
def State.openWindows (s : State) (i : Nat) : State :=
  let w := s.window i
  (coresOf s.hi.n i).foldl (fun (t : State) (c : Nat) =>
    t.setCore c { t.core c with winLo := BitVec.ofNat 64 w.1, winHi := BitVec.ofNat 64 w.2, w := Vector.replicate 16 0 }) s

/-- A module state entered: PW_ALERT.STATE (R427). -/
def State.enter (s : State) (st : PwState) : State :=
  { s with pw := { s.pw with state := st, alert := if s.pw.state = st then s.pw.alert else s.pw.alert ||| 1 } }

/-- An instance across a reset of the module: none of its rings is left; one that was RUNNING is RESETTING (R247). -/
def Inst.restart (x : Inst) : Inst := { Inst.reset with state := if x.state = .running then .resetting else x.state }

/-- The engine's volatile state gone (R248): commands, items, images, memory, keys, registers. What flash holds stays, with the host's memory, and stored
settings; links are down and sessions are over without a frame (R295 reason 8). A self-test has ended (R278). -/
def State.clearEngine (s : State) : State :=
  { s with
    hi := { Hi.reset with n := s.hi.n, split := s.hi.split, splitNext := s.hi.splitNext, mem := s.hi.mem },
    insts := SMap.mapVals s.insts (fun _ x => x.restart),
    sl := { Sluice.reset with test := if s.sl.test = .idle then .idle else .ended, testKind := s.sl.testKind, testStart := s.sl.testStart,
                              testNs := s.testTime, log := s.sl.log, revision := s.sl.revision },
    hg := Hg.reset, cores := [], pools := [], codec := Codec.reset, dg := Digest.reset,
    keys := { Keys.reset with octr := s.keys.octr },
    mc := { Mc.reset with bankx := s.mc.bankx, bankxNow := s.mc.bankxNow, exclNow := s.mc.exclNow, exclNext := s.mc.exclNext },
    flash := { s.flash with ready := false, unusable := false, jobs := [], lostCnt := 0 },
    fp := Fp.reset,
    tl := { Tl.reset with pace := s.tl.pace, evSeq := s.tl.evSeq, evShown := s.tl.evSeq, log := s.tl.log, mark := s.now, spTick := s.now }
    pw := { s.pw with hot := none, cool := none, plateHot := none, plateCool := none } }

/-- Stored settings that take effect at power-on and PERST# (R221, R329, R331), with PW_SETPT at PREP (R421). -/
def State.applyStored (s : State) : State :=
  let cap := if s.pw.plateCap then .still else s.pw.junctionCap
  let lower := fun (a b : Setpoint) => if a = .still ∨ b = .still then .still else if a = .flow ∨ b = .flow then .flow else .spate
  let sp := lower (lower s.pw.boot (if s.pw.forced then .still else .spate)) cap
  { s with
    hi := { s.hi with split := s.hi.splitNext },
    mc := { s.mc with bankxNow := s.mc.bankx, exclNow := s.mc.exclNext },
    pw := { s.pw with req := s.pw.boot, cur := sp, target := sp, changing := false, prepDone := false, quiescing := false } }

/-- The engine held in reset, as by a loss of power (R414, R418). -/
def State.stopEngine (s : State) : State :=
  let t := s.clearEngine
  { t with pw := { t.pw with changing := false, prepDone := false, quiescing := false } }

/-- PREP from STANDBY (R418, R424): the tick counter is 0. -/
def State.powerOn (s : State) : State :=
  let s1 := s.clearEngine
  let s2 := (({ s1 with pw := { s1.pw with tick := 0, frac := 0, lastRst := 1 }, tl := { s1.tl with mark := 0, spTick := 0 } }).applyStored).enter .prep
  if s2.pw.seqLogged then s2 else { (s2.logEvent 0x16 0xFF 2 s2.pw.seqFault.toNat) with pw := { s2.pw with seqLogged := true } }

/-- PREP by PERST# (R418, R424): the tick counter goes on. -/
def State.perstReset (s : State) : State :=
  let s1 := { s with pw := { s.pw with lastRst := 2 } }
  (s1.clearEngine.applyStored).enter .prep

/-- HOLD after a violation or a trip (R414, R418). A violation found in HOLD resets nothing anew, so LASTRST stays (R420). -/
def State.hold (s : State) (cause : Nat) : State :=
  let s1 := (if s.engineUp then s.stopEngine else s).enter .hold
  { s1 with pw := { s1.pw with lastRst := if s.pw.state = .hold then s.pw.lastRst else cause } }

/-! ## Recovery -/

/-- What recovery finds damaged on flash stays so: digests that do not check (R335, R341, R343). -/
def Flash.damage (f : Flash) (areas : List Nat) (d : Damage) : Flash :=
  { f with
    areas := ({ f.areas.1 with good := f.areas.1.good && !areas.contains 0 }, { f.areas.2 with good := f.areas.2.good && !areas.contains 1 })
    headers := SMap.mapVals f.headers (fun i l => l.zipIdx.map (fun e => { e.1 with good := e.1.good && !d.headers.contains (i, e.2) }))
    segments := f.segments.map (fun g => { g with seals := g.seals.zipIdx.map (fun e => { e.1 with good := e.1.good && !d.seals.contains (g.seq, e.2) }) }) }

/-- Is an area or a header copy valid to the supervisor store key (R341, R372)? One of a new module is written under none. -/
def State.metaValid (s : State) (good : Bool) (key : Option W512) : Bool := good && (key.isNone || key == s.slotKey (storeKeySlot 31))

/-- Step 1 of R342: the valid checkpoint area with the higher SEQ, and which it is. -/
def State.pickCkpt (s : State) : Option (Nat × Ckpt) :=
  let (a, b) := s.flash.areas
  match s.metaValid a.good a.key, s.metaValid b.good b.key with
  | true, true => if a.seq < b.seq ∨ (a.seq = b.seq ∧ s.flash.turn = 1) then some (1, b) else some (0, a)
  | true, false => some (0, a)
  | false, true => some (1, b)
  | false, false => none

/-- The header that recovery uses (R343): the valid copy of the higher generation. -/
def State.headerOf (s : State) (i : Nat) : Option Header :=
  ((SMap.get s.flash.headers [] i).filter (fun h => s.metaValid h.good h.key)).foldl (fun (a : Option Header) (h : Header) => match a with
    | none => some h
    | some g => if g.gen < h.gen then some h else some g) none

/-- Blocks of a column that kept segments hold, at or below DUR (R342 step 4); none in memory. -/
def recoverBlocks (segs : List Segment) (dur tbl col : Nat) : List Block :=
  (segs.map (fun g => (g.blocks.filter (fun b => b.table == tbl && b.col == col && decide (b.lsn ≤ dur))).map (fun b =>
    ({ lsn := b.lsn, rows := b.rows, firstRow := b.firstRow, len := b.bytes.length, da := none, lost := b.lost || b.gone, landedTick := 0, seg := some g.seq,
       run := g.seq, taken := false } : Block)))).flatten

/-- Blocks in order of their first row. -/
def sortRows : List Block → List Block
  | [] => []
  | b :: bs =>
    let l := sortRows bs
    l.takeWhile (fun x => decide (x.firstRow < b.firstRow)) ++ b :: l.dropWhile (fun x => decide (x.firstRow < b.firstRow))

def recoverTable (segs : List Segment) (dur : Nat) (e : Nat × List ColDef) : Table :=
  let blocks := (List.range e.2.length).map (fun c => sortRows (recoverBlocks segs dur e.1 c))
  { id := e.1, cols := e.2, rows := (blocks.flatten.map (fun b => b.firstRow + b.rows)).foldl max 0, blocks := blocks }

/-- An owner after recovery (R342, R343, R377): what its header records, its kept blocks, DUR and the next LSN. -/
def Owner.recover (o : Owner) (h : Header) (segs : List Segment) (dur runs : Nat) : Owner :=
  { o with no := h.no, nonce := h.nonce, oek := h.oek, gen := h.keyGen, tables := h.schemas.map (recoverTable segs dur), nextTable := h.nextTable, dry := h.dry,
           dur := dur, nextLsn := dur + 1, nextRun := max o.nextRun runs, origins := [], bad := [] }

/-- Step 2 of R342 for one owner (R377): its keys derived, OEK and IK[g] restored. An owner with no valid header has been destroyed (R382; log entry 97). -/
def State.recoverKeys (s : State) (i : Nat) : State :=
  match s.headerOf i with
  | none => { s with flash := { s.flash with owners := SMap.erase s.flash.owners i, headers := SMap.erase s.flash.headers i } }
  | some h =>
    let u := s.ownerKeys i h.nonce
    match h.oek with
    | some k => u.enrolKeys i k h.keyGen.toNat
    | none => u

/-- Does step 3 of R342 read a segment's seals: one in the allocation order of the checkpoint, sealed since? -/
def Ckpt.scans (c : Ckpt) (g : Segment) : Bool := decide (c.seq < g.seq) && c.order.contains g.slot

/-- Seal copies that step 3 of R342 reads and whose digest fails (R373). -/
def State.sealFails (s : State) (c : Ckpt) : Nat :=
  ((s.flash.segments.filter c.scans).map (fun g => ((List.range 2).filter (fun k => !g.sealValid ((s.slotKey (storeKeySlot g.owner)).getD 0) k)).length)).sum

/-- Is a segment kept (R342 steps 3 and 4): in the checkpoint's map or found by its scan, present (R336), and of an owner that exists? -/
def State.keeps (s : State) (c : Ckpt) (g : Segment) : Bool :=
  (c.scans g || (decide (g.seq ≤ c.seq) && c.segs.contains g.seq)) && (s.owner? g.owner).isSome
    && g.present s.flash.dieFail ((s.slotKey (storeKeySlot g.owner)).getD 0)

/-- Steps 3 to 5 of R342 under a checkpoint: segments kept and not superseded, each owner's DUR, free slots, OCTR, scrub positions and counts (R389). -/
def State.recoverFrom (s : State) (turn : Nat) (c : Ckpt) : State :=
  let kept := s.flash.segments.filter (s.keeps c)
  let live := (kept.filter (fun g => !kept.any (fun h => h.sup.contains g.seq))).map (fun g => match c.reads.find? (fun e => e.1 == g.seq) with
    | some e => { g with reads := e.2.1, scrubTick := (s.now : Int) - e.2.2 }
    | none => { g with reads := 0, scrubTick := s.now })
  let dur := fun (i : Nat) (h : Header) =>
    ((kept.filter (fun g => g.owner == i && decide (c.seq < g.seq))).map Segment.dur).foldl max (SMap.get c.durs 0 h.no)
  let owners := s.flash.owners.filterMap (fun e => (s.headerOf e.1).map (fun h =>
    (e.1, e.2.recover h (live.filter (fun g => g.owner == e.1)) (dur e.1 h) (s.flash.sealSeq + 1))))
  let next := (live.map (fun g => g.slot + 1)).foldl max c.nextSlot
  let octr := (owners.map (fun e => e.2.no)).foldl max c.octr
  { s with
    flash := { s.flash with turn := turn, owners := owners, segments := live, nextSlot := next, erases := c.wear,
                            freeSlots := (List.range next).filter (fun x => !live.any (fun g => g.slot == x)) }
    keys := { s.keys with octr := octr, sealFail := satAdd s.keys.sealFail (s.sealFails c) }
    mc := { s.mc with chans := c.scrub.foldl (fun m e => SMap.set m e.1 { SMap.get m Chan.reset e.1 with scrubRow := e.2 }) s.mc.chans } }

/-- Recovery (R342): with no valid checkpoint area the store is unusable, and nothing of it is read. -/
def State.recover (s : State) (areas : List Nat) (d : Damage) : State :=
  let s1 := { s with flash := s.flash.damage areas d }
  match s1.pickCkpt with
  | none => { s1 with flash := { s1.flash with unusable := true, owners := SMap.mapVals s1.flash.owners (fun _ o =>
      { o.mapBlocks (fun b => { b with da := none }) with origins := [], bad := [] }) } }
  | some (turn, c) => ((s1.flash.owners.map (fun e => e.1)).foldl State.recoverKeys s1).recoverFrom turn c

/-- TRAIN to RECOVER (R342, R418): links as they trained (in TRAIN they may be up already, R419), recovery, and the log entry of a self-test that the reset ended (R278). -/
def State.startRecovery (s : State) (a b : LinkInfo) (areas : List Nat) (d : Damage) : State :=
  let s1 := { s with hi := { s.hi with linkA := s.hi.linkA.or (some a), linkB := if s.hi.split && !s.pw.perstB then s.hi.linkB.or (some b) else none } }
  let s2 := (s1.recover areas d).enter .recover
  let s3 := if s2.flash.unusable then s2.logEvent 0x13 0xFF 2 0 else s2
  if s3.sl.test == .idle then s3 else s3.endTest 3 0 0

/-- RECOVER to READY (R247, R418, R419): instances STOPPED; QUIESCE written before acts from here on. -/
def State.finishRecovery (s : State) : State :=
  let s1 := s.instList.foldl (fun (t : State) (i : Nat) => ((t.setInst i { Inst.reset with state := .stopped }).reserveIngest i).openWindows i) s
  let s2 := s1.enter .ready
  { s2 with flash := { s2.flash with ready := true, ckptTick := s2.now }, tl := { s2.tl with mark := s2.now }, pw := { s2.pw with quiescing := s2.pw.quiesce } }

/-! ## Supervisor-only reset -/

/-- Both supervisor cores stop; the supervisor's digest jobs in progress are discarded (R367, R395). -/
def State.svStop (s : State) : State :=
  ((s.dropJobs (fun b => decide (96 ≤ b.core))).setCore 96 Core.reset.halt).setCore 97 Core.reset.halt

/-- The pair returns (R395): image checks in progress are reissued (R228, R383). -/
def State.svReturn (s : State) : State :=
  let s1 := (s.setCore 96 Core.reset).setCore 97 Core.reset
  s1.instList.foldl (fun (t : State) (i : Nat) => (t.inst i).cmds.foldl (fun (u : State) (c : Cmd) => match c.work with
    | .image id => match (u.inst i).images.find? (fun m => m.loading && m.id == id) with
      | some m => u.imageCheck i c.no m.da m.bytes.length
      | none => u
    | _ => u) t) s1

end Sys2Proof.Machine
end

