-- ==== Sys2Proof/Machine/Power.lean ====
section
/-! DEFINITION. The PW island (spec/15): rails and sequencing (R413 to R415), start-up states (R418), resets of the supervisor pair (R395, R420), setpoint and
thermal control (R421, R422), the timebase (R424), I²C and alerts (R425 to R428). -/
namespace Sys2Proof.Machine

/-! ## Rails -/

def Power.rail (p : Power) : Rail → RailSt
  | .vaux => p.vaux
  | .vana => p.vana
  | .vio => p.vio
  | .vcore => p.vcore

def Power.setRail (p : Power) (r : Rail) (x : RailSt) : Power :=
  match r with
  | .vaux => { p with vaux := x }
  | .vana => { p with vana := x }
  | .vio => { p with vio := x }
  | .vcore => { p with vcore := x }

/-- Rail number k of R427. -/
def railNo : Rail → Nat
  | .vaux => 0
  | .vana => 1
  | .vio => 2
  | .vcore => 3

/-- Rails before and after one in the order of R413. -/
def earlier : Rail → List Rail
  | .vaux => []
  | .vana => [.vaux]
  | .vio => [.vaux, .vana]
  | .vcore => [.vaux, .vana, .vio]

def later : Rail → List Rail
  | .vaux => [.vana, .vio, .vcore]
  | .vana => [.vio, .vcore]
  | .vio => [.vcore]
  | .vcore => []

/-- A sequencing violation (R414): its bit of PW_SEQ_FAULT, the SEQ alert, the engine held in reset, HOLD. -/
def State.violate (s : State) (bit : Nat) : State :=
  let s1 := s.hold 3
  { s1 with pw := { s1.pw with seqFault := s1.pw.seqFault ||| BitVec.ofNat 32 (2 ^ bit), seqLogged := false,
                               alert := if s1.pw.seqFault = 0 then s1.pw.alert ||| 2 else s1.pw.alert } }

/-- Everything off (R417, R418): the PW island too; BOOT stays in its EEPROM. -/
def vauxLoss (s : State) : State :=
  let t := if s.engineUp then s.stopEngine else s
  { t with pw := { Power.reset with state := .off, vaux := ⟨false, false⟩, boot := s.pw.boot, ga := s.pw.ga, forced := s.pw.forced } }

/-- The PW island starts (R418, R427): RAILS, REQ and the rest at their reset values. -/
def vauxStable (s : State) : State :=
  if s.pw.state = .off then
    { s with pw := { Power.reset with boot := s.pw.boot, req := s.pw.boot, ga := s.pw.ga, forced := s.pw.forced, vana := s.pw.vana, vio := s.pw.vio,
                                      vcore := s.pw.vcore } }
  else { s with pw := { s.pw with vaux := ⟨true, true⟩ } }

/-- VAUX_STABLE (R418). -/
def execVauxStable (s : State) : Res := .next (vauxStable s)

/-- VAUX_LOSS (R417, R418). -/
def execVauxLoss (s : State) : Res := .next (vauxLoss s)

/-- RAIL_RISE (R413, R414): a violation where an earlier rail is not stable, but for rails applied without VAUX. -/
def execRailRise (r : Rail) (s : State) : Res :=
  let s1 := { s with pw := s.pw.setRail r { s.pw.rail r with up := true } }
  if s.pw.state == .off || r == .vaux || (earlier r).all (fun e => (s.pw.rail e).stable) then .next s1
  else .next (s1.violate (railNo r - 1))

/-- RAIL_STABLE (R413, R418): VCORE_IN stable after the others starts PREP. -/
def execRailStable (r : Rail) (s : State) : Res :=
  if !(s.pw.rail r).up then .next s else
  if s.pw.state = .off then .next (if r = .vaux then vauxStable s else s) else
  let s1 := { s with pw := s.pw.setRail r ⟨true, true⟩ }
  if r = .vcore ∧ s.pw.state = .standby ∧ (earlier r).all (fun e => (s.pw.rail e).stable) then .next s1.powerOn else .next s1

/-- RAIL_FALL (R414, R415, R418). -/
def execRailFall (r : Rail) (k : FallKind) (s : State) : Res :=
  let quiet := r == .vcore && s.pw.state == .quiesced
  match k with
  | .limits =>
    let s1 := { s with pw := s.pw.setRail r { s.pw.rail r with stable := false } }
    if s.engineUp && r != .vaux && !quiet then .next (s1.violate (7 + railNo r)) else .next s1
  | .below stays =>
    if r = .vaux then .next (vauxLoss s) else
    let s1 := { s with pw := s.pw.setRail r ⟨false, false⟩ }
    if s.pw.state = .off then .next s1 else
    if quiet then .next (s1.stopEngine.enter .standby) else
    let s2 := if stays && (later r).any (fun e => (s.pw.rail e).up) then s1.violate (3 + railNo r) else s1
    if s.engineUp then .next (s2.violate (7 + railNo r)) else .next s2

/-- HOLD_RELEASE (R414): the three rails have stayed below 10 % for 100 ms. -/
def execHoldRelease (s : State) : Res :=
  if s.pw.state = .hold ∧ s.pw.vana.up = false ∧ s.pw.vio.up = false ∧ s.pw.vcore.up = false then .next (s.enter .standby) else .next s

/-! ## Start-up -/

/-- PREP to TRAIN (R375, R418): keys derived, the memory sweep begins. -/
def State.startTrain (s : State) : State :=
  let t := s.prepKeys.enter .train
  { t with mc := { t.mc with sweep := true, sweepStart := t.now } }

/-- PREP_DONE (R418): with PERST#_A released the module enters TRAIN. -/
def execPrepDone (s : State) : Res :=
  if s.pw.state != .prep then .next s
  else if s.pw.perstA then .next { s with pw := { s.pw with prepDone := true } }
  else .next s.startTrain

/-- TRAIN_DONE (R342, R418): once the sweep is done. -/
def execTrainDone (a b : LinkInfo) (areas : List Nat) (d : Damage) (s : State) : Res :=
  if s.pw.state == .train && s.mc.trained then .next (s.startRecovery a b areas d) else .next s

/-- RECOVER_DONE (R418). -/
def execRecoverDone (s : State) : Res := if s.pw.state = .recover then .next s.finishRecovery else .next s

/-- PERST (R410, R418): PERST#_A asserted. -/
def execPerst (s : State) : Res :=
  let s1 := { s with pw := { s.pw with perstA := true } }
  if s.engineUp then .next s1.perstReset else .next s1

/-- PERST_RELEASE (R418). -/
def execPerstRelease (s : State) : Res :=
  let s1 := { s with pw := { s.pw with perstA := false } }
  if s.pw.state = .prep ∧ s.pw.prepDone = true then .next s1.startTrain else .next s1

/-! ## Quiesce -/

/-- QUIESCE = 1 (R418): fetching and field starts stop; seals fall due for what has landed. -/
def setQuiesce (s : State) : State :=
  let s1 := { s with pw := { s.pw with quiesce := true } }
  if s.pw.state = .ready ∧ s.pw.quiescing = false then
    s1.instList.foldl (fun (t : State) (i : Nat) => t.dueSeal i) { s1 with pw := { s1.pw with quiescing := true } }
  else s1

/-- QUIESCE = 0 (R418). -/
def clearQuiesce (s : State) : State :=
  let s1 := { s with pw := { s.pw with quiesce := false, quiescing := false } }
  if s.pw.state = .quiesced then s1.enter .ready else s1

/-- PW_CTL_QUIESCE (R418). -/
def execPwCtlQuiesce (s : State) : Res := if s.pw.state = .off then .next s else .next (setQuiesce s)

/-- PW_CTL_UNQUIESCE (R418). -/
def execPwCtlUnquiesce (s : State) : Res := if s.pw.state = .off then .next s else .next (clearQuiesce s)

/-- Has an owner landed appends that are still to be sealed? -/
def Owner.unsettled (o : Owner) : Bool := !o.dry && o.allBlocks.any (fun b => b.seg.isNone)

/-- QUIESCE_COMPLETE (R418): no started command is left and every landed append is sealed; what is not falls due. -/
def execQuiesceComplete (s : State) : Res :=
  if s.pw.state != .ready || !s.pw.quiescing || s.instList.any (fun i => (s.inst i).cmds.any (fun c => c.phase == .started)) then .next s
  else if s.flash.owners.any (fun e => e.2.unsettled) then .next (s.instList.foldl (fun (t : State) (i : Nat) => t.dueSeal i) s)
  else .next (s.checkpoint.enter .quiesced)

/-! ## Supervisor-only resets -/

/-- PW_CTL.SVRESET = 1 (R420). -/
def svReset (s : State) : State := if s.engineUp then s.svStop else s

/-- SVRESET (R420). -/
def execSvreset (s : State) : Res := .next (svReset s)

/-- LOCKSTEP_MISMATCH (R395, R405). -/
def execLockstepMismatch (s : State) : Res := if s.engineUp then .next (s.svStop.logEvent 0x0F 0xFF 1 0) else .next s

/-- SUPERVISOR_CORE_FAULT (R189, R420). -/
def execSupervisorCoreFault (c : Nat) (s : State) : Res :=
  if c < 96 ∨ 98 ≤ c then .fault .noSuchUnit else if s.engineUp then .next s.svStop else .next s

/-- SUPERVISOR_RESET_DONE (R228, R395). -/
def execSupervisorResetDone (s : State) : Res := if s.engineUp && !s.svUp then .next s.svReturn else .next s

/-! ## Setpoint and thermal limits -/

def lowerSp (a b : Setpoint) : Setpoint :=
  match a, b with
  | .still, _ => .still
  | _, .still => .still
  | .flow, _ => .flow
  | _, .flow => .flow
  | .spate, .spate => .spate

def spNo : Setpoint → Nat
  | .still => 0
  | .flow => 1
  | .spate => 2

/-- A two-bit setpoint field; 3 is stored as 2 (R427). -/
def spOf (n : Nat) : Setpoint := if n = 0 then .still else if n = 1 then .flow else .spate

/-- The thermal cap (R422). -/
def Power.cap (p : Power) : Setpoint := if p.plateCap then .still else p.junctionCap

/-- The setpoint that the requests call for (R421). -/
def Power.wanted (p : Power) : Setpoint := lowerSp (lowerSp p.req (if p.forced then .still else .spate)) p.cap

/-- SETPT at every query core (R207, R421). -/
def State.setptEdges (s : State) : State := (List.range 96).foldl (fun (t : State) (c : Nat) => t.icEdge c 5) s

/-- A change begins where the setpoint called for differs from that in force and none is under way (R30, R421). -/
def State.updateSetpoint (s : State) : State :=
  if !s.engineUp || s.pw.changing || s.pw.wanted = s.pw.cur then s
  else ({ s with pw := { s.pw with changing := true, target := s.pw.wanted } }).setptEdges

/-- REQ and BOOT written (R421, R427). -/
def setptWrite (s : State) (v : Nat) : State :=
  ({ s with pw := { s.pw with req := spOf (v % 4), boot := spOf (v / 16 % 4) } }).updateSetpoint

/-- PW_SETPT_WRITE (R421). -/
def execPwSetptWrite (v : W32) (s : State) : Res := if s.pw.state = .off then .next s else .next (setptWrite s v.toNat)

/-- SETPOINT_CHANGE_DONE (R30, R400, R421): the latest request then applies. -/
def execSetpointChangeDone (s : State) : Res :=
  if !s.engineUp || !s.pw.changing then .next s else
  let s1 := { s with pw := { s.pw with cur := s.pw.target, changing := false, alert := s.pw.alert ||| 0x10 },
                       tl := { s.tl with idleEst := 45000, quiet := none, spTick := s.now } }
  .next s1.setptEdges.updateSetpoint

/-- FORCE_STILL_EDGE (R421). -/
def execForceStillEdge (low : Bool) (s : State) : Res := .next ({ s with pw := { s.pw with forced := low } }).updateSetpoint

/-- Has a condition held for `ns` ns, from the sample that first showed it (R422; log entry 117)? -/
def State.heldFor (s : State) (since : Option Nat) (ns : Nat) : Bool := since.any (fun t => decide (t + ns ≤ s.now))

/-- Is the thermal cap to be lowered (R422): a junction above 100 °C for 10 ms, the cold plate above 70 °C for 1 s? -/
def State.capDue (s : State) (plate : Bool) : Bool :=
  if plate then !s.pw.plateCap && s.heldFor s.pw.plateHot (10 ^ 9) else s.pw.junctionCap != .still && s.heldFor s.pw.hot (10 ^ 7)

/-- Is it to be raised: a junction at or below 90 °C for 1 s, the cold plate at or below 67 °C for 10 s? -/
def State.releaseDue (s : State) (plate : Bool) : Bool :=
  if plate then s.pw.plateCap && s.heldFor s.pw.plateCool (10 ^ 10) else s.pw.junctionCap != .spate && s.heldFor s.pw.cool (10 ^ 9)

/-- THERMAL_CAP (R422): the junction lowers the cap one step, and its interval starts anew; the cold plate lowers it to Still. -/
def execThermalCap (plate : Bool) (s : State) : Res :=
  if !s.engineUp || !s.capDue plate then .next s else
  let p := if plate then { s.pw with plateCap := true } else { s.pw with junctionCap := spOf (spNo s.pw.junctionCap - 1), hot := some s.now }
  let s1 := ({ s with pw := { p with alert := p.alert ||| 4 } }).updateSetpoint
  .next ((s1.svEdge 1).logEvent 0x14 0xFF 1 (if plate then 1 else 0))

/-- THERMAL_CAP_RELEASE (R422): one step, or the plate's cap. -/
def execThermalCapRelease (plate : Bool) (s : State) : Res :=
  if !s.engineUp || !s.releaseDue plate then .next s else
  let p := if plate then { s.pw with plateCap := false } else { s.pw with junctionCap := spOf (spNo s.pw.junctionCap + 1), cool := some s.now }
  .next (({ s with pw := { p with alert := p.alert ||| 4 } }).updateSetpoint.svEdge 1)

/-- THERMAL_TRIP (R422). -/
def execThermalTrip (s : State) : Res :=
  if !s.engineUp then .next s else
  let s1 := s.hold 4
  .next { s1 with pw := { s1.pw with trip := true, alert := s1.pw.alert ||| 8 } }

/-! ## Timebase -/

/-- The two's complement of an integer in 16 bits, saturating (R427). -/
def sat16 (x : Int) : W16 := BitVec.ofInt 16 (max (-32768) (min 32767 x))

/-- TIME_PPS_EDGE (R424): the third of three well-spaced edges locks; while locked the rate is slewed by at most 100 ppm; a pending time of day applies. -/
def execTimePpsEdge (s : State) : Res :=
  if !s.clocked then .next s else
  let p := s.pw
  let err : Option Int := p.ppsLast.map (fun t => ((s.now - t : Nat) : Int) - 10 ^ 9)
  let near := match err with
    | some e => decide (e.natAbs ≤ 100000)
    | none => false
  let good := if near then p.ppsGood + 1 else 1
  let rate := match err with
    | some e => if p.ppsLock then max (-100000) (min 100000 (p.ratePpb - e)) else p.ratePpb
    | none => p.ratePpb
  let off := match p.todPend with
    | some v => some ((v.toNat : Int) - s.now)
    | none => p.todOff
  .next { s with pw := { p with ppsGood := good, ppsLock := p.ppsLock || decide (3 ≤ good), ppsErr := sat16 (err.getD 0), ppsLast := some s.now, ratePpb := rate,
                                todOff := off, todPend := none } }

/-- PPS_MISSED (R424). -/
def execPpsMissed (s : State) : Res :=
  if !s.clocked then .next s else
  .next { s with pw := { s.pw with ppsLock := false, ppsMissed := min 0x7FFF (s.pw.ppsMissed + 1), ppsGood := 0, ppsLast := none, alert := s.pw.alert ||| 0x20 } }

/-- PW_TOD_SET (R424): at the next edge while locked, else at once. -/
def execPwTodSet (v : W64) (s : State) : Res :=
  if !s.engineUp then .next s
  else if s.pw.ppsLock then .next { s with pw := { s.pw with todPend := some v } }
  else .next { s with pw := { s.pw with todOff := some ((v.toNat : Int) - s.now) } }

/-! ## PW registers -/

def stateNo : PwState → Nat
  | .off => 0
  | .standby => 1
  | .prep => 2
  | .train => 3
  | .recover => 4
  | .ready => 5
  | .quiesced => 6
  | .hold => 7

/-- GLB_ID and GLB_BUILD (R10, R430; log entry 5). -/
def Part.glbId (p : Part) : Nat :=
  0x00960000 + (match p.variant with
    | .a => 0x0100
    | .b => 0x0200
    | .c => 0x0300) + (match p.grade with
    | .s => 0x10
    | .e => 0x20)
def Part.glbBuild (p : Part) : Nat := p.build.toNat * 2 ^ 16 + 0x0101

/-- The identity record (R428). -/
def Part.identRecord (p : Part) : List Byte :=
  let body := leBytes 4 p.glbId ++ leBytes 4 p.glbBuild ++ bytesOf Config.serial ++ bytesOf Config.mfgDay ++ leBytes 2 470 ++ leBytes 2 45 ++ List.replicate 92 0
  body ++ bytesOf (crc32c body)

/-- Word at offset 4k of the PW block (R427). -/
def State.pwWord (s : State) (k : Nat) : Nat :=
  let p := s.pw
  match k with
  | 0 => stateNo p.state + p.vaux.stable.toNat * 2 ^ 4 + p.vana.stable.toNat * 2 ^ 5 + p.vio.stable.toNat * 2 ^ 6 + p.vcore.stable.toNat * 2 ^ 7
      + p.trip.toNat * 2 ^ 8 + (if p.cap = .spate then 0 else 2 ^ 9) + p.perstA.toNat * 2 ^ 10 + p.perstB.toNat * 2 ^ 11 + p.lastRst * 2 ^ 12
  | 1 => p.seqFault.toNat
  | 2 => p.quiesce.toNat
  | 3 => spNo p.req + spNo p.boot * 2 ^ 4 + spNo p.cur * 2 ^ 8 + spNo p.cap * 2 ^ 12 + p.changing.toNat * 2 ^ 16 + p.forced.toNat * 2 ^ 17
  | 4 => p.alert.toNat
  | 5 => p.alertMask.toNat
  | 6 => match p.plate with
    | some d => d.toNat + 2 ^ 16
    | none => 0
  | 7 => p.i2cErr.toNat
  | 8 => p.tick % 2 ^ 32
  | 9 => p.tick / 2 ^ 32 % 2 ^ 32
  | 10 => s.tod % 2 ^ 32
  | 11 => s.tod / 2 ^ 32 % 2 ^ 32
  | 14 => p.ppsLock.toNat + p.ppsMissed * 2 + p.ppsErr.toNat * 2 ^ 16
  | _ => if 32 ≤ k ∧ k < 64 then fieldLE s.part.identRecord (4 * k - 128) 4 else 0

/-- One byte written to the PW block (R425, R427): RW fields store, W1C bits clear, the rest ignores it. -/
def State.pwByte (s : State) (k : Nat) (b : Byte) : State :=
  match k with
  | 0x04 => { s with pw := { s.pw with seqFault := s.pw.seqFault &&& ~~~(b.setWidth 32 &&& 0x77) } }
  | 0x05 => { s with pw := { s.pw with seqFault := s.pw.seqFault &&& ~~~((b.setWidth 32 &&& 7) <<< 8) } }
  | 0x08 =>
    let s1 := if b.getLsbD 0 then setQuiesce s else clearQuiesce s
    if b.getLsbD 1 then svReset s1 else s1
  | 0x0C => setptWrite s b.toNat
  | 0x10 => { s with pw := { s.pw with alert := s.pw.alert &&& ~~~(b.setWidth 32) } }
  | 0x14 => { s with pw := { s.pw with alertMask := b.setWidth 32 &&& 0x3F } }
  | _ => s

/-- A 32-bit write through PF0 BAR0. -/
def State.pwWrite (s : State) (off : Nat) (v : W32) : State :=
  ((bytesOf v).zipIdx).foldl (fun (t : State) (e : Byte × Nat) => t.pwByte (off + e.2) e.1) s

/-- The module's I²C address (R425). -/
def Power.address (p : Power) : Nat := 0x58 + p.ga.toNat

/-- I2C_WRITE (R425): with a good PEC each data byte goes to the next index; without one nothing changes and PW_I2C_ERR counts. -/
def execI2cWrite (addr : BitVec 7) (index : Byte) (data : List Byte) (pecByte : Option Byte) (s : State) : Res :=
  if s.pw.state = .off ∨ addr.toNat ≠ s.pw.address then .next s else
  if pecByte = some (pec (BitVec.ofNat 8 (2 * addr.toNat) :: index :: data)) then
    .next ((data.zipIdx).foldl (fun (t : State) (e : Byte × Nat) => t.pwByte ((index.toNat + e.2) % 256) e.1) s)
  else .next { s with pw := { s.pw with i2cErr := satInc s.pw.i2cErr } }

/-- One byte of the register space (R425). -/
def State.pwRead (s : State) (k : Nat) : Byte := BitVec.ofNat 8 (s.pwWord (k / 4) / 2 ^ (8 * (k % 4)))

/-- I2C_READ (R425): bytes from the index on, with PEC when it is clocked. -/
def execI2cRead (addr : BitVec 7) (index : Byte) (n : Nat) (pecClocked : Bool) (s : State) : Res :=
  if s.pw.state = .off ∨ addr.toNat ≠ s.pw.address then .next s else
  let a := 2 * addr.toNat
  let data := (List.range n).map (fun k => s.pwRead ((index.toNat + k) % 256))
  .next (s.emit (.i2c (data ++ if pecClocked then [pec (BitVec.ofNat 8 a :: index :: BitVec.ofNat 8 (a + 1) :: data)] else [])))

/-- Is ALERT# low (R426)? -/
def Power.alerting (p : Power) : Bool := p.alert &&& p.alertMask != 0

/-- Is MOD_READY# low (R408)? -/
def Power.modReady (p : Power) : Bool := p.state == .ready || p.state == .quiesced

/-- Is THERM_TRIP# low (R408, R422)? -/
def Power.thermTrip (p : Power) : Bool := p.state == .hold && p.lastRst == 4

/-- ALERT_RESPONSE (R426). -/
def execAlertResponse (s : State) : Res :=
  if s.pw.state != .off && s.pw.alerting then .next (s.emit (.alertAddr (BitVec.ofNat 8 s.pw.address))) else .next s

end Sys2Proof.Machine
end

