-- ==== Sys2Proof/Machine/HostIf.lean ====
section
/-! DEFINITION. The host interface (spec/08): links (R220, R221, R244), function-level resets (R247 to R249, spec/15 R410), and the mediation mailbox
(R225 to R228, R246) with the creation and destruction of owners (spec/13 R378, R382). -/
namespace Sys2Proof.Machine

/-! ## Links and function-level resets -/

/-- The host port that carries an instance (R221). -/
def State.portOf (s : State) (i : Nat) : HostPort := if s.hi.split && decide (s.hi.n / 2 ≤ i) then .b else .a

def State.instsOn (s : State) (p : HostPort) : List Nat := s.instList.filter (fun i => s.portOf i == p)

def State.link (s : State) : HostPort → Option LinkInfo
  | .a => s.hi.linkA
  | .b => s.hi.linkB

def State.setLink (s : State) (p : HostPort) (l : Option LinkInfo) : State :=
  match p with
  | .a => { s with hi := { s.hi with linkA := l } }
  | .b => { s with hi := { s.hi with linkB := l } }

/-- Does the host-link mode use the port (R221)? -/
def State.portUsed (s : State) : HostPort → Bool
  | .a => true
  | .b => s.hi.split

/-- Has the module gone past PREP, so that links train (R411, R418)? -/
def State.linksOn (s : State) : Bool := s.engineUp && s.pw.state != .prep

/-- A function's PCIe state reset: its MSI-X table and PBA (R247, R248; log entry 30). -/
def State.resetFn (s : State) (f : Fn) : State :=
  let mine := fun (k : Nat) => match f with
    | .pf0 => decide (k < 32)
    | .pf1 => decide (32 ≤ k) && decide (k < 64)
    | .vf i => k == 64 + 2 * i || k == 65 + 2 * i
  { s with hi := { s.hi with msix := s.hi.msix.filter (fun e => !mine e.1) } }

/-- An FLR of an instance's VF (R247, R248). -/
def State.vfFlr (s : State) (i : Nat) : State :=
  let s1 := s.resetFn (.vf i)
  if s.hi.n ≤ i then s1 else
  match (s.inst i).state with
  | .none => s1
  | .failedHard => s1
  | .failedLink => if (s.link (s.portOf i)).isSome then (s1.flr i).svEdge 2 else s1
  | _ => (s1.flr i).svEdge 2

/-- VF_FLR (R247, R248). -/
def execVfFlr (i : Nat) (s : State) : Res := if 24 ≤ i then .fault .noSuchUnit else if s.isUp then .next (s.vfFlr i) else .next s

/-- An FLR of a PF (R248): every instance of it; PF0's ends the mailbox request in progress and clears the HI_MB registers. -/
def State.pfFlr (s : State) (p : HostPort) : State :=
  let s1 := ((s.instsOn p).foldl State.vfFlr s).resetFn (match p with
    | .a => .pf0
    | .b => .pf1)
  match p with
  | .a => { s1 with hi := { s1.hi with mbReq := List.replicate 64 0, mbRsp := List.replicate 16 0, mbBusy := false, mbDone := false, mbOver := false, mbCur := none } }
  | .b => s1

/-- PF_FLR (R248). -/
def execPfFlr (p : HostPort) (s : State) : Res := if s.linksOn && s.portUsed p then .next (s.pfFlr p) else .next s

/-- PERST_B (R410): in split mode a PF FLR of PF1, and port B's link is down until release. -/
def execPerstB (s : State) : Res :=
  let s1 := { s with pw := { s.pw with perstB := true } }
  if s.linksOn && s.hi.split then .next ((s1.pfFlr .b).setLink .b none) else .next s1

/-- PERST_B_RELEASE (R410). -/
def execPerstBRelease (l : LinkInfo) (s : State) : Res :=
  let s1 := { s with pw := { s.pw with perstB := false } }
  if s.linksOn && s.hi.split then .next (s1.setLink .b (some l)) else .next s1

/-- HOST_LINK_DOWN (R247, R405): RUNNING instances on the link become FAILED. -/
def execHostLinkDown (p : HostPort) (s : State) : Res :=
  if (s.link p).isNone then .next s else
  let s1 := (s.setLink p none).svEdge 2
  let s2 := (s1.instsOn p).foldl (fun (t : State) (i : Nat) => if (t.inst i).state = .running then t.failInst i .failedLink else t) s1
  .next (s2.logEvent 0x15 0xFF 2 (match p with
    | .a => 0
    | .b => 1))

/-- HOST_LINK_UP (R247), and a link's first training in TRAIN (R418, R419). -/
def execHostLinkUp (p : HostPort) (l : LinkInfo) (s : State) : Res :=
  if s.linksOn && s.portUsed p && !(p == .b && s.pw.perstB) then .next ((s.setLink p (some l)).svEdge 2) else .next s

/-- LINK_RETRAIN (R244): at a lower width or rate it raises LINK on the function's instances. -/
def execLinkRetrain (p : HostPort) (l : LinkInfo) (s : State) : Res :=
  match s.link p with
  | none => .next s
  | some o =>
    let s1 := (s.setLink p (some l)).svEdge 2
    if l.rate.toNat < o.rate.toNat ∨ l.width.toNat < o.width.toNat then
      .next ((s1.instsOn p).foldl (fun (t : State) (i : Nat) => t.vfEvent i 6) s1)
    else .next s1

/-- Ring settings cleared (R247); the counters of R128, R282 and R406 run on. -/
def Inst.clearRings (x : Inst) : Inst :=
  { x with state := .stopped, sqBase := 0, cqBase := 0, idxAddr := 0, sqLog := 0, cqLog := 0, modCount := 0, modTime := 0, sqCi := 0, sqPi := 0, limit := 0, lapped := false,
           cqPi := 0, cqCi := 0, cqBad := false, evSeq := 0, reads := 0, events := 0 }

/-- RESET_COMPLETE (R247): an instance with no in-service core becomes FAILED instead of standing STOPPED (R122). -/
def execResetComplete (i : Nat) (s : State) : Res :=
  if 24 ≤ i then .fault .noSuchUnit else
  if s.isUp && (s.inst i).state == .resetting then .next ((s.modInst i Inst.clearRings).settleNoCore i) else .next s

/-! ## The mailbox -/

/-- GO = 1 (R225): a second GO sets OVERRUN and starts nothing. -/
def mbGo (s : State) : State :=
  if !s.linksOn then s
  else if s.hi.mbBusy then { s with hi := { s.hi with mbOver := true } }
  else (({ s with hi := { s.hi with mbBusy := true, mbDone := false, mbCur := some { bytes := s.hi.mbReq, fin := none } } }).pauseTest).svEdge 8

/-- HI_MB_GO (R225). -/
def execHiMbGo (s : State) : Res := .next (mbGo s)

/-- A request that its command may carry out now: READY, the supervisor up, no firmware switch (R274), the MOPC its own. -/
def State.mbFor (s : State) (mopc : Nat) : Option MbReq :=
  match s.hi.mbCur with
  | none => none
  | some r => if s.isUp && s.svUp && !s.sl.act && r.fin.isNone && fieldLE r.bytes 0 2 == mopc then some r else none

/-- The status of the request stands until its response is written. -/
def State.mbEnd (s : State) (st : W16) : State :=
  match s.hi.mbCur with
  | none => s
  | some r => { s with hi := { s.hi with mbCur := some { r with fin := some st } } }

/-- A new owner (R378): OCTR raised, nonce, both header copies, keys; nothing stored. -/
def State.createOwner (s : State) (i : Nat) : State :=
  let s1 := { s with keys := { s.keys with octr := s.keys.octr + 1 } }
  let nonce := s1.newNonce
  let o : Owner := { no := s1.keys.octr, nonce := nonce, oek := none, gen := 0, tables := [], nextTable := 1, dry := false, nextLsn := 1, dur := 0, lost := [], lostDropped := false,
                     nextRun := 0, origins := [], bad := [] }
  ((((s1.setOwner i o).writeHeaders i).ownerKeys i nonce).setInst i { (s.inst i).blank with state := .stopped }).reserveIngest i

/-- N instances with owners and shares (R215, R227, R378), and the checkpoint that keeps OCTR (R376). -/
def State.createAll (s : State) (n : Nat) : State :=
  let s1 := { s with hi := { s.hi with n := n } }
  ((List.range n).foldl (fun (t : State) (i : Nat) => (t.createOwner i).openWindows i) s1).checkpoint

/-- MB_INSTANCE_CREATE (R215, R227). -/
def execMbInstanceCreate (s : State) : Res :=
  match s.mbFor 1 with
  | none => .next s
  | some r =>
    let n := fieldLE r.bytes 8 1
    if !([1, 2, 3, 4, 6, 8, 12, 24].contains n) || (s.hi.split && n % 2 == 1) then .next (s.mbEnd 0x0110)
    else if s.hi.n ≠ 0 then .next (s.mbEnd 0x0200)
    else .next ((s.createAll n).mbEnd 0)

/-- One owner destroyed (R382): sessions close with reason 6, its keys and those of its ports go. -/
def State.destroyOwner (s : State) (i : Nat) : State :=
  let s1 := (s.closePorts i 6).discardAll i
  let p := portsPer s.hi.n
  let gone := fun (k : Nat) => (decide (8 + 4 * i ≤ k) && decide (k < 12 + 4 * i)) || (decide (128 + p * i ≤ k) && decide (k < 128 + p * (i + 1)))
  { s1 with keys := { s1.keys with slots := s1.keys.slots.filter (fun e => !gone e.1) } }

/-- Every owner destroyed (R343, R382): a checkpoint records the destruction, keys and headers go, slots to the free lists, ports enabled and released (R307),
every VF at NONE. -/
def State.destroyAll (s : State) : State :=
  let s1 := s.instList.foldl State.destroyOwner s
  let s2 := ({ s1 with flash := { s1.flash with owners := [], jobs := [], ports := [] } }).checkpoint
  let s1 := { s2 with flash := { s2.flash with headers := [] } }
  { s1 with hi := { s1.hi with n := 0 }, insts := SMap.mapVals s1.insts (fun _ x => x.blank), keys := { s1.keys with busy := none } }

/-- MB_INSTANCE_DESTROY (R227, R382). -/
def execMbInstanceDestroy (s : State) : Res :=
  match s.mbFor 2 with
  | none => .next s
  | some _ => if s.instList.all (fun i => (s.inst i).state == .stopped) then .next ((s.destroyAll).mbEnd 0) else .next (s.mbEnd 0x0200)

/-- R246. -/
def modOk (count time : Nat) : Bool := decide (1 ≤ count) && decide (count ≤ 256) && decide (time ≤ 1000) && !(decide (1 < count) && time == 0)

/-- Rings set (R227, R232): zeros in the index block, fetching armed. -/
def State.ringSet (s : State) (i : Nat) (b : List Byte) : State :=
  let idx := fieldLE b 32 8
  let s1 := s.modInst i (fun x => { x.clearRings with
    events := x.events, state := .running, sqBase := fieldLE b 8 8, cqBase := fieldLE b 24 8, idxAddr := idx, sqLog := fieldLE b 16 1, cqLog := fieldLE b 17 1,
    modCount := fieldLE b 18 2, modTime := fieldLE b 20 4, unsig := 0, unsigTick := none })
  (s1.hostWrite (idx + 4) (leBytes 8 0)).hostWrite (idx + 16) (leBytes 4 0)

/-- MB_RING_SET (R227, R246). -/
def execMbRingSet (s : State) : Res :=
  match s.mbFor 3 with
  | none => .next s
  | some r =>
    let i := fieldLE r.bytes 4 1
    let size := fun (k : Nat) => decide (6 ≤ fieldLE r.bytes k 1) && decide (fieldLE r.bytes k 1 ≤ 16)
    if s.hi.n ≤ i ∨ (s.inst i).state ≠ .stopped ∨ s.flash.unusable = true ∨ s.mc.chans.any (fun e => e.2.lost) = true then .next (s.mbEnd 0x0200)
    else if !size 16 || !size 17 || fieldLE r.bytes 8 8 % 4096 != 0 || fieldLE r.bytes 24 8 % 4096 != 0 || fieldLE r.bytes 32 8 % 64 != 0 then .next (s.mbEnd 0x0111)
    else if !modOk (fieldLE r.bytes 18 2) (fieldLE r.bytes 20 4) then .next (s.mbEnd 0x0112)
    else .next ((s.ringSet i r.bytes).mbEnd 0)

/-- MB_MODERATE (R227, R246): its settings hold from the response on. -/
def execMbModerate (s : State) : Res :=
  match s.mbFor 4 with
  | none => .next s
  | some r =>
    let i := fieldLE r.bytes 4 1
    if s.hi.n ≤ i ∨ (s.inst i).state ≠ .running then .next (s.mbEnd 0x0200)
    else if !modOk (fieldLE r.bytes 18 2) (fieldLE r.bytes 20 4) then .next (s.mbEnd 0x0112)
    else .next (s.mbEnd 0)

/-- MB_HOSTMODE (R221, R227). -/
def execMbHostmode (s : State) : Res :=
  match s.mbFor 5 with
  | none => .next s
  | some r =>
    if s.hi.n ≠ 0 then .next (s.mbEnd 0x0200)
    else if 1 < fieldLE r.bytes 8 1 then .next (s.mbEnd 0x0113)
    else .next (({ s with hi := { s.hi with splitNext := fieldLE r.bytes 8 1 == 1 } }).mbEnd 0)

/-- MB_MEM_EXCLUDE (R227, R329). -/
def execMbMemExclude (s : State) : Res :=
  match s.mbFor 6 with
  | none => .next s
  | some r =>
    let p := fieldLE r.bytes 8 1
    if s.hi.n ≠ 0 then .next (s.mbEnd 0x0200)
    else if 24 ≤ p ∧ p ≠ 0xFF then .next (s.mbEnd 0x0114)
    else .next (({ s with mc := { s.mc with exclNext := if p = 0xFF then 0x1F else p } }).mbEnd 0)

/-- The response of a request (R225, R226): its registers, DONE, PF0 vector 0; moderation takes effect with it (R246). -/
def State.mbReply (s : State) (r : MbReq) (st : W16) : State :=
  let rsp := slice r.bytes 0 2 ++ bytesOf st ++ List.replicate 12 0
  let i := fieldLE r.bytes 4 1
  let s1 := if fieldLE r.bytes 0 2 = 4 ∧ st = 0 ∧ (s.inst i).state = .running then
    s.modInst i (fun x => { x with modCount := fieldLE r.bytes 18 2, modTime := fieldLE r.bytes 20 4 }) else s
  ({ s1 with hi := { s1.hi with mbRsp := rsp, mbBusy := false, mbDone := true, mbCur := none } }).signal .pf0 0

/-- The codes of R281. -/
def statusCodes : List W16 :=
  [0x0000, 0x0001, 0x0002, 0x0003, 0x0101, 0x0102, 0x0103, 0x0104, 0x0105, 0x0106, 0x0107, 0x0108, 0x0109, 0x010A, 0x010B, 0x010C, 0x010D, 0x010E, 0x0110,
   0x0111, 0x0112, 0x0113, 0x0114] ++ (List.range 64).map (fun k => BitVec.ofNat 16 (0x0140 + k))
    ++ [0x0200, 0x0300, 0x0301, 0x0302, 0x0303, 0x0400, 0x0401, 0x0402, 0x0500, 0x0501, 0x0502, 0x0503, 0x0600, 0x0601, 0x0602, 0x0700, 0x0701, 0x0702,
        0x0703, 0x0704, 0x0705, 0x0706, 0x0707, 0x0800, 0x0801]

/-- MB_RESPONSE (R225): a request whose command has been carried out; one with a MOPC that R227 does not list gets a free one of the codes of R281
(log entry 71). -/
def execMbResponse (s : State) : Res :=
  match s.hi.mbCur with
  | none => .next s
  | some r =>
    if !s.isUp || !s.svUp then .next s else
    match r.fin with
    | some st => .next (s.mbReply r st)
    | none =>
      if 1 ≤ fieldLE r.bytes 0 2 ∧ fieldLE r.bytes 0 2 ≤ 6 then .next s else
      let (w, s1) := s.free
      .next (s1.mbReply r (statusCodes.getD (w.toNat % statusCodes.length) 0))

end Sys2Proof.Machine
end

