-- ==== Sys2Proof/Machine/Rings.lean ====
section
/-! DEFINITION. Rings (spec/08): doorbells and index-block reads (R234 to R237, R240, R241), fetching and the checks of R252, batches (R242), the writing of
completions and the culvert (R239, R240), and MSI-X moderation (R245, R246). -/
namespace Sys2Proof.Machine

/-! ## Completions -/

/-- The CQ reads full (R240, R241). -/
def Inst.cqFull (x : Inst) : Bool := x.cqBad || (x.cqPi - x.cqCi).toNat == 2 ^ x.cqLog

/-- The completion message of a moderated vector (R245): count and timer restart. -/
def State.cqMessage (s : State) (i : Nat) : State := (s.modInst i (fun x => { x with unsig := 0, unsigTick := none })).signal (.vf i) 0

/-- Moderation after a CQ_PI write that covers one entry (R245). -/
def State.moderate (s : State) (i : Nat) : State :=
  let x := s.inst i
  let x1 := { x with unsig := x.unsig + 1, unsigTick := x.unsigTick.or (some s.now) }
  let s1 := s.setInst i x1
  if x1.modCount ≤ x1.unsig ∨ (x1.unsigTick.getD 0) + 1000 * x1.modTime ≤ s.now then s1.cqMessage i else s1

/-- One entry written to the CQ, then CQ_PI, then the message (R239); the CIDs it covers are free (R238). -/
def State.putCqe (s : State) (i : Nat) (c : Cqe) : State :=
  let x := s.inst i
  let s1 := s.hostWrite (x.cqBase + 16 * (x.cqPi.toNat % 2 ^ x.cqLog)) (bytesOf c.entry)
  let s2 := (s1.setInst i { x with cqPi := x.cqPi + 1 }).hostWrite (x.idxAddr + 8) (bytesOf (x.cqPi + 1))
  ((s2.addAct i (fun a => { a with host := a.host + 20 })).moderate i).releaseCids i c.cids

/-- The culvert's oldest entries written while the ring has room (R240). -/
def State.drainCulvert : Nat → State → Nat → State
  | 0, s, _ => s
  | n + 1, s, i =>
    let x := s.inst i
    match x.culvert with
    | [] => s
    | c :: rest => if x.cqFull then s else State.drainCulvert n ((s.setInst i { x with culvert := rest }).putCqe i c) i

/-- The culvert has filled (R240): the stop, TL_CQ_STALL and the event CQ_STALL (R244). -/
def State.cqFills (s : State) (i : Nat) : State := (s.modInst i (fun x => { x with stall := true, cqStall := satInc x.cqStall })).vfEvent i 2

/-- Held completions enter the culvert as it has room, and a culvert of 256 entries or fewer ends the stop (R240). -/
def Inst.settleCulvert (x : Inst) : Inst :=
  let k := if x.stall then 512 - x.culvert.length else 0
  let x1 := { x with culvert := x.culvert ++ x.done.take k, done := x.done.drop k }
  { x1 with stall := x1.stall && decide (256 < x1.culvert.length) }

/-- Culvert and held completions written in turn, until the ring reads full or none is left (R240). -/
def State.drainHeld : Nat → State → Nat → State
  | 0, s, _ => s
  | n + 1, s, i =>
    let t := (State.drainCulvert (s.inst i).culvert.length s i).modInst i Inst.settleCulvert
    if (t.inst i).culvert.isEmpty || (t.inst i).cqFull then t else State.drainHeld n t i

/-- What a new CQ_CI allows (R240). A culvert that had room and is full again in the end has filled once more (log entry 119). -/
def State.drain (s : State) (i : Nat) : State :=
  let x := s.inst i
  let t := State.drainHeld (x.done.length + 2) s i
  let y := t.inst i
  (if y.culvert.length = 512 ∧ (y.cqPi ≠ x.cqPi ∨ x.culvert.length < 512) then t.cqFills i else t).settleNoCore i

/-- COMPLETION_WRITE (R239, R240): the oldest completion goes to the CQ, or to the culvert where the ring is full; a full culvert stops the instance. -/
def completionWrite (s : State) (i : Nat) : State :=
  let x := s.inst i
  match x.state, x.done with
  | .running, c :: rest =>
    if x.culvert.isEmpty && !x.cqFull then ((s.setInst i { x with done := rest }).putCqe i c).settleNoCore i
    else if 512 ≤ x.culvert.length then s
    else
      let s1 := s.setInst i { x with done := rest, culvert := x.culvert ++ [c] }
      if x.culvert.length + 1 = 512 then s1.cqFills i else s1
  | _, _ => s

def execCompletionWrite (i : Nat) (s : State) : Res := if 24 ≤ i then .fault .noSuchUnit else .next (completionWrite s i)

/-! ## Doorbells and index-block reads -/

/-- A doorbell (R234): one read, and while it is to come one further read for all that follow. -/
def doorbell (s : State) (i : Nat) : State :=
  if (s.inst i).state = .running then s.modInst i (fun x => { x with reads := min 2 (x.reads + 1) }) else s

/-- VF_DB_SQ (R234): the hint has no effect. -/
def execVfDbSq (i : Nat) (_hint : W32) (s : State) : Res := if 24 ≤ i then .fault .noSuchUnit else .next (doorbell s i)

/-- VF_DB_CQ (R240). -/
def execVfDbCq (i : Nat) (_hint : W32) (s : State) : Res := if 24 ≤ i then .fault .noSuchUnit else .next (doorbell s i)

/-- SQ_PI as read (R235, R237): the new fetch limit, or INDEX_LAP. -/
def State.readSqPi (s : State) (i : Nat) (sqPi : W32) : State :=
  let x := s.inst i
  if 2 ^ x.sqLog < (sqPi - x.sqCi).toNat then (s.setInst i { x with sqPi := sqPi, lapped := true }).vfEvent i 0
  else s.setInst i { x with sqPi := sqPi, limit := sqPi, lapped := false }

/-- CQ_CI as read (R240, R241): what it frees, or CQ_INDEX_BAD. -/
def State.readCqCi (s : State) (i : Nat) (cqCi : W32) : State :=
  let x := s.inst i
  if 2 ^ x.cqLog < (x.cqPi - cqCi).toNat then (s.setInst i { x with cqCi := cqCi, cqBad := true, readTick := s.now }).vfEvent i 1
  else (s.setInst i { x with cqCi := cqCi, cqBad := false, readTick := s.now }).drain i

/-- INDEX_BLOCK_READ (R234 to R241): the block that a doorbell asked for. -/
def indexBlockRead (s : State) (i : Nat) (sqPi cqCi : W32) : State :=
  let x := s.inst i
  if x.state = .running ∧ x.reads ≠ 0 then (((s.setInst i { x with reads := x.reads - 1 }).addAct i (fun a => { a with host := a.host + 64 })).readSqPi i sqPi).readCqCi i cqCi
  else s

def execIndexBlockRead (i : Nat) (sqPi cqCi : W32) (s : State) : Res :=
  if 24 ≤ i then .fault .noSuchUnit else .next (indexBlockRead s i sqPi cqCi)

/-- CQ_FULL_RECHECK (R240): every 10 µs while completions are held and the ring reads full; SQ_PI is not looked at (R235). -/
def cqFullRecheck (s : State) (i : Nat) (cqCi : W32) : State :=
  let x := s.inst i
  if x.state = .running ∧ x.cqFull = true ∧ (x.culvert ≠ [] ∨ x.done ≠ []) ∧ x.readTick + 10000 ≤ s.now then
    (s.addAct i (fun a => { a with host := a.host + 64 })).readCqCi i cqCi
  else s

def execCqFullRecheck (i : Nat) (_sqPi cqCi : W32) (s : State) : Res := if 24 ≤ i then .fault .noSuchUnit else .next (cqFullRecheck s i cqCi)

/-! ## MSI-X -/

/-- MSIX_MOD_TIMER (R245). -/
def execMsixModTimer (i : Nat) (s : State) : Res :=
  if 24 ≤ i then .fault .noSuchUnit else
  match (s.inst i).unsigTick with
  | none => .next s
  | some t => if t + 1000 * (s.inst i).modTime ≤ s.now then .next (s.cqMessage i) else .next s

/-- Vectors of a function (R220). -/
def vecCount : Fn → Nat
  | .vf i => if i < 24 then 2 else 0
  | _ => 32

/-- MSIX_UNMASK (R245): a pending message is sent. -/
def execMsixUnmask (f : Fn) (v : Nat) (s : State) : Res :=
  if vecCount f ≤ v then .fault .noSuchUnit else
  let x := s.vec f v
  let s1 := s.setVec f v { x with mask := false, pend := false }
  .next (if x.pend then s1.emit (.msix x.addr x.data) else s1)

/-- VF_EVENT_READ (R224): the bits read are cleared. -/
def execVfEventRead (i : Nat) (s : State) : Res :=
  if 24 ≤ i then .fault .noSuchUnit else
  if s.isUp && decide (i < s.hi.n) then .next (s.modInst i (fun x => { x with events := 0 })) else .next s

/-! ## Fetching -/

/-- Operand bytes of an entry that its opcode names (R259), from byte 16 on; none where R259 does not list the opcode. -/
def namedBytes (opc : Nat) : Option (List (Nat × Nat)) :=
  match opc with
  | 0x01 => some [(16, 4), (24, 8), (32, 2)]
  | 0x02 => some []
  | 0x03 => some [(16, 2)]
  | 0x10 => some [(16, 32)]
  | 0x11 => some [(16, 12)]
  | 0x12 => some []
  | 0x20 => some [(16, 10)]
  | 0x21 => some []
  | 0x22 => some [(16, 1), (24, 24)]
  | 0x30 => some [(16, 1), (20, 8), (32, 8)]
  | 0x31 => some [(16, 3)]
  | 0x32 => some [(16, 1)]
  | 0x40 => some [(16, 1)]
  | 0x41 => some []
  | 0x42 => some [(16, 16)]
  | 0x43 => some []
  | _ => none

/-- Are bytes 6, 7 and every operand byte that the opcode does not name zero (R230, R252)? -/
def reservedClear (b : List Byte) (named : List (Nat × Nat)) : Bool :=
  allZero (slice b 6 2) && ((slice b 16 48).zipIdx).all (fun e => named.any (fun r => decide (r.1 ≤ e.2 + 16) && decide (e.2 + 16 < r.1 + r.2)) || e.1 == 0)

/-- The checks of R252; an ABORT's CLASS is ignored (R272). -/
def entryCheck (x : Inst) (b : List Byte) : Option W16 :=
  let opc := fieldLE b 0 2
  match namedBytes opc with
  | none => some 0x0101
  | some named =>
    if opc ≠ 3 ∧ 4 < fieldLE b 4 1 then some 0x0102
    else if fieldLE b 5 1 / 8 ≠ 0 ∨ fieldLE b 5 1 % 4 = 3 then some 0x0103
    else if !reservedClear b named then some 0x0104
    else if x.cids.contains (BitVec.ofNat 16 (fieldLE b 2 2)) then some 0x0105
    else none

/-- A batch closed (R242), with its completion if its members have all completed. -/
def Inst.closeOpen (x : Inst) : Inst :=
  match x.openBatch with
  | none => x
  | some n => { x with openBatch := none, batches := x.batches.map (fun (b : Batch) => if b.no = n then { b with closed := true } else b) }

/-- The batch that an entry joins (R242), and the instance with it opened and the entry a member. -/
def Inst.joinBatch (x : Inst) (cf no : Nat) (cid : W16) : Option Nat × Inst :=
  let m : Member := { no := no, cid := cid, rel := [], fin := none }
  match cf, x.openBatch with
  | 0, _ => (none, x.closeOpen)
  | 3, none => (none, x)
  | _, none => (some x.nextBatch, { x with openBatch := some x.nextBatch, nextBatch := x.nextBatch + 1,
                                           batches := x.batches ++ [{ no := x.nextBatch, members := [m], closed := false }] })
  | _, some n => (some n, { x with batches := x.batches.map (fun (b : Batch) => if b.no = n then { b with members := b.members ++ [m] } else b) })

/-- Does an entry close the batch it has joined: CF 2, or the 256th member (R242)? -/
def Inst.closesBatch (x : Inst) (cf : Nat) (batch : Option Nat) : Bool :=
  match batch with
  | none => false
  | some n => cf == 2 || x.batches.any (fun b => b.no == n && decide (256 ≤ b.members.length))

/-- One entry fetched (R235, R242, R252, R253): queued, held as an ABORT to act on (R272), or completed as malformed. -/
def Inst.fetchOne (x : Inst) (e : W512) : Inst :=
  let b := bytesOf e
  let cid := BitVec.ofNat 16 (fieldLE b 2 2)
  let cf := fieldLE b 5 1 % 4
  let no := x.nextNo
  let own := !x.cids.contains cid
  let bad := entryCheck x b
  let (batch, x1) := x.joinBatch cf no cid
  let x2 := { x1 with nextNo := no + 1, sqCi := x1.sqCi + 1 }
  let opc := fieldLE b 0 2
  let x3 : Inst := match bad with
    | some st => ({ x2 with abortCids := if own then x2.abortCids.filter (fun a => a != cid) else x2.abortCids }).malformed batch no cid st own
    | none =>
      let c : Cmd := { no := no, src := .ring, cid := cid, opc := opc, cls := fieldLE b 4 1, fence := (fieldLE b 5 1).testBit 2, bytes := b,
                       phase := if opc = 3 then .abortHeld else .queued, work := .none, batch := batch }
      { x2 with abortCids := if opc = 3 then cid :: x2.abortCids else x2.abortCids.filter (fun a => a != cid), cmds := x2.cmds ++ [c] }
  (if x3.closesBatch cf batch then x3.closeOpen else x3).closeBatches

/-- Ring commands fetched and not started (R235). -/
def Inst.waiting (x : Inst) : Nat := (x.cmds.filter (fun c => c.src == .ring && c.phase == .queued)).length

/-- Fetching and field starts are paused: QUIESCE (R418), a firmware switch (R274), or the module not READY. -/
def State.paused (s : State) : Bool := s.pw.state != .ready || s.pw.quiescing || s.sl.act

/-- May an instance fetch n entries now (R235, R237, R240, R241)? -/
def State.canFetch (s : State) (i n : Nat) : Bool :=
  let x := s.inst i
  let size := 2 ^ x.sqLog
  let left := (x.limit - x.sqCi).toNat
  x.state == .running && !s.paused && !x.stall && !x.lapped && !(s.liveCores i).isEmpty && decide (1 ≤ n) && decide (n ≤ 64) && decide (left ≤ size)
    && decide (n ≤ left) && decide (x.sqCi.toNat % size + n ≤ size) && decide (x.waiting + n ≤ 256)

/-- SQ_FETCH (R235, R236, R252): entries copied on die, then SQ_CI written. A self-test pauses (R277). -/
def sqFetch (s : State) (i : Nat) (entries : List W512) : State :=
  if !s.canFetch i entries.length then s else
  let s1 := s.modInst i (fun x => entries.foldl Inst.fetchOne x)
  let x := s1.inst i
  (((s1.hostWrite (x.idxAddr + 4) (bytesOf x.sqCi)).addAct i (fun a => { a with host := a.host + 64 * entries.length + 4 })).pauseTest).settleAborts i

def execSqFetch (i : Nat) (entries : List W512) (s : State) : Res := if 24 ≤ i then .fault .noSuchUnit else .next (sqFetch s i entries)

end Sys2Proof.Machine
end

