-- ==== Sys2Proof/Machine/Lantern.lean ====
section
/-! DEFINITION. Lantern (spec/14 R397 to R407): samples, attribution of energy, the telemetry page and the pacer's counters. -/
namespace Sys2Proof.Machine

/-! ## Counts that Lantern samples -/

/-- HG_READY_i, HG_PARKED_i and HG_SLOTS_i (R128). -/
def State.readyCount (s : State) (i : Nat) : Nat := (s.hg.items.filter (fun e => e.2.inst == i && e.2.ready)).length
def State.parkedCount (s : State) (i : Nat) : Nat := (s.hg.items.filter (fun e => e.2.inst == i && e.2.isParked)).length

/-- The instance's cores out of service. -/
def State.oosCount (s : State) (i : Nat) : Nat := ((coresOf s.hi.n i).filter s.hg.oos.contains).length

/-- TL_PACE.EN of an instance. -/
def State.paced (s : State) (i : Nat) : Bool := s.tl.pace.getLsbD i

/-- Sums over the samples of the last second: energy in µJ, core time in ns. -/
def State.lastSecond (s : State) (i : Nat) : Nat × Nat :=
  ((SMap.get s.tl.hist [] i).filter (fun e => decide (s.tl.sample < e.1 + 10 ^ 9))).foldl (fun a e => (a.1 + e.2.1, a.2 + e.2.2)) (0, 0)

/-- Sensor s of R399. -/
def Tl.tempOf (t : Tl) (k : Nat) : Nat := ((t.temp.getD k none).getD 0).toNat

/-- Log page 0x05 for an instance (R406). -/
def State.telePage (s : State) (i : Nat) : List Byte :=
  let x := s.inst i
  let st := s.stat i
  let sec := s.lastSecond i
  let cores := (coresOf s.hi.n i).length
  [1, BitVec.ofNat 8 (spNo s.pw.cur), BitVec.ofNat 8 (s.paced i).toNat] ++ List.replicate 5 0 ++ leBytes 8 s.tl.sample ++ leBytes 8 (SMap.get s.tl.energy 0 i)
    ++ leBytes 4 (sec.1 / 1000) ++ leBytes 2 (s.tl.tempOf 0) ++ leBytes 2 (s.tl.tempOf 1) ++ leBytes 4 (s.readyCount i) ++ leBytes 4 (s.parkedCount i)
    ++ bytesOf st.waitMax ++ bytesOf st.waitSum ++ bytesOf st.disp ++ leBytes 2 (if cores = 0 then 0 else sec.2 / (1000000 * cores)) ++ leBytes 2 (s.oosCount i)
    ++ bytesOf x.cqStall ++ leBytes 4 x.waiting ++ leBytes 4 x.culvert.length ++ leBytes 8 (SMap.get s.tl.paceHold 0 i) ++ bytesOf s.mc.ce ++ bytesOf s.mc.ue
    ++ List.replicate 32 0

/-! ## Energy -/

/-- The weight of one activity record in pJ (R400). -/
def Act.weight (a : Act) : Nat :=
  200 * a.core + 16 * a.codec + 40 * a.digest + 57 * a.mem + 20 * a.dist + 600 * a.fread + 1500 * a.fwrite + 90 * a.field + 50 * a.host

/-- The share of instance i (R400) in energy E with static part S, each rounded down to a µJ. -/
def State.energyShare (s : State) (e static i : Nat) : Nat :=
  let n := s.hi.n
  let w := ((s.instList.map (fun k => (s.act k).weight)).sum) + (s.act 31).weight
  let d := e - static
  if w = 0 then static / n else static / n + d * (s.act i).weight / w + d * (s.act 31).weight / (w * n)

/-- What of a sample is attributed: TL_ENERGY_i rise by their shares, TL_ENERGY_UNATTR by the rest. -/
def State.attribute (s : State) (m : Sensors) : State :=
  let e := (m.railUJ.take 4).sum
  let static := min e (s.tl.idleEst.toNat * (s.now - s.tl.mark) / 1000000)
  let shares := s.instList.map (fun i => (i, s.energyShare e static i))
  let t := s.tl
  let hist := fun (h : SMap (List (Nat × Nat × Nat))) (x : Nat × Nat) =>
    SMap.set h x.1 ((s.now, x.2, (s.act x.1).core) :: (SMap.get h [] x.1).filter (fun y => decide (s.now < y.1 + 10 ^ 9)))
  { s with tl := { t with
      energyMod := t.energyMod + e, energyUnattr := t.energyUnattr + (e - (shares.map (fun x => x.2)).sum),
      energy := shares.foldl (fun (a : SMap Nat) (x : Nat × Nat) => SMap.set a x.1 (SMap.get a 0 x.1 + x.2)) t.energy,
      hist := shares.foldl hist t.hist, acts := [] } }

/-- Did foreground work run in the interval: has an instance any activity (R400)? -/
def State.foreground (s : State) : Bool := s.instList.any (fun i => (s.act i).weight != 0)

/-- The interval without foreground work up to this sample, at one setpoint, and the estimate: its average power once it is 100 ms long (R400; log entry 116). -/
def State.idleOf (s : State) (e : Nat) : Option (Nat × Nat) × W32 :=
  if s.foreground || s.pw.changing || decide (s.tl.mark < s.tl.spTick) then (none, s.tl.idleEst) else
  let q := s.tl.quiet.getD (s.tl.mark, 0)
  let sum := q.2 + e
  (some (q.1, sum), if q.1 + 10 ^ 8 ≤ s.now then BitVec.ofNat 32 (min (2 ^ 20 - 1) (sum * 10 ^ 6 / (s.now - q.1))) else s.tl.idleEst)

/-- Since when a sensor's samples meet a condition (R422). -/
def sinceOf (old : Option Nat) (now : Nat) (x : Option W16) (cond : Int → Bool) : Option Nat :=
  match x with
  | some t => if cond t.toInt then some (old.getD now) else none
  | none => old

/-- The conditions of R422 at a sample: junction and cold plate, in units of 1/8 °C. -/
def State.noteTemps (s : State) (m : Sensors) : State :=
  let p := s.pw
  { s with pw := { p with
      hot := sinceOf p.hot s.now m.temps[0]? (fun t => decide (800 < t)), cool := sinceOf p.cool s.now m.temps[0]? (fun t => decide (t ≤ 720)),
      plateHot := sinceOf p.plateHot s.now m.temps[1]? (fun t => decide (560 < t)), plateCool := sinceOf p.plateCool s.now m.temps[1]? (fun t => decide (t ≤ 536)) } }

/-- PW_PLATE, the PW island's own sensor of the cold plate (R427; log entry 118). -/
def State.notePlate (s : State) (m : Sensors) : State := { s with pw := { s.pw with plate := (m.temps[1]?).or s.pw.plate } }

/-- LANTERN_SAMPLE (R397 to R400): every TL register changes together. -/
def lanternSample (s : State) (m : Sensors) : State :=
  let q := s.idleOf (m.railUJ.take 4).sum
  let s1 := s.attribute m
  let t := s1.tl
  let hold := t.held.foldl (fun (a : SMap Nat) (e : Nat × Nat) => SMap.set a e.1 (SMap.get a 0 e.1 + e.2)) t.paceHold
  let t1 : Tl := { t with
      sample := s.now, mark := s.now, evShown := t.evSeq, quiet := q.1, idleEst := q.2, idle := q.2,
      rail := (List.range 5).map (fun k => t.rail.getD k 0 + m.railUJ.getD k 0),
      power := (List.range 5).map (fun k => (m.railMW.getD k 0).setWidth 32),
      temp := (List.range 6).map (fun k => (m.temps[k]?).or (t.temp.getD k none)),
      cqStall := BitVec.ofNat 32 (min (2 ^ 32 - 1) ((s.insts.map (fun e => e.2.cqStall.toNat)).sum)),
      paceStat := t.held.foldl (fun (a : W32) (e : Nat × Nat) => a ||| BitVec.ofNat 32 (2 ^ e.1)) 0, paceHold := hold, held := [] }
  let s2 := { s1 with tl := t1 }.noteTemps m
  { s2 with tl := { s2.tl with pages := s2.instList.map (fun i => (i, s2.telePage i)) } }

/-- LANTERN_SAMPLE: from READY on (R389); the PW island reads the cold plate from STANDBY on (R427). -/
def execLanternSample (m : Sensors) (s : State) : Res :=
  if s.pw.state = .off then .next s
  else if s.isUp && decide (s.tl.mark + 10 ^ 6 ≤ s.now) then .next (lanternSample (s.notePlate m) m) else .next (s.notePlate m)

/-! ## The pace ceiling -/

/-- TL_PACE written (R402). -/
def paceWrite (s : State) (v : W32) : State := if s.isUp then { s with tl := { s.tl with pace := v &&& 0xFFFFFF } } else s

def execTlPaceWrite (v : W32) (s : State) : Res := .next (paceWrite s v)

/-- PACE_RELEASE (R401): a hold of a paced instance ends after `ns`; the pacer changes no result, and its holds are no stall of a core (R392). -/
def execPaceRelease (i : Nat) (ns : W64) (s : State) : Res :=
  if 24 ≤ i then .fault .noSuchUnit else
  if s.isUp && decide (i < s.hi.n) && s.paced i then
    let s1 := (coresOf s.hi.n i).foldl (fun (t : State) (c : Nat) => t.setCore c { t.core c with progress := min s.now ((t.core c).progress + ns.toNat) }) s
    .next { s1 with tl := { s1.tl with held := SMap.set s1.tl.held i (SMap.get s1.tl.held 0 i + ns.toNat) } }
  else .next s

end Sys2Proof.Machine
end

