-- ==== Sys2Proof/Machine/Results.lean ====
section
/-! DEFINITION. Results of a query (spec/03 R84, R103, spec/09 R261): the writing of result posts into host buffers, and the query's end. -/
namespace Sys2Proof.Machine

/-- USED of the host culvert buffer in use (R62, R261). -/
def State.writeUsed (s : State) (q : Query) : State :=
  match q.buf with
  | some b => s.hostWrite (b + 12) (leBytes 4 q.dest.2.2)
  | none => s

/-- One unit put where the present buffer has come to. -/
def State.putUnit (s : State) (ctx : Nat) (q : Query) (u : List Byte) : State :=
  ((s.setQuery ctx { q with dest := (q.dest.1 + u.length, q.dest.2.1 - u.length, q.dest.2.2 + u.length), written := q.written + u.length }).hostWrite
    q.dest.1 u).addAct q.inst (fun a => { a with host := a.host + u.length })

/-- One whole unit of results placed (R261): in the present buffer, or in the next of the chain; a query without room ends with OUT_OF_SPACE. None where
the engine has not read the next buffer's header. -/
def State.placeUnit (s : State) (ctx : Nat) (links : List HostBuf) (u : List Byte) : Option State :=
  match s.query? ctx with
  | none => some s
  | some q =>
    if q.status.isSome || u.isEmpty then some s
    else if u.length ≤ q.dest.2.1 then some (s.putUnit ctx q u)
    else if q.dest.2.2 = 0 ∨ q.next = 0 ∨ q.next % 64 ≠ 0 then some (s.failQuery ctx 0x0301)
    else match links.find? (fun l => l.addr.toNat == q.next) with
      | none => none
      | some l =>
        let q1 := { q with dest := (q.next + 64, l.cap.toNat, 0), next := l.next.toNat, buf := some q.next }
        let s1 := (s.writeUsed q).setQuery ctx q1
        if u.length ≤ l.cap.toNat then some (s1.putUnit ctx q1 u) else some (s1.failQuery ctx 0x0301)

/-- Frames of 32,768 bytes of a coded result, while more than one frame's bytes are there (R49, R103). -/
def State.placeFrames (ctx : Nat) (links : List HostBuf) : Nat → State → List Byte → Option (State × List Byte)
  | 0, s, raw => some (s, raw)
  | n + 1, s, raw =>
    if raw.length ≤ 32768 then some (s, raw) else
    match s.placeUnit ctx links (encodeFrame 0 false (raw.take 32768)) with
    | none => none
    | some s1 => State.placeFrames ctx links n s1 (raw.drop 32768)

def State.setRaw (s : State) (ctx : Nat) (raw : List Byte) : State :=
  match s.query? ctx with
  | some q => s.setQuery ctx { q with raw := raw }
  | none => s

/-- The bytes of one result range written, or joined to the stream under STREAM_OUT. -/
def State.placeRange (s : State) (ctx : Nat) (q : Query) (links : List HostBuf) (d : List Byte) : Option State :=
  if imgStreamOut q.code then
    (State.placeFrames ctx links ((q.raw.length + d.length) / 32768) s (q.raw ++ d)).map (fun e => e.1.setRaw ctx e.2)
  else s.placeUnit ctx links d

/-- Has every stage of a query drained, with nothing left in its result flume (R84)? -/
def State.stagesDone (s : State) (ctx : Nat) (q : Query) : Bool :=
  (List.range (imgStages q.code)).all (s.drained ctx) && (match s.flume? (q.flumes.getD (imgResult q.code) 0) with
    | some f => f.posts.isEmpty
    | none => true)

/-- Is the last result byte written (R273)? -/
def State.resultsDone (s : State) (ctx : Nat) (q : Query) : Bool := s.stagesDone ctx q && q.raw.isEmpty

/-- RESULT_WRITE (R103, R261): the oldest committed result post, or the final frame of a coded result. -/
def resultWrite (s : State) (ctx : Nat) (links : List HostBuf) : State :=
  match s.query? ctx with
  | none => s
  | some q =>
    let f := q.flumes.getD (imgResult q.code) 0
    if !q.live then s else
    match s.flume? f with
    | none => s
    | some x => match x.posts with
      | (w1, w2, h) :: rest =>
        let (d, s1) := s.readMem q.inst w1.toNat (bits w2 0 32)
        let s2 := (s1.setQuery ctx (q.letGo h)).setFlume f { x with posts := rest }
        match d with
        | none => s2.failQuery ctx 0x0700
        | some bs => (s2.placeRange ctx q links bs).getD s
      | [] =>
        if s.stagesDone ctx q && !q.raw.isEmpty then ((s.placeUnit ctx links (encodeFrame 0 true q.raw)).map (fun t => t.setRaw ctx [])).getD s else s

def execResultWrite (ctx : Nat) (links : List HostBuf) (s : State) : Res :=
  if 1536 ≤ ctx then .fault .noSuchUnit else if s.mc.sweep then .next s else .next (resultWrite s ctx links)

/-- QUERY_COMPLETE (R84): every stage drained and every result written, or a failure with no item of the query left. -/
def queryComplete (s : State) (ctx : Nat) : State :=
  match s.query? ctx with
  | none => s
  | some q =>
    let ended := if q.status.isSome then !s.hg.items.any (fun e => e.2.ctx == ctx && e.2.append.isNone) else s.resultsDone ctx q
    if ended && !q.fin then (((s.writeUsed q).setQuery ctx { q with buf := none }).endQuery ctx).settleNoCore q.inst else s

def execQueryComplete (ctx : Nat) (s : State) : Res := if 1536 ≤ ctx then .fault .noSuchUnit else .next (queryComplete s ctx)

end Sys2Proof.Machine
end

