-- ==== Sys2Proof/Machine/Sluice.lean ====
section
/-! DEFINITION. The Sluice (spec/09): heads of the class queues, FENCE (R269), arbitration (R255, R256), the start of a command (R253), and ABORT
(R272, R273). -/
namespace Sys2Proof.Machine

/-! ## Heads -/

/-- Does a FENCE rule hold a command (R269)? -/
def Inst.fenced (x : Inst) (c : Cmd) : Bool :=
  let before := x.cmds.filter (fun d => d.opc != 3 && d.src.same c.src && decide (d.no < c.no))
  (c.fence && !before.isEmpty) || before.any (fun d => d.fence && d.phase == .queued)

/-- The head of a class queue (R253). -/
def Inst.head (x : Inst) (cls : Nat) : Option Cmd := x.cmds.find? (fun c => c.phase == .queued && c.cls == cls)

/-- Commands that wait while the supervisor pair is down (R395). -/
def needsSv (opc : Nat) : Bool := [0x11, 0x20, 0x21, 0x30, 0x31, 0x32, 0x40, 0x41, 0x42, 0x43].contains opc

/-- The head of a class queue when it is startable (R240, R253, R269, R395). -/
def State.ready (s : State) (x : Inst) (cls : Nat) : Option Cmd :=
  match x.head cls with
  | none => none
  | some c => if x.fenced c || (x.stall && c.src == .ring) || (needsSv c.opc && !s.svUp) then none else some c

/-- May an instance start commands: nothing pauses the Sluice, the instance has a core (R122), and no ABORT is still to be acted on (R272)? -/
def State.mayStart (s : State) (i : Nat) : Bool :=
  !s.paused && !(s.liveCores i).isEmpty && (s.inst i).cmds.all (fun c => c.phase != .abortHeld)

/-! ## Arbitration -/

/-- Weight of class c (R282). -/
def Sluice.weight (x : Sluice) (c : Nat) : Nat := bits x.classw (4 * c) 4

/-- The first weighted class with a startable head and a deficit left. -/
def pickWeighted (heads : List (Option Cmd)) (deficit : List Nat) : Option (Nat × Cmd) :=
  (List.range 4).findSome? (fun c => match heads.getD c none with
    | some h => if 0 < deficit.getD c 0 then some (c, h) else none
    | none => none)

/-- The weighted pass of R255: a new round takes the weights and the cap (R256). -/
def Inst.pickRound (x : Inst) (sl : Sluice) (heads : List (Option Cmd)) : Option (Cmd × Inst) :=
  match pickWeighted heads x.deficit with
  | some (c, h) => some (h, { x with deficit := x.deficit.modify c (· - 1) })
  | none =>
    let y := { x with deficit := (List.range 4).map sl.weight, cap := bits sl.urgcap 0 4 }
    match pickWeighted heads y.deficit with
    | some (c, h) => some (h, { y with deficit := y.deficit.modify c (· - 1) })
    | none => none

/-- The algorithm of R255 for one instance. -/
def State.pick (s : State) (x : Inst) : Option (Cmd × Inst) :=
  let heads := (List.range 4).map (s.ready x)
  match s.ready x 4 with
  | some u =>
    if x.streak < x.cap ∨ heads.all (fun h => h.isNone) = true then some (u, { x with streak := x.streak + 1 })
    else ({ x with streak := 0, urgDef := satInc x.urgDef }).pickRound s.sl heads
  | none => ({ x with streak := 0 }).pickRound s.sl heads

/-- The next start (R255): the instance whose turn it is, its command, and the state with the command started. -/
def State.nextStart (s : State) : Option (Nat × Cmd × State) :=
  let n := s.hi.n
  let first := match s.sl.lastInst with
    | some l => l + 1
    | none => 0
  ((List.range n).map (fun k => (first + k) % n)).findSome? (fun i =>
    if !s.mayStart i then none else
    match s.pick (s.inst i) with
    | none => none
    | some (c, x) =>
      let c1 := { c with phase := .started }
      some (i, c1, ({ s with sl := { s.sl with lastInst := some i } }).setInst i ({ x with starts := satInc x.starts }.putCmd c1)))

/-- Commands of the administering instance only (R258). -/
def adminOnly (opc : Nat) : Bool := [0x40, 0x41, 0x42, 0x43].contains opc

/-- A command of the opcode starts, when it is the one whose turn it is (R253, R255): `f` is its checks and its effect. -/
def startCmd (s : State) (opc : Nat) (f : State → Nat → Cmd → State) : State :=
  match s.nextStart with
  | none => s
  | some (i, c, t) =>
    if c.opc ≠ opc then s
    else if adminOnly opc ∧ i ≠ 0 then t.complete i c.no 0x0503 0
    else f t i c

/-- What a started command does, kept in its record. -/
def State.setWork (s : State) (i no : Nat) (w : Work) : State :=
  s.modInst i (fun x => match x.cmd? no with
    | some c => x.putCmd { c with work := w }
    | none => x)

/-- Operand field of a ring entry. -/
def Cmd.op (c : Cmd) (off len : Nat) : Nat := fieldLE c.bytes off len
def Cmd.handle (c : Cmd) : Nat := c.op 8 8

/-- A host address that R258 allows. -/
def addrOk (a : Nat) : Bool := a != 0 && a % 64 == 0

/-! ## ABORT -/

/-- What an ABORT does to its target (R272, R273): its status, and whether it waits for the target. A QUERY_RUN that has failed and not yet completed
answers as one that has completed (DESIGN CHOICE, log entry 122). -/
def State.abortTarget (s : State) (i : Nat) (t : Cmd) : State × W16 :=
  if t.phase == .queued then (s.complete i t.no 0x0600 0, 0x0003) else
  match t.work with
  | .append _ => (s.complete i t.no 0x0600 0, 0x0003)
  | .flush => (s.complete i t.no 0x0600 0, 0x0003)
  | .image _ => (s.complete i t.no 0x0600 0, 0x0003)
  | .query ctx => (match s.query? ctx with
    | some q => if q.live && !s.resultsDone ctx q then (s.failQuery ctx 0x0600, 0x0003) else (s, 0x0602)
    | none => (s, 0x0602))
  | _ => (s, 0x0602)

/-- A ring ABORT is acted on (R272): the target is the outstanding command with the named CID, fetched before it. -/
def State.abortOn (s : State) (i : Nat) (c : Cmd) : State :=
  let cid := BitVec.ofNat 16 (c.op 16 2)
  let x := s.inst i
  if cid = c.cid ∨ (x.abortCids.contains cid = true ∧ x.cids.contains cid = true) then s.complete i c.no 0x010C 0 else
  match x.cmds.find? (fun d => d.src == .ring && d.cid == cid && decide (d.no < c.no)) with
  | some t =>
    let (s1, st) := s.abortTarget i t
    (s1.modInst i (fun y => y.putCmd { c with phase := .abortWait t.no st })).settleAborts i
  | none => match x.batches.findSome? (fun b => b.members.find? (fun m => m.cid == cid && m.fin.isSome && decide (m.no < c.no))) with
    | some m => (s.modInst i (fun y => y.putCmd { c with phase := .abortWait m.no 0x0602 })).settleAborts i
    | none => s.complete i c.no 0x0602 0

/-- ABORT (R272): the instance's oldest ABORT that the Sluice has still to act on. -/
def abortNext (s : State) (i : Nat) : State :=
  match (s.inst i).cmds.find? (fun c => c.phase == .abortHeld) with
  | some c => (s.abortOn i c).settleNoCore i
  | none => s

def execAbort (i : Nat) (s : State) : Res := if 24 ≤ i then .fault .noSuchUnit else .next (abortNext s i)

end Sys2Proof.Machine
end

