-- ==== Sys2Proof/Machine/LogPages.lean ====
section
/-! DEFINITION. LOG_READ and the log pages (spec/09 R265, R279, R280, spec/12 R354, R355, spec/14 R404, R406). -/
namespace Sys2Proof.Machine

/-- An entry of page 0x01 (R404). -/
def Event.bytes (e : Event) : List Byte :=
  leBytes 8 e.seq ++ leBytes 8 e.time ++ leBytes 8 e.tick ++ leBytes 2 e.code ++ leBytes 1 e.inst ++ leBytes 1 e.sev ++ bytesOf e.arg

/-- An entry of page 0x03 (R355). -/
def LostEntry.bytes (e : LostEntry) : List Byte :=
  leBytes 4 e.table ++ leBytes 1 e.col ++ leBytes 1 e.cause ++ leBytes 2 0 ++ leBytes 8 e.firstRow ++ leBytes 4 e.rows ++ leBytes 4 0 ++ leBytes 8 e.time

/-- An entry of page 0x04 (R279). -/
def TestLog.bytes (e : TestLog) : List Byte :=
  leBytes 1 e.kind ++ leBytes 1 e.result ++ leBytes 2 e.element ++ leBytes 4 e.index ++ leBytes 8 e.start ++ leBytes 8 e.testNs ++ leBytes 8 0

/-- Hours since the least recently scrubbed segment was read. -/
def State.scrubAge (s : State) : Nat := (s.flash.segments.map (fun g => ((s.now : Int) - g.scrubTick).toNat / (3600 * 10 ^ 9))).foldl max 0

/-- The lowest remaining spare pool of a die, in percent of its original (R345, R354). -/
def Flash.spareMin (f : Flash) : Nat := (f.spare.map (fun e => (sparePool - e.2 * Config.nandBlock) * 100 / sparePool)).foldl min 100

/-- Average and highest erase count of the slots (R347, R354). -/
def State.peAvg (s : State) : Nat := (s.flash.erases.map (fun e => e.2)).sum / s.slotCount
def State.peMax (s : State) : Nat := (s.flash.erases.map (fun e => e.2)).foldl max 0

/-- Page 0x02 (R354). The progress of a rebuild depends on time only: a free value up to 1,000. -/
def State.healthPage (s : State) (i : Nat) : List Byte × State :=
  match s.owner? i with
  | none => ([], s)
  | some o =>
    let f := s.flash
    let (w, s1) := s.free
    let run := !f.rebuild.isEmpty
    let flags := o.dry.toNat + run.toNat * 2 + s.resEmpty.toNat * 4 + o.lostDropped.toNat * 8
    (leBytes 1 1 ++ leBytes 1 flags ++ leBytes 2 f.dieFail.length ++ leBytes 1 f.spareMin ++ leBytes 1 (min 255 (f.written * 100 / (240000 * 2 ^ 40)))
      ++ leBytes 2 (if run then bits w 16 16 % 1001 else 0) ++ leBytes 4 (s.reserveBytes / 2 ^ 30) ++ leBytes 4 (ceilDiv f.reserveUsed (2 ^ 30)) ++ leBytes 8 (f.written / 2 ^ 30)
      ++ leBytes 4 s.peAvg ++ leBytes 4 s.peMax ++ leBytes 8 (s.userShare / 2 ^ 30) ++ leBytes 8 (o.userBytes / 2 ^ 30) ++ leBytes 8 o.dur
      ++ leBytes 8 (o.nextLsn - 1) ++ leBytes 4 s.scrubAge ++ leBytes 4 o.lost.length ++ List.replicate 184 0, s1)

/-- A log page as one snapshot for the reading instance; none where R265 does not list it. -/
def State.logPage (s : State) (i page : Nat) : Option (List Byte × State) :=
  match page with
  | 1 => some (((s.tl.log.filter (fun e => e.inst == i || e.inst == 0xFF)).map Event.bytes).flatten, s)
  | 2 => some (s.healthPage i)
  | 3 => some ((((s.owner? i).map (fun o => o.lost.map LostEntry.bytes)).getD []).flatten, s)
  | 4 => some ((s.sl.log.map TestLog.bytes).flatten, s)
  | 5 => some ((SMap.find s.tl.pages i).getD (s.telePage i), s)
  | _ => none

/-- LOG_READ (R258, R265): bytes beyond the page's end are written as zero. -/
def logRead (s : State) (i : Nat) (c : Cmd) : State :=
  let len := c.op 24 4
  if !addrOk (c.op 32 8) then s.complete i c.no 0x0109 0 else
  match s.logPage i (c.op 16 1) with
  | none => s.complete i c.no 0x010D 0
  | some (page, s1) =>
    if len % 64 ≠ 0 ∨ len < 64 ∨ 2 ^ 20 < len then s.complete i c.no 0x0107 0
    else ((s1.hostWrite (c.op 32 8) (slice page (c.op 20 4) len)).addAct i (fun a => { a with host := a.host + len })).complete i c.no 0 (BitVec.ofNat 64 len)

def execLogRead (s : State) : Res := .next (startCmd s 0x30 logRead)

end Sys2Proof.Machine
end

