-- ==== Sys2Proof/Machine/Commands.lean ====
section
/-! DEFINITION. The start of APPEND and FLUSH, of the table commands, BLOCK_EXPORT, PORT_CTL and OWNER_REKEY (spec/09 R258 to R267, spec/01 R20, spec/10
R307, spec/13 R380), and of the self-test and firmware commands (R266, R274 to R278). -/
namespace Sys2Proof.Machine

/-! ## APPEND and FLUSH -/

/-- The first failure of one descriptor of a host APPEND (R260). -/
def descBad (d : W128) : Option W16 :=
  if bits d 0 64 = 0 then some 0x0109 else if bits d 64 32 = 0 then some 0x0107 else if bits d 96 32 ≠ 0 then some 0x0104 else none

/-- Operand checks of a host APPEND (R258 to R260). -/
def hostAppendBad (c : Cmd) (descs : List W128) : Option W16 :=
  let len := c.op 16 4
  let dptr := c.op 24 8
  let n := c.op 32 2
  let ds := (List.range n).map (fun k => descs.getD k 0)
  if len = 0 ∨ 2 ^ 30 < len ∨ 256 < n then some 0x0107
  else if dptr = 0 ∨ (n ≠ 0 ∧ dptr % 64 ≠ 0) then some 0x0109
  else if n = 0 then none
  else (ds.findSome? descBad).or (if (ds.map (fun d => bits d 64 32)).sum = len then none else some 0x0108)

/-- Bytes of the instance's appends that have started and not landed. -/
def Inst.appending (x : Inst) : Nat := (x.cmds.map (fun c => match c.work with
  | .append a => a.len
  | _ => 0)).sum

/-- An owner's user flash has room for an append (R353): LEN and a thirty-second of it, beside what appends in progress will take. -/
def State.flashRoom (s : State) (i : Nat) (o : Owner) (len : Nat) : Bool :=
  decide (33 * (len + (s.inst i).appending) ≤ 32 * (s.userShare - o.userBytes))

/-- What the start of an append reserves (R102, R267): its intake buffer, and room for its column blocks at the bound of R20. -/
def State.reserveAppend (s : State) (i len ncol stride : Nat) : Option (Nat × Nat × State) :=
  match s.room i 64 len with
  | none => none
  | some (buf, s1) => match s1.room i 64 (chargeOf len ncol stride) with
    | none => none
    | some (blk, s2) => some (buf, blk, s2)

/-- The tag of a started field APPEND waits for a window (R302). -/
def State.holdTag (s : State) (c : Cmd) : State :=
  match c.src with
  | .ring => s
  | .field p tag id => match (s.port p).sess with
    | none => s
    | some x => match SMap.find x.tags tag with
      | none => s
      | some t =>
        if x.id ≠ id then s else
        let s1 := s.setPort p { s.port p with sess := some { x with tags := SMap.set x.tags tag { t with state := .held, order := s.fp.nextOrder } } }
        { s1 with fp := { s1.fp with nextOrder := s1.fp.nextOrder + 1 } }

/-- An APPEND's legality and reservations, and its start (R267, R299, R353). -/
def startAppend (descs : List W128) (s : State) (i : Nat) (c : Cmd) : State :=
  let fail := fun (st : W16) => s.complete i c.no st 0
  let len := c.op 16 4
  match (if c.src = .ring then hostAppendBad c descs else none) with
  | some st => fail st
  | none => match s.owner? i with
    | none => fail 0x0106
    | some o => match o.table? c.handle with
      | none => fail 0x0106
      | some t =>
        if o.dry then fail 0x0300
        else if len % t.stride ≠ 0 then fail 0x0146
        else if !s.flashRoom i o len then fail 0x0301
        else match s.reserveAppend i len t.cols.length t.stride with
          | none => fail 0x0301
          | some (buf, blk, s1) =>
            (s1.setWork i c.no (.append { table := t.id, len := len, bufDa := buf, roomDa := some blk, got := 0, charges := 0, full := false,
                                          made := 0, committed := 0 })).holdTag c

/-- APPEND (R260, R267). -/
def execAppend (descs : List W128) (s : State) : Res := .next (startCmd s 1 (startAppend descs))

/-- A piece or window of an append is charged (R20). -/
def State.chargeFor (s : State) (i tbl n : Nat) : Nat :=
  match (s.owner? i).bind (fun o => o.table? tbl) with
  | some t => chargeOf n t.cols.length t.stride
  | none => 0

/-- The oldest host APPEND with row data still to be read. -/
def Inst.reading (x : Inst) : Option (Cmd × AppendWork) :=
  x.cmds.findSome? (fun c => match c.work with
    | .append a => if c.src == .ring && decide (a.got < a.len) then some (c, a) else none
    | _ => none)

/-- HOST_APPEND_PIECE_READ (R20, R260): a piece of at most 256 KiB, unless metering withholds it. -/
def pieceRead (s : State) (i : Nat) (bs : List Byte) : State :=
  match (s.inst i).reading with
  | none => s
  | some (c, a) =>
    if bs.isEmpty || decide (262144 < bs.length) || decide (a.len - a.got < bs.length) || s.withheld i then s else
    let a1 := { a with got := a.got + bs.length, charges := a.charges + s.chargeFor i a.table bs.length, full := a.got + bs.length == a.len }
    let s1 := ((s.writeMem i (a.bufDa + a.got) bs).addAct i (fun x => { x with host := x.host + bs.length })).setAppend i c.no a1
    if a1.full then s1.pumpIngest i else s1

def execHostAppendPieceRead (i : Nat) (bs : List Byte) (s : State) : Res :=
  if 24 ≤ i then .fault .noSuchUnit else if s.mc.sweep then .next s else .next (pieceRead s i bs)

/-- FLUSH (R270): it starts and waits. -/
def startFlush (s : State) (i : Nat) (c : Cmd) : State := (s.setWork i c.no .flush).flushOne i c.no

def execFlush (s : State) : Res := .next (startCmd s 2 startFlush)

/-! ## Tables -/

/-- A schema's columns (R263). -/
def schemaCols (b : List Byte) : List ColDef :=
  (List.range (fieldLE b 0 1)).map (fun j => { ty := fieldLE b (8 + 8 * j) 1, pmask := fieldLE b (9 + 8 * j) 1, ref := fieldLE b (10 + 8 * j) 1 })

/-- One column of a schema (R263). -/
def colOk (cols : List ColDef) (e : ColDef × Nat) : Bool :=
  let c := e.1
  (colWidth c.ty).isSome && decide (c.pmask < 64) &&
  (if c.ref = 0xFF then !c.pmask.testBit 3 && !c.pmask.testBit 5
   else match cols[c.ref]? with
     | some r => decide (c.ref < e.2) && r.ref == 0xFF && colW r.ty == colW c.ty && !colFloat r.ty
     | none => false)

/-- The schema's check (R263). -/
def schemaOk (b : List Byte) (len : Nat) : Bool :=
  let n := fieldLE b 0 1
  decide (1 ≤ n) && decide (n ≤ 64) && len == 8 + 8 * n && allZero (slice b 1 7) && (List.range n).all (fun j => allZero (slice b (11 + 8 * j) 5))
    && (schemaCols b).zipIdx.all (colOk (schemaCols b))

/-- TABLE_CREATE (R263, R267, R343). -/
def tableCreate (schema : List Byte) (s : State) (i : Nat) (c : Cmd) : State :=
  let fail := fun (st : W16) => s.complete i c.no st 0
  let b := slice schema 0 (c.op 24 2)
  if !addrOk (c.op 16 8) then fail 0x0109
  else if !schemaOk b (c.op 24 2) then fail 0x010B
  else match s.owner? i with
    | none => fail 0x0200
    | some o =>
      if o.dry then fail 0x0300
      else if 1024 ≤ o.tables.length ∨ o.nextTable = 0xFFFFFFFF then fail 0x0302
      else
        let cols := schemaCols b
        let t : Table := { id := o.nextTable, cols := cols, rows := 0, blocks := cols.map (fun _ => []) }
        ((s.setOwner i { o with tables := o.tables ++ [t], nextTable := o.nextTable + 1 }).writeHeader i).complete i c.no 0 (BitVec.ofNat 64 t.id)

def execTableCreate (schema : List Byte) (s : State) : Res := .next (startCmd s 0x20 (tableCreate schema))

/-- Is a table used by a query or an append in progress (R267)? -/
def State.tableBusy (s : State) (i tbl : Nat) : Bool :=
  s.hg.queries.any (fun e => e.2.inst == i && !e.2.fin && (List.range (imgScans e.2.code)).any (fun k => fieldLE (scanEnt e.2.code k) 4 4 == tbl))
    || (s.inst i).cmds.any (fun d => match d.work with
      | .append a => a.table == tbl
      | _ => false)

/-- A table goes (R343, R355): its blocks leave memory, its page 0x03 entries with it; a durable frontier that rises is recorded in a checkpoint. -/
def State.dropTable (s : State) (i : Nat) (o : Owner) (t : Table) : State :=
  let das := t.blocks.flatten.filterMap Block.da
  let o1 := { o with tables := o.tables.filter (fun x => x.id != t.id), lost := o.lost.filter (fun e => e.table != t.id) }
  let s1 := (s.setOwner i (o1.setDur o1.frontier)).modInst i (fun x => { x with regions := x.regions.filter (fun r => !das.contains r.1) })
  let jobs := s1.flash.jobs.map (fun (j : SealJob) => if j.owner = i then { j with blocks := j.blocks.filter (fun b => b.1 != t.id) } else j)
  let s2 := ({ s1 with flash := { s1.flash with jobs := jobs.filter (fun j => !j.blocks.isEmpty) } }).writeHeader i
  if o1.frontier = o.dur then s2 else s2.checkpoint

/-- TABLE_DROP (R263, R267). -/
def tableDrop (s : State) (i : Nat) (c : Cmd) : State :=
  match s.owner? i with
  | none => s.complete i c.no 0x0106 0
  | some o => match o.table? c.handle with
    | none => s.complete i c.no 0x0106 0
    | some t => if s.tableBusy i t.id then s.complete i c.no 0x0200 0 else (s.dropTable i o t).complete i c.no 0 0

def execTableDrop (s : State) : Res := .next (startCmd s 0x21 tableDrop)

/-! ## BLOCK_EXPORT -/

/-- A block's bytes for the host: from memory, else from its sealed segment, whose reading may find losses; the status where they cannot be read
(R317, R346, R348). -/
def State.blockBytes (s : State) (i : Nat) (t : Table) (col : Nat) (b : Block) : Except W16 (List Byte) × State :=
  if b.lost then (.error 0x0401, s) else
  match b.da with
  | some da =>
    let (d, s1) := s.readMem i da b.len
    (match d with
      | some bs => .ok bs
      | none => .error 0x0700, s1)
  | none =>
    let seq := b.seg.getD 0
    let s1 := s.readSegment seq []
    match s1.seg? seq with
    | none => (.error 0x0401, s1)
    | some g => match g.placed.find? (fun e => e.2.table == t.id && e.2.col == col && b.isOf g.seq e.2) with
      | some e => if e.2.gone then (.error 0x0401, s1) else (.ok (s1.segBytes g e), s1.addAct i (fun a => { a with fread := a.fread + b.len }))
      | none => (.error 0x0401, s1)

/-- Blocks written one after another until one does not fit (R264): the status, bytes and blocks written. -/
def exportBlocks (i : Nat) (t : Table) (col addr cap : Nat) : List Block → Nat → Nat → State → W16 × Nat × Nat × State
  | [], n, k, s => (0, n, k, s)
  | b :: bs, n, k, s =>
    if cap < n + b.len then (0, n, k, s) else
    match s.blockBytes i t col b with
    | (.error st, s1) => (st, n, k, s1)
    | (.ok d, s1) => exportBlocks i t col addr cap bs (n + b.len) (k + 1) (s1.hostWrite (addr + n) d)

/-- BLOCK_EXPORT (R258, R259, R264), one step of the table at its snapshot (log entry 76). -/
def blockExport (s : State) (i : Nat) (c : Cmd) : State :=
  let addr := c.op 40 8
  let col := c.op 16 1
  let first := c.op 24 8
  let count := c.op 32 4
  if addr = 0 ∨ addr % 4096 ≠ 0 then s.complete i c.no 0x0109 0 else
  match (s.owner? i).bind (fun o => o.table? c.handle) with
  | none => s.complete i c.no 0x0106 0
  | some t =>
    if t.cols.length ≤ col ∨ count = 0 ∨ 65536 < count ∨ (t.col col).length ≤ first then s.complete i c.no 0x0107 0 else
    let (st, n, k, s1) := exportBlocks i t col addr (c.op 36 4) (((t.col col).drop first).take count) 0 0 s
    (s1.addAct i (fun a => { a with host := a.host + n })).complete i c.no st (BitVec.ofNat 64 (n + k * 2 ^ 32))

/-- BLOCK_EXPORT; a re-sweep holds its reads (R325). -/
def execBlockExport (s : State) : Res := if s.mc.sweep then .next s else .next (startCmd s 0x22 blockExport)

/-! ## PORT_CTL -/

/-- A PORT_CTL of some actions starts when it is the one whose turn it is; every one on YQ96-B is BAD_PORT (R259). -/
def startPort (s : State) (mine : Nat → Bool) (f : State → Nat → State) : State :=
  match s.nextStart with
  | none => s
  | some (i, c, t) =>
    if c.opc ≠ 0x31 ∨ mine (c.op 18 1) = false then s
    else if 3 ≤ c.op 18 1 then t.complete i c.no 0x0107 0
    else if instOfPort t.hi.n (c.op 16 2) ≠ some i ∨ 576 ≤ c.op 16 2 ∨ t.part.variant = .b then t.complete i c.no 0x010E 0
    else (f t (c.op 16 2)).complete i c.no 0 0

/-- Is a port disabled, is it quarantined (R306, R307)? -/
def State.portFlags (s : State) (p : Nat) : Bool × Bool := SMap.get s.flash.ports (false, false) p
def State.setPortFlags (s : State) (p : Nat) (x : Bool × Bool) : State := { s with flash := { s.flash with ports := SMap.set s.flash.ports p x } }

/-- A port's sessions end with a reason: the open one, the pending one and an OPEN in progress. -/
def State.endPort (s : State) (p reason : Nat) : State :=
  ((s.closeSession p reason).dropPending p).dropOpens p

/-- ACTION 0 (R307). -/
def portDisable (s : State) (p : Nat) : State :=
  if (s.portFlags p).1 then s else (s.endPort p 3).setPortFlags p (true, (s.portFlags p).2)

/-- PORT_CTL with ACTION 0, or a reserved one (R258, R307). -/
def execPortCtlDisable (s : State) : Res := .next (startPort s (fun a => a == 0 || decide (3 ≤ a)) portDisable)

/-- ACTION 1 (R307): link acquisition restarts. -/
def portEnable (s : State) (p : Nat) : State :=
  if (s.portFlags p).1 then (s.setPort p { s.port p with lock := false }).setPortFlags p (false, (s.portFlags p).2) else s

def execPortCtlEnable (s : State) : Res := .next (startPort s (fun a => a == 1) portEnable)

/-- ACTION 2 (R306, R307). -/
def portRelease (s : State) (p : Nat) : State :=
  if (s.portFlags p).2 then (s.setPort p { s.port p with authTicks := [] }).setPortFlags p ((s.portFlags p).1, false) else s

def execPortCtlRelease (s : State) : Res := .next (startPort s (fun a => a == 2) portRelease)

/-! ## OWNER_REKEY -/

/-- Does a job keyed from a slot run (R380 step 1)? -/
def State.keyedFrom (s : State) (k : Nat) : Bool :=
  s.dg.engines.any (fun e => (e.2.run.toList ++ e.2.stack).any (fun j => j.started && gKsrc j.desc && gKey j.desc % 1024 == k))

/-- Steps 2 to 4 of R380. -/
def State.rekey (s : State) (i no : Nat) (o : Owner) (oek : W512) : State :=
  let o1 := { o with gen := o.gen + 1 }
  (((s.setOwner i o1).writeHeaders i).setSlot (imageKeySlot i) (imageKey (bytesOf oek) o1.gen.toNat)).complete i no 0 (o1.gen.setWidth 64)

/-- A rekey that waits for a job keyed from its slot, with its command and owner. -/
def State.waitingRekey (s : State) : Option (Nat × Nat × Owner × W512) :=
  s.instList.findSome? (fun i => (s.inst i).cmds.findSome? (fun c =>
    match c.work, s.owner? i with
    | .rekey, some o => (match o.oek with
      | some k => if s.keyedFrom (imageKeySlot i) then none else some (i, c.no, o, k)
      | none => none)
    | _, _ => none))

/-- The start of OWNER_REKEY (R258, R267, R380). -/
def ownerRekey (s : State) (i : Nat) (c : Cmd) : State :=
  let busy := (s.inst i).cmds.any (fun d => match d.work with
    | .image _ => true
    | .rekey => true
    | _ => false)
  if c.op 16 1 ≠ 1 then s.complete i c.no 0x0107 0
  else if busy then s.complete i c.no 0x0200 0
  else match s.owner? i with
    | none => s.complete i c.no 0x0200 0
    | some o => match o.oek with
      | none => s.complete i c.no 0x0200 0
      | some k =>
        if o.gen = BitVec.allOnes 32 then s.complete i c.no 0x0302 0
        else if s.keyedFrom (imageKeySlot i) then s.setWork i c.no .rekey
        else s.rekey i c.no o k

/-- OWNER_REKEY (R380): one that waited takes its steps, once the supervisor is there (R395), else the next one starts. -/
def execOwnerRekey (s : State) : Res :=
  match s.waitingRekey with
  | some (i, no, o, k) => .next (if s.svUp then s.rekey i no o k else s)
  | none => .next (startCmd s 0x32 ownerRekey)

/-! ## Self-tests -/

/-- SELFTEST_START (R258, R267, R275). -/
def selftestStart (s : State) (i : Nat) (c : Cmd) : State :=
  let kind := c.op 16 1
  if kind ≠ 1 ∧ kind ≠ 2 then s.complete i c.no 0x0107 0
  else if s.sl.test ≠ .idle ∨ s.sl.act = true then s.complete i c.no 0x0200 0
  else ({ s with sl := { s.sl with test := .running, testKind := kind, testStart := s.now, testNs := 0, testTick := s.now } }).complete i c.no 0 0

def execSelftestStart (s : State) : Res := .next (startCmd s 0x40 selftestStart)

/-- SELFTEST_ABORT (R267, R278). -/
def selftestAbort (s : State) (i : Nat) (c : Cmd) : State :=
  if s.sl.test = .idle then s.complete i c.no 0x0200 0 else (s.endTest 2 0 0).complete i c.no 0 0

def execSelftestAbort (s : State) : Res := .next (startCmd s 0x41 selftestAbort)

/-! ## Firmware -/

/-- FW_DOWNLOAD (R258, R266, R267). -/
def fwDownload (bs : List Byte) (s : State) (i : Nat) (c : Cmd) : State :=
  let off := c.op 16 4
  let len := c.op 20 4
  if !addrOk (c.op 24 8) then s.complete i c.no 0x0109 0
  else if off % 4096 ≠ 0 ∨ len % 4096 ≠ 0 ∨ len < 4096 ∨ 2 ^ 20 < len ∨ (off ≠ 0 ∧ off ≠ s.sl.staged.length) ∨ 16 * 2 ^ 20 < off + len then s.complete i c.no 0x0107 0
  else if s.sl.act then s.complete i c.no 0x0200 0
  else
    let image := (if off = 0 then [] else s.sl.staged) ++ slice bs 0 len
    ({ s with sl := { s.sl with staged := image } }).complete i c.no 0 (BitVec.ofNat 64 image.length)

def execFwDownload (bs : List Byte) (s : State) : Res := .next (startCmd s 0x42 (fwDownload bs))

/-- Every command of an instance not yet started completes with RETRY_AFTER_ACTIVATION (R274 step 3). -/
def State.retryAll (s : State) (i : Nat) : State :=
  ((s.inst i).cmds.filter (fun c => c.phase == .queued)).foldl (fun (t : State) (c : Cmd) => t.complete i c.no 0x0601 0) s

/-- FW_ACTIVATE (R267, R274 steps 1 to 4), one step of the table: the check, then the pause. -/
def fwActivate (s : State) (i : Nat) (c : Cmd) : State :=
  if s.sl.staged.isEmpty ∨ s.sl.test ≠ .idle ∨ s.sl.act = true then s.complete i c.no 0x0200 0
  else
    let (ok, s0) := s.fwCheck s.sl.staged
    if !ok then s0.complete i c.no 0x0502 0 else
    let s1 := s0.setWork i c.no .activate
    let s2 := { s1 with sl := { s1.sl with act := true, actNo := c.no }, hg := { s1.hg with paused := true } }
    s2.instList.foldl State.retryAll s2

def execFwActivate (s : State) : Res := .next (startCmd s 0x43 fwActivate)

/-- Does a started command still run that the pause itself does not hold back (R274 step 4)? -/
def Inst.runsOn (x : Inst) : Bool :=
  x.cmds.any (fun c => c.phase == .started && (match c.work with
    | .append _ => false
    | .flush => false
    | .activate => false
    | _ => true))

/-- FW_SWITCH (R274 steps 5 and 6): the supervisor runs the new firmware, whose revision is its own (a free value), or the previous one. -/
def fwSwitch (s : State) (ok : Bool) : State :=
  if !s.sl.act || !s.svUp || s.instList.any (fun i => (s.inst i).runsOn) then s else
  let (w, s0) := s.free
  let s1 := { (if ok then s0 else s) with sl := { s.sl with act := false, revision := if ok then w else s.sl.revision }, hg := { s.hg with paused := false } }
  let s2 := (s1.instList.filter (fun i => (s1.inst i).state == .running)).foldl (fun (t : State) (i : Nat) => t.vfEvent i 5) s1
  let s3 := if ok then s2.logEvent 0x12 0xFF 0 w.toNat else s2
  if ok then s3.complete 0 s.sl.actNo 0 w else s3.complete 0 s.sl.actNo 0x0706 s.sl.revision

def execFwSwitch (startsOk : Bool) (s : State) : Res := .next (fwSwitch s startsOk)

end Sys2Proof.Machine
end

