-- ==== Sys2Proof/Machine/Alu.lean ====
section
/-! DEFINITION. Results of the scalar register and immediate operations (spec/05 R138 to R140), as functions of 64-bit words. -/
namespace Sys2Proof.Machine

/-- 1 or 0 as a word. -/
def flagW (b : Bool) : W64 := if b then 1#64 else 0#64

/-- Shift count of a register shift: rb[5:0] (R138). -/
def shiftCount (y : W64) : Nat := y.toNat % 64

def aluShl (x y : W64) : W64 := x <<< shiftCount y
def aluShr (x y : W64) : W64 := x >>> shiftCount y
def aluSar (x y : W64) : W64 := x.sshiftRight (shiftCount y)
def aluRor (x y : W64) : W64 := x.rotateRight (shiftCount y)
def aluSlt (x y : W64) : W64 := flagW (x.slt y)
def aluSltu (x y : W64) : W64 := flagW (x.ult y)
def aluMin (x y : W64) : W64 := if x.slt y then x else y
def aluMax (x y : W64) : W64 := if x.slt y then y else x
def aluMinu (x y : W64) : W64 := if x.ult y then x else y
def aluMaxu (x y : W64) : W64 := if x.ult y then y else x

/-- High 64 bits of the signed 128-bit product. -/
def aluMulh (x y : W64) : W64 := BitVec.ofInt 64 ((x.toInt * y.toInt) / (2 : Int) ^ 64)

/-- High 64 bits of the unsigned 128-bit product. -/
def aluMulhu (x y : W64) : W64 := BitVec.ofNat 64 (x.toNat * y.toNat / 2 ^ 64)

/-- Signed quotient truncated toward zero; all ones for a zero divisor; -2^63 by -1 gives -2^63 (R139). -/
def aluDiv (x y : W64) : W64 := if y = 0 then BitVec.allOnes 64 else BitVec.ofInt 64 (x.toInt.tdiv y.toInt)

def aluDivu (x y : W64) : W64 := if y = 0 then BitVec.allOnes 64 else BitVec.ofNat 64 (x.toNat / y.toNat)

/-- Signed remainder with the sign of ra; ra for a zero divisor (R139). -/
def aluRem (x y : W64) : W64 := if y = 0 then x else BitVec.ofInt 64 (x.toInt.tmod y.toInt)

def aluRemu (x y : W64) : W64 := if y = 0 then x else BitVec.ofNat 64 (x.toNat % y.toNat)

/-- Leading zero bits, 0 to 64. -/
def aluClz (x : W64) : W64 := BitVec.ofNat 64 (64 - bitWidth 64 x.toNat)

/-- Trailing zeros among `n` bits. -/
def trailing : Nat → Nat → Nat
  | 0, _ => 0
  | n + 1, x => if x % 2 = 1 then 0 else 1 + trailing n (x / 2)

def aluCtz (x : W64) : W64 := BitVec.ofNat 64 (trailing 64 x.toNat)

def aluPopc (x : W64) : W64 := BitVec.ofNat 64 (popCount 64 x.toNat)

/-- The eight bytes reversed. -/
def aluBswap (x : W64) : W64 := BitVec.ofNat 64 (leNat (leBytes 8 x.toNat).reverse)

def sextImm (imm : W16) : W64 := imm.signExtend 64
def zextImm (imm : W16) : W64 := imm.setWidth 64

/-- SHIFTI (R140): imm[5:0] is the count, imm[7:6] the kind. -/
def aluShifti (k : ShiftKind) (n : Nat) (x : W64) : W64 :=
  match k with
  | .shl => x <<< n
  | .shr => x >>> n
  | .sar => x.sshiftRight n
  | .ror => x.rotateRight n

/-- SHORI (R140). -/
def aluShori (x : W64) (imm : W16) : W64 := (x <<< 16) ||| zextImm imm

/-- Memory word after an atomic (R148): old, rb and the destination register's old value. -/
def amoMin (old x : W64) : W64 := if x.slt old then x else old
def amoMax (old x : W64) : W64 := if old.slt x then x else old

end Sys2Proof.Machine
end

