-- ==== Sys2Proof/Machine/Headgate.lean ====
section
/-! DEFINITION. The steps that Headgate takes on its own: dispatch, commit, creation of items, replay, extension (spec/04 R108, R114, R118 to R123, spec/03
R83), the progress monitor (spec/14 R392) and HG_CTL (R128). -/
namespace Sys2Proof.Machine

/-- DISPATCH (R114). -/
def execDispatch (s : State) : Res := if s.engineUp then .next (dispatchOne s) else .next s

/-- COMMIT (R118, R125). -/
def execCommit (slot : Nat) (s : State) : Res :=
  if 65536 ≤ slot then .fault .noSuchUnit else if s.mc.sweep then .next s else .next (s.commit slot)

/-- ROOT_ITEM_CREATE (R83, R108). -/
def execRootItemCreate (ctx : Nat) (s : State) : Res := if 1536 ≤ ctx then .fault .noSuchUnit else .next (createRoot s ctx)

/-- FLUME_ITEM_CREATE (R83, R88). -/
def execFlumeItemCreate (f : Nat) (s : State) : Res := if 4096 ≤ f then .fault .noSuchUnit else .next (createFlume s f)

/-- EXCH_ITEM_CREATE (R83, R93). -/
def execExchItemCreate (ctx : Nat) (s : State) : Res := if 1536 ≤ ctx then .fault .noSuchUnit else .next (createExch s ctx)

/-- BARRIER_ITEM_CREATE (R83). -/
def execBarrierItemCreate (ctx : Nat) (s : State) : Res := if 1536 ≤ ctx then .fault .noSuchUnit else .next (createBarrier s ctx)

/-- FLUME_EXTEND (R120). -/
def execFlumeExtend (i : Nat) (s : State) : Res := if 24 ≤ i then .fault .noSuchUnit else .next (flumeExtend s i)

/-- CORE_FAULT (R121 steps 1 and 2, R122, R123, R189). -/
def execCoreFault (c : Nat) (s : State) : Res :=
  if 96 ≤ c then .fault .noSuchUnit else if s.engineUp then .next (s.coreFault c) else .next s

/-- REPLAY_REQUEUE (R121 steps 3 and 4). -/
def execReplayRequeue (slot : Nat) (s : State) : Res := if 65536 ≤ slot then .fault .noSuchUnit else .next (s.replay slot)

/-- PROGRESS_MONITOR_EXPIRY (R392): 4 µs of a core that issues without a retirement; not while a re-sweep suspends memory. -/
def execProgressMonitorExpiry (c : Nat) (s : State) : Res :=
  if 96 ≤ c then .fault .noSuchUnit else
  let k := s.core c
  if s.engineUp && k.act == .running && !s.mc.sweep && decide (k.progress + 4000 ≤ s.now) then .next (s.coreFault c) else .next s

/-- HG_CTL.STATCLR (R128). -/
def statClear (s : State) : State :=
  { s with hg := { s.hg with stats := SMap.mapVals s.hg.stats (fun _ x => { x with waitMax := 0, waitSum := 0, disp := 0 }) } }

/-- HG_CTL_STATCLR (R128). -/
def execHgCtlStatclr (s : State) : Res := if s.isUp then .next (statClear s) else .next s

end Sys2Proof.Machine
end

