-- ==== Sys2Proof/Machine/Queries.lean ====
section
/-! DEFINITION. IMAGE_LOAD and IMAGE_UNLOAD (spec/03 R78, R80, spec/09 R262), and QUERY_RUN: the checks of R81 and the instantiation of R82 (spec/03 R81
to R87). -/
namespace Sys2Proof.Machine

/-! ## Images -/

/-- IMAGE_LOAD (R258, R262, R267): the copy is made and its tag's check begins. A copy with no 32 bytes for a TAG cannot match (log entry 32). -/
def imageLoad (image : List Byte) (s : State) (i : Nat) (c : Cmd) : State :=
  let len := c.op 24 4
  let b := slice image 0 len
  let id := BitVec.ofNat 64 (fieldLE b 8 8)
  let x := s.inst i
  if !addrOk (c.op 16 8) then s.complete i c.no 0x0109 0
  else if fieldLE b 4 4 ≠ len then s.complete i c.no 0x010A 0
  else if x.images.any (fun m => m.id == id) then s.complete i c.no 0x0200 0
  else if 64 ≤ x.images.length then s.complete i c.no 0x0302 0
  else if len < 32 then s.complete i c.no 0x0501 0
  else match s.room i 64 len with
    | none => s.complete i c.no 0x0301 0
    | some (da, s1) =>
      let s2 := ((s1.writeMem i da b).addAct i (fun a => { a with host := a.host + len })).modInst i (fun y =>
        { y with images := y.images ++ [{ id := id, da := da, bytes := b, loading := true }] })
      (s2.setWork i c.no (.image id)).imageCheck i c.no da len

def execImageLoad (image : List Byte) (s : State) : Res := if s.mc.sweep then .next s else .next (startCmd s 0x11 (imageLoad image))

/-- A loaded image by its handle. -/
def Inst.image? (x : Inst) (h : Nat) : Option Image := x.images.find? (fun m => !m.loading && m.id.toNat == h)

/-- IMAGE_UNLOAD (R80, R267). -/
def imageUnload (s : State) (i : Nat) (c : Cmd) : State :=
  match (s.inst i).image? c.handle with
  | none => s.complete i c.no 0x0106 0
  | some m =>
    if s.hg.queries.any (fun e => e.2.inst == i && !e.2.fin && e.2.image == m.id) then s.complete i c.no 0x0200 0
    else (((s.freeRegion i m.da).modInst i (fun y => { y with images := y.images.filter (fun z => z.id != m.id) })).complete i c.no 0 0)

def execImageUnload (s : State) : Res := .next (startCmd s 0x12 imageUnload)

/-! ## Morsels -/

/-- Columns along which a scan entry is cut (R86): column 0 alone where COLS is 0. -/
def scanCols (scan : List Byte) : List Nat :=
  let sel := (List.range 64).filter (fun j => (fieldLE scan 8 8).testBit j)
  if sel.isEmpty then [0] else sel

/-- May block k + 1 follow block k in one morsel: do all the columns' runs go on (R86)? -/
def sameRun (t : Table) (cols : List Nat) (k : Nat) : Bool :=
  cols.all (fun j => match (t.col j)[k]?, (t.col j)[k + 1]? with
    | some a, some b => a.run == b.run
    | _, _ => false)

/-- Block indices of a snapshot cut into morsels: (first, blocks). -/
def cutMorsels (t : Table) (cols : List Nat) (most : Nat) : List Nat → List (Nat × Nat) → List (Nat × Nat)
  | [], acc => acc.reverse
  | k :: ks, [] => cutMorsels t cols most ks [(k, 1)]
  | k :: ks, (f, n) :: acc =>
    if n < most ∧ sameRun t cols (k - 1) = true then cutMorsels t cols most ks ((f, n + 1) :: acc) else cutMorsels t cols most ks ((k, 1) :: (f, n) :: acc)

/-- The morsels of a scan entry at a snapshot, with their records placed from `da` on (R82, R87). -/
def scanMorsels (t : Table) (scan : List Byte) (snapshot da : Nat) : List Morsel :=
  let cols := scanCols scan
  let named := (List.range 64).filter (fun j => (fieldLE scan 8 8).testBit j)
  let size := roundUp (8 + 8 * named.length) 64
  let idx := (List.range (t.col 0).length).filter (fun k => match (t.col 0)[k]? with
    | some b => decide (b.lsn ≤ snapshot)
    | none => false)
  ((cutMorsels t cols (fieldLE scan 2 1) idx []).zipIdx).map (fun e =>
    { da := da + size * e.2, rows := (((t.col 0).drop e.1.1).take e.1.2).map Block.rows |>.sum, no := e.2, first := e.1.1, blocks := e.1.2,
      segs := ((named.map (fun j => (((t.col j).drop e.1.1).take e.1.2).filterMap Block.seg)).flatten).eraseDups })

/-- Bytes of the morsel records of a scan entry. -/
def morselRoom (scan : List Byte) (ms : List Morsel) : Nat :=
  roundUp (8 + 8 * ((List.range 64).filter (fun j => (fieldLE scan 8 8).testBit j)).length) 64 * ms.length

/-! ## QUERY_RUN -/

/-- Address checks of R258 and R259. -/
def queryAddrs (c : Cmd) : Bool :=
  (c.op 24 4 == 0 || addrOk (c.op 16 8)) && addrOk (c.op 32 8) && (c.op 40 8 == 0 || c.op 40 8 % 64 == 0)

/-- The lowest free context but the ingest context (R81 order 3, R82 step 1). -/
def State.freeCtx (s : State) (i : Nat) : Option Nat :=
  gapFrom ((i + 1) * ctxPer s.hi.n) (ingestCtx s.hi.n i + 1) (s.hg.queries.filter (fun e => decide (ingestCtx s.hi.n i < e.1)))

/-- A place for POOL_NEED bytes in a cluster's pool share (R81 order 4). -/
def State.freePool (s : State) (i cl need : Nat) : Option Nat :=
  match (clustersOf s.hi.n i).find? (fun e => e.1 == cl) with
  | none => none
  | some (_, lo, len) =>
    let taken := s.hg.queries.foldl (fun l e => match SMap.find e.2.poolBase cl with
      | some b => if imgPoolNeed e.2.code = 0 then l else insertRegion (b, imgPoolNeed e.2.code) l
      | none => l) []
    firstFit 256 need (lo + len) lo taken

/-- Free hardware flumes within the instance's limit (R81 order 5, R82 step 2). -/
def State.freeFlumes (s : State) (i n : Nat) : Option (List Nat) :=
  let used := (s.hg.flumes.filter (fun e => e.2.inst == i)).length
  let free := ((List.range 4096).filter (fun f => (s.flume? f).isNone)).take n
  if used + n ≤ 4096 / s.hi.n ∧ free.length = n then some free else none

/-- Scan entries that R81 order 6 does not allow. -/
def scansBad (o : Owner) (code : List Byte) : Option W16 :=
  (List.range (imgScans code)).findSome? (fun k =>
    let e := scanEnt code k
    match o.table? (fieldLE e 4 4) with
    | none => some 0x0106
    | some t => if fieldLE e 8 8 / 2 ^ t.cols.length = 0 then none else some 0x0107)

/-- The morsels of every scan entry, with the records from `da` on: (stage, morsels) in scan order, and where they end. -/
def allMorsels (o : Owner) (code : List Byte) (snapshot da : Nat) : List (Nat × List Morsel) × Nat :=
  (List.range (imgScans code)).foldl (fun (a : List (Nat × List Morsel) × Nat) (k : Nat) =>
    let e := scanEnt code k
    match o.table? (fieldLE e 4 4) with
    | none => a
    | some t =>
      let ms := scanMorsels t e snapshot a.2
      (a.1 ++ [(fieldLE e 1 1, ms)], a.2 + morselRoom e ms)) ([], da)

/-- Stages in ascending order with their morsels (R83). -/
def byStage (l : List (Nat × List Morsel)) : List (Nat × List Morsel) :=
  (List.range 64).filterMap (fun st => l.find? (fun e => e.1 == st))

/-- The hardware flumes of a query set up (R82 step 2). -/
def State.openFlumes (s : State) (i ctx : Nat) (code : List Byte) (fl : List Nat) : State :=
  (fl.zipIdx).foldl (fun (t : State) (e : Nat × Nat) =>
    t.setFlume e.1 { inst := i, ctx := ctx, image := e.2, depth := flDepth (flumeEnt code e.2), pages := [], staged := 0, posts := [] }) s

/-- The morsel records whose columns lie in memory are written (R82 step 6). -/
def State.writeMorsels (s : State) (q : Query) : State :=
  q.morsels.foldl (fun (t : State) (e : Nat × List Morsel) =>
    let scan := scanEnt q.code (stIn (stageEnt q.code e.1))
    e.2.foldl (fun (u : State) (m : Morsel) => if u.morselReady q.inst m then u.writeMorsel q scan m else u) t) s

/-- R82 after every check of R81 has passed: `place` is (context, pools, flumes, arena). -/
def State.instantiate (s : State) (i : Nat) (c : Cmd) (m : Image) (o : Owner) (params : List Byte) (ctx : Nat) (pools : List (Nat × Nat)) (fl : List Nat)
    (arena len : Nat) : State :=
  let code := m.bytes
  let snapshot := o.nextLsn - 1
  let paramDa := arena + roundUp (imgLeaseNeed code) 64
  let recs := (allMorsels o code snapshot (paramDa + roundUp (imgParamLen code) 64)).1
  let q : Query :=
    { inst := i, cmd := c.no, cid := c.cid, image := m.id, code := code, snapshot := snapshot, flumes := fl, clusters := pools.map (fun e => e.1),
      poolBase := pools, arenaDa := arena, arenaLen := len, leaseNeed := imgLeaseNeed code - flumeStore code, paramDa := paramDa, morsels := byStage recs,
      rootTurn := 0, exchMade := [], barrierMade := [], used := [], handed := [], nextHanded := 0, parcels := [], written := 0, raw := [],
      dest := (c.op 32 8, c.op 28 4, 0), next := c.op 40 8, buf := none, status := none, fin := false }
  let s1 := ((s.openFlumes i ctx code fl).setQuery ctx q).setWork i c.no (.query ctx)
  ((s1.writeMem i paramDa (slice params 0 (imgParamLen code))).writeMorsels q).addAct i (fun a => { a with host := a.host + imgParamLen code })

/-- QUERY_RUN (R81, R82, R261). -/
def queryRun (params : List Byte) (s : State) (i : Nat) (c : Cmd) : State :=
  let fail := fun (st : W16) => s.complete i c.no st 0
  if !queryAddrs c then fail 0x0109 else
  match (s.inst i).image? c.handle, s.owner? i with
  | some m, some o =>
    let code := m.bytes
    if c.op 24 4 ≠ imgParamLen code then fail 0x0107 else
    match s.freeCtx i with
    | none => fail 0x0303
    | some ctx => match (s.liveClusters i).mapM (fun cl => (s.freePool i cl (imgPoolNeed code)).map (fun b => (cl, b))) with
      | none => fail 0x0302
      | some pools => match s.freeFlumes i (imgFlumes code) with
        | none => fail 0x0302
        | some fl => match scansBad o code with
          | some st => fail st
          | none =>
            let fixed := roundUp (imgLeaseNeed code) 64 + roundUp (imgParamLen code) 64
            let len := (allMorsels o code (o.nextLsn - 1) fixed).2
            match s.room i 4096 (max len 64) with
            | none => fail 0x0301
            | some (arena, s1) => match s1.owner? i with
              | some o1 => s1.instantiate i c m o1 params ctx pools fl arena len
              | none => fail 0x0301
  | _, _ => fail 0x0106

def execQueryRun (params : List Byte) (s : State) : Res := if s.mc.sweep then .next s else .next (startCmd s 0x10 (queryRun params))

end Sys2Proof.Machine
end

