-- ==== Sys2Proof/Machine/FieldPorts.lean ====
section
/-! DEFINITION. Field ports (spec/10): the checks of frames (R285 to R299, R432), the opening of sessions (R292), grants and data (R301 to R304), keepalives
(R295), quarantine (R306), and links (R284). -/
namespace Sys2Proof.Machine

/-! ## Fields of a frame (R287) -/

def fVersion (b : List Byte) : Nat := fieldLE b 0 1
def fType (b : List Byte) : Nat := fieldLE b 1 1
def fPort (b : List Byte) : Nat := fieldLE b 2 2
def fSession (b : List Byte) : Nat := fieldLE b 4 4
def fSeq (b : List Byte) : Nat := fieldLE b 8 4
def fTag (b : List Byte) : Nat := fieldLE b 12 1
def fFlags (b : List Byte) : Nat := fieldLE b 13 1
def fLen (b : List Byte) : Nat := fieldLE b 14 2
def fArg0 (b : List Byte) : Nat := fieldLE b 16 8
def fArg1 (b : List Byte) : Nat := fieldLE b 24 8
def fPay (b : List Byte) : List Byte := b.drop 48

/-- AUTH as the frame carries it, and as the key gives it (R289). -/
def authOk (key b : List Byte) : Bool := slice b 32 16 == wfpAuth key (slice b 0 32) (fPay b)

/-! ## Format checks (R432) -/

/-- Does a type name a tag of a command? -/
def tagType (ty : Nat) : Bool := ty == 0x10 || ty == 0x16 || ty == 0x12 || ty == 0x14

/-- Steps 1 to 3 of R432. -/
def earlyBad (b : List Byte) (inUse : Bool) : Option W16 :=
  let ty := fType b
  let tag := fTag b
  let known := ty == 1 || tagType ty || ty == 0x21 || (ty == 0x20 && fArg0 b % 256 == 1)
  let tagOk := if tagType ty then decide (tag < 64) else if ty == 0x20 then decide (tag < 64) || tag == 0xFF else tag == 0xFF
  if !known then some 0x0140 else if !tagOk then some 0x0141 else if (ty == 0x10 || ty == 0x16) && inUse then some 0x0142 else none

/-- LENGTH as R288 gives it. -/
def lenOk (b : List Byte) : Bool :=
  match fType b with
  | 1 => fLen b == 32
  | 0x12 => decide (1 ≤ fLen b) && decide (fLen b ≤ 8192)
  | _ => fLen b == 0

/-- Steps 4 and 5. -/
def middleBad (b : List Byte) (p : Nat) : Option W16 := if fPort b ≠ p then some 0x0148 else if !lenOk b then some 0x0144 else none

/-- Step 6: every other fixed field. -/
def fixedOk (b : List Byte) : Bool :=
  let ty := fType b
  let command := ty == 0x10 || ty == 0x16
  (if command then fFlags b / 2 == 0 else fFlags b == 0) &&
  (match ty with
   | 1 => fSession b == 0 && fSeq b == 0 && fArg0 b == 0 && fArg1 b == 0 && allZero (slice (fPay b) 28 4)
   | 0x10 => fArg1 b / 2 ^ 32 == 0
   | 0x12 => fArg1 b == 0
   | 0x20 => fArg0 b == 1 && fArg1 b == 0
   | _ => fArg0 b == 0 && fArg1 b == 0)

/-- Steps 6 and 7. -/
def lateBad (b : List Byte) : Option W16 :=
  if !fixedOk b then some 0x0143 else if fType b = 0x10 ∧ (fArg0 b = 0 ∨ 2 ^ 30 < fArg0 b) then some 0x0145 else none

/-! ## Counters and authentication failures -/

def State.modPort (s : State) (p : Nat) (f : Port → Port) : State := s.setPort p (f (s.port p))
def State.countProto (s : State) (p : Nat) : State := s.modPort p (fun x => { x with protoErr := satInc x.protoErr })

/-- A frame fails AUTH (R290 order 5, R306): counted, and the port is quarantined at THR failures within 1 s, an FPEVENT (R207). -/
def State.authFail (s : State) (p : Nat) : State :=
  let x := s.port p
  let recent := s.now :: x.authTicks.filter (fun t => decide (s.now < t + 10 ^ 9))
  let s1 := s.setPort p { x with authErr := satInc x.authErr, authTicks := recent }
  if recent.length < s.fp.quar.toNat then s1 else
  (((s1.endPort p 4).setPortFlags p ((s.portFlags p).1, true)).svEdge 7).logEvent 0x0E ((instOfPort s.hi.n p).getD 0xFF) 2 p

/-! ## OPEN (R292) -/

/-- STATUS REFUSED, at most one per 10 ms; within them the OPEN is dropped and counted. An AUTH failure has been counted before. -/
def State.refuse (s : State) (p : Nat) (mac : BitVec 48) (st : W16) (gen : W32) : State :=
  let x := s.port p
  let soon := match x.refusal with
    | some t => decide (s.now < t + 10 ^ 7)
    | none => false
  if soon then (if st = 0x0500 then s else s.countProto p) else
  let head := wfpHead 0x20 p 0 0 0xFF 0 0 (5 + st.toNat * 2 ^ 16) gen.toNat
  (s.setPort p { x with refusal := some s.now }).emit (.frame p mac (portMac p) (head ++ List.replicate 16 0))

/-- A port of an instance that is NONE or FAILED accepts no OPEN (R292 step 2, R293). -/
def InstState.closed : InstState → Bool
  | .none => true
  | .failedLink => true
  | .failedHard => true
  | _ => false

/-- The lowest EMPTY general slot (R375; log entry 15). -/
def State.generalSlot (s : State) : Option Nat := gapFrom 1024 704 (s.keys.slots.filter (fun e => decide (704 ≤ e.1)))

/-- An OPEN checked (R292 step 2, R381): refused, or its port key derived into a general slot. -/
def State.rxOpen (s : State) (p : Nat) (f : Frame) : State :=
  let b := f.payload
  let i := (instOfPort s.hi.n p).getD 24
  let gen : W32 := ((s.owner? i).map (fun o => o.gen)).getD 0
  let refuse := fun (st : W16) => s.refuse p f.src st gen
  if decide (s.hi.n ≤ i) || (s.inst i).state.closed then refuse 0x0200 else
  match (earlyBad b false).or (middleBad b p) with
  | some st => refuse st
  | none =>
    let pk := s.portKey i p
    if gen = 0 ∨ fieldLE (fPay b) 24 4 ≠ gen.toNat then refuse 0x0147
    else if !authOk (pk ++ List.replicate 32 0) b then
      let s1 := s.authFail p
      if (s1.portFlags p).2 then s1 else s1.refuse p f.src 0x0500 gen
    else if !fixedOk b then refuse 0x0143
    else match s.generalSlot with
      | none => s
      | some k =>
        (s.setSlot k pk).modPort p (fun x => { x with rxOk := satInc x.rxOk, opens := x.opens ++ [{ unonce := slice (fPay b) 0 16, mac := f.src, slot := k }] })

/-- OPEN_ACK (R292 step 3): SESSION, ENONCE and the session key; the new session is pending. -/
def openAck (s : State) (p : Nat) : State :=
  match (s.port p).opens with
  | [] => s
  | r :: rest =>
    if !s.svUp then s else
    let id := (s.port p).nextId
    let en := s.enonce p id
    let sk := sessionKey ((s.slotBytes r.slot).take 32) r.unonce en p id
    let s1 := (s.dropPending p).zeroSlot r.slot
    let slot := if (s1.port p).sess.isSome then s1.generalSlot.getD (128 + p) else 128 + p
    let x : Session := { id := id, slot := slot, mac := r.mac, rx := 0, tx := 0, rxTick := s.now, txTick := s.now, tags := [] }
    let s2 := (s1.setSlot slot sk).setPort p { s1.port p with opens := rest, pend := some x, nextId := if id = BitVec.allOnes 32 then 1 else id + 1 }
    let pay := en ++ leBytes 4 s.fp.tmo.toNat ++ leBytes 2 s.fp.ka.toNat ++ [64] ++ List.replicate 9 0
    s2.wire p x 0 0x02 0xFF 0 0 pay

/-! ## Frames of a session -/

/-- The first frame accepted under the pending session opens it (R292 step 5): the previous one closes with reason 1, and its key takes the port's slot. -/
def State.promote (s : State) (p : Nat) : State :=
  match (s.port p).pend with
  | none => s
  | some x =>
    let key := s.slotBytes x.slot
    let s1 := ((s.closeSession p 1).zeroSlot x.slot).setSlot (128 + p) key
    s1.setPort p { s1.port p with sess := some { x with slot := 128 + p }, pend := none }

/-- STATUS REJECT (R297, R299). -/
def State.reject (s : State) (p : Nat) (b : List Byte) (st : W16) : State :=
  (s.countProto p).send p 0x20 (fTag b) (3 + st.toNat * 2 ^ 16 + fSeq b * 2 ^ 32) 0

/-- The ring entry that a field command would be (R254, R259): class 1, HANDLE and LEN. -/
def fieldEntry (opc tag flags table len : Nat) : List Byte :=
  leBytes 2 opc ++ leBytes 2 tag ++ [1, BitVec.ofNat 8 (flags % 2 * 4)] ++ leBytes 2 0 ++ leBytes 8 table ++ leBytes 4 len ++ List.replicate 44 0

/-- An APPEND or FLUSH takes its tag and enters class 1 (R254, R298); during a firmware switch it is turned back (R274). -/
def State.takeTag (s : State) (i p : Nat) (x : Session) (b : List Byte) (opc len : Nat) : State :=
  let tag := fTag b
  let no := (s.inst i).nextNo
  let t : Tag := { state := if opc = 1 then .queued else .flush, cmd := no, len := len, next := 0, windows := [], order := 0 }
  let c : Cmd := { no := no, src := .field p tag x.id, cid := BitVec.ofNat 16 tag, opc := opc, cls := 1, fence := (fFlags b).testBit 0,
                   bytes := fieldEntry opc tag (fFlags b) (fArg1 b % 2 ^ 32) len, phase := .queued, work := .none, batch := none }
  let s1 := s.setPort p { s.port p with sess := some { x with tags := SMap.set x.tags tag t } }
  let s2 := (s1.modInst i (fun y => { y with nextNo := no + 1, cmds := y.cmds ++ [c] })).pauseTest
  if s.sl.act then s2.complete i no 0x0601 0 else s2

/-- Bytes [lo, hi) joined to the ranges received. -/
def addRange (lo hi : Nat) : List (Nat × Nat) → List (Nat × Nat)
  | [] => [(lo, hi)]
  | (a, b) :: rs => if hi < a then (lo, hi) :: (a, b) :: rs else if b < lo then (a, b) :: addRange lo hi rs else addRange (min a lo) (max b hi) rs

/-- A window after some bytes of the append have come. -/
def Window.take (w : Window) (lo hi : Nat) : Window :=
  let a := max lo w.off
  let b := min hi (w.off + w.len)
  if a < b then { w with got := addRange a b w.got } else w

def Window.received (w : Window) : Nat := (w.got.map (fun r => r.2 - r.1)).sum
def Window.filled (w : Window) : Bool := w.received == w.len

/-- Where contiguous outstanding windows from `pos` on end. -/
def coverEnd : List Window → Nat → Nat
  | [], pos => pos
  | w :: ws, pos => if w.off ≤ pos ∧ pos < w.off + w.len then coverEnd ws (w.off + w.len) else coverEnd ws pos

/-- A DATA frame (R301, R302). One that names a tag in FREE, QUEUED or HELD, or a FLUSH's tag, is dropped and counted. -/
def State.rxData (s : State) (i p : Nat) (x : Session) (b : List Byte) : State :=
  match SMap.find x.tags (fTag b) with
  | none => s.countProto p
  | some t =>
    if t.state ≠ .granted ∧ t.state ≠ .full then s.countProto p else
    let off := fArg0 b
    let stop := off + (fPay b).length
    if coverEnd t.windows off < stop then s.complete i t.cmd 0x0800 0 else
    match ((s.inst i).cmd? t.cmd).map Cmd.work with
    | some (.append a) =>
      let ws := (t.windows.map (fun (w : Window) => w.take off stop)).filter (fun w => !w.filled)
      let full := t.next == t.len && ws.isEmpty
      let t1 := { t with windows := ws, state := if full then TagState.full else t.state }
      let s1 := (s.setPort p { s.port p with sess := some { x with tags := SMap.set x.tags (fTag b) t1 },
                                             dataBytes := (s.port p).dataBytes + BitVec.ofNat 64 (stop - off) }).addAct i (fun y => { y with field := y.field + (stop - off) })
      let s2 := s1.writeMem i (a.bufDa + off) (fPay b)
      if full then (s2.setAppend i t.cmd { a with got := a.len, full := true }).pumpIngest i else s2
    | _ => s.countProto p

/-- A field ABORT acts at receipt (R272, R302, R303): the target's RESP, then ABORT_RESP. -/
def State.rxAbort (s : State) (i p : Nat) (x : Session) (b : List Byte) : State :=
  let tag := fTag b
  match (SMap.find x.tags tag).bind (fun t => (s.inst i).cmd? t.cmd) with
  | none => s.send p 0x15 tag 0x0602 0
  | some c => let r := s.abortTarget i c; r.1.send p 0x15 tag r.2.toNat 0

/-- STATUS REPORT (R297). -/
def State.report (s : State) (i p : Nat) (x : Session) (tag : Nat) : State :=
  let off := match (SMap.find x.tags tag).bind (fun t => t.windows.head?) with
    | some w => (match w.got.head? with
      | some (a, e) => if a = w.off then e else w.off
      | none => w.off)
    | none => 0xFFFFFFFF
  s.send p 0x20 tag (2 + off * 2 ^ 32) (((s.owner? i).map (fun o => o.dur)).getD 0)

/-- A frame that has passed R290 orders 1 to 6, on the open session: order 7 and its effect. -/
def State.rxSession (s : State) (p : Nat) (b : List Byte) : State :=
  match (s.port p).sess, instOfPort s.hi.n p with
  | some x, some i =>
    let ty := fType b
    let command := ty == 0x10 || ty == 0x16
    match earlyBad b (SMap.find x.tags (fTag b)).isSome with
    | some st => s.reject p b st
    | none => match (middleBad b p).or (lateBad b) with
      | some st => if command then s.send p 0x13 (fTag b) st.toNat 0 else s.reject p b st
      | none =>
        if ty = 0x10 then s.takeTag i p x b 1 (fArg0 b)
        else if ty = 0x16 then s.takeTag i p x b 2 0
        else if ty = 0x12 then s.rxData i p x b
        else if ty = 0x14 then (s.rxAbort i p x b).pauseTest
        else if ty = 0x20 then s.report i p x (fTag b)
        else s
  | _, _ => s

/-- A frame accepted on a session (R290 order 6, R292 step 5, R294). -/
def State.rxAccept (s : State) (p : Nat) (x : Session) (pending : Bool) (b : List Byte) : State :=
  let y := { x with rx := BitVec.ofNat 32 (fSeq b), rxTick := s.now }
  let z := s.port p
  let s1 := if pending then (s.setPort p { z with pend := some y, rxOk := satInc z.rxOk }).promote p
            else s.setPort p { z with sess := some y, rxOk := satInc z.rxOk }
  let s2 := s1.rxSession p b
  if fSeq b = 0xFFFFFFFF then s2.closeSession p 5 else s2

/-- A frame arrives at a port (R290). Nothing arrives on a failed lane, before READY, or on YQ96-B, whose optics are not fitted (R2). -/
def State.rxFrame (s : State) (p : Nat) (f : Frame) : State :=
  let b := f.payload
  let z := s.port p
  let fl := s.portFlags p
  if !s.isUp || z.laneFault || s.part.variant == .b then s
  else if !f.fcsOk then s.setPort p { z with fcsErr := satInc z.fcsErr }
  else if f.size < 64 ∨ 9216 < f.size ∨ f.etherType ≠ 0x88B5 then s.setPort p { z with drop := satInc z.drop }
  else if b.length < 48 ∨ fVersion b ≠ 1 ∨ fLen b ≠ b.length - 48 then s.countProto p
  else if fl.1 || fl.2 then s.setPort p { z with drop := satInc z.drop }
  else if fType b = 1 then s.rxOpen p f
  else
    let named := fun (x : Option Session) => x.any (fun y => y.id.toNat == fSession b)
    let pending := !named z.sess && named z.pend
    match (if named z.sess then z.sess else if pending then z.pend else none) with
    | none => s.countProto p
    | some x =>
      if !authOk (s.slotBytes x.slot) b then s.authFail p
      else if fSeq b ≤ x.rx.toNat then s.setPort p { z with replay := satInc z.replay }
      else s.rxAccept p x pending b

/-! ## The rows -/

/-- Is a frame of a type? -/
def frameIs (f : Frame) (ty : Nat) : Bool := fType f.payload == ty

/-- Does R288 list the frame's type for the unit, with KIND 1 for a STATUS? -/
def frameOfUnit (f : Frame) : Bool :=
  [0x01, 0x10, 0x12, 0x14, 0x16, 0x21].contains (fType f.payload) || (fType f.payload == 0x20 && fArg0 f.payload % 256 == 1)

/-- Order 1 of R290. -/
def frameWhole (f : Frame) : Bool := f.fcsOk && decide (64 ≤ f.size) && decide (f.size ≤ 9216) && f.etherType == 0x88B5

/-- OPEN (R292). -/
def execOpenFrame (p : Nat) (f : Frame) (s : State) : Res := if 576 ≤ p then .fault .noSuchUnit else .next (if frameIs f 0x01 then s.rxFrame p f else s)

/-- OPEN_ACK (R292). -/
def execOpenAck (p : Nat) (s : State) : Res := if 576 ≤ p then .fault .noSuchUnit else .next (if s.isUp then openAck s p else s)

/-- PENDING_SESSION_LAPSE (R292). -/
def execPendingSessionLapse (p : Nat) (s : State) : Res :=
  if 576 ≤ p then .fault .noSuchUnit else
  .next (if (s.port p).pend.any (fun x => decide (x.rxTick + 10 ^ 9 ≤ s.now)) then s.dropPending p else s)

/-- APPEND_FRAME (R298, R302). -/
def execAppendFrame (p : Nat) (f : Frame) (s : State) : Res := if 576 ≤ p then .fault .noSuchUnit else .next (if frameIs f 0x10 then s.rxFrame p f else s)

/-- FLUSH_FRAME (R298). -/
def execFlushFrame (p : Nat) (f : Frame) (s : State) : Res := if 576 ≤ p then .fault .noSuchUnit else .next (if frameIs f 0x16 then s.rxFrame p f else s)

/-- ABORT_FRAME (R303). -/
def execAbortFrame (p : Nat) (f : Frame) (s : State) : Res := if 576 ≤ p then .fault .noSuchUnit else .next (if frameIs f 0x14 then s.rxFrame p f else s)

/-- DATA (R301). -/
def execDataFrame (p : Nat) (f : Frame) (s : State) : Res := if 576 ≤ p then .fault .noSuchUnit else .next (if frameIs f 0x12 then s.rxFrame p f else s)

/-- STATUS_QUERY (R297). -/
def execStatusQuery (p : Nat) (f : Frame) (s : State) : Res :=
  if 576 ≤ p then .fault .noSuchUnit else .next (if frameIs f 0x20 && fArg0 f.payload % 256 == 1 then s.rxFrame p f else s)

/-- KEEPALIVE (R295). -/
def execKeepalive (p : Nat) (f : Frame) (s : State) : Res := if 576 ≤ p then .fault .noSuchUnit else .next (if frameIs f 0x21 then s.rxFrame p f else s)

/-- OTHER_FRAME (R290): a frame that fails order 1 or is of no type of the unit's. -/
def execOtherFrame (p : Nat) (f : Frame) (s : State) : Res := if 576 ≤ p then .fault .noSuchUnit else .next (if !(frameWhole f && frameOfUnit f) then s.rxFrame p f else s)

/-! ## Grants (R301, R304) -/

def Tag.wants (t : Tag) : Bool := t.state == .held || (t.state == .granted && decide (t.next < t.len))

/-- Bytes granted and not received, module-wide (R304, R309). -/
def State.inflight (s : State) : Nat :=
  (s.fp.ports.map (fun e => ((e.2.sess.map (fun x => (x.tags.map (fun t => (t.2.windows.map (fun w => w.len - w.received)).sum)).sum)).getD 0))).sum

/-- The earliest-started of some tags. -/
def firstTag (l : List (Nat × Tag)) : Option (Nat × Tag) :=
  l.foldl (fun (a : Option (Nat × Tag)) (t : Nat × Tag) => match a with
    | none => some t
    | some u => if t.2.order < u.2.order then some t else some u) none

/-- The waiting tag of a port whose turn it is: turns go in the order the APPENDs started, after the one served last; none where two windows are
outstanding. -/
def Port.turn (z : Port) : Option (Nat × Tag) :=
  match z.sess with
  | none => none
  | some x =>
    if 2 ≤ (x.tags.map (fun t => t.2.windows.length)).sum then none else
    let ready := x.tags.filter (fun t => t.2.wants)
    (firstTag (ready.filter (fun t => decide (z.lastTurn < t.2.order)))).or (firstTag ready)

/-- The port and tag of an instance whose turn it is: ports in turn after the one served last. -/
def State.grantTurn (s : State) (i : Nat) : Option (Nat × Nat × Tag) :=
  let x := s.inst i
  if x.stall || x.state == .resetting || s.withheld i then none else
  let ready := s.fp.ports.filterMap (fun e => if instOfPort s.hi.n e.1 = some i then e.2.turn.map (fun t => (e.1, t.1, t.2)) else none)
  (ready.find? (fun r => match SMap.find s.sl.lastGrantPort i with
    | some l => decide (l < r.1)
    | none => true)).or ready.head?

/-- GRANT (R301, R304): the next window, charged under R20. -/
def grant (s : State) : State :=
  let n := s.hi.n
  let first := match s.sl.lastGrantInst with
    | some l => l + 1
    | none => 0
  if !s.isUp || decide (s.fp.inflight.toNat * 2 ^ 20 ≤ s.inflight) then s else
  match ((List.range n).map (fun k => (first + k) % n)).findSome? (fun i => (s.grantTurn i).map (fun r => (i, r))) with
  | none => s
  | some (i, p, tag, t) => match (s.port p).sess, ((s.inst i).cmd? t.cmd).map Cmd.work with
    | some x, some (.append a) =>
      let w : Window := { off := t.next, len := min 262144 (t.len - t.next), got := [], tick := s.now }
      let t1 := { t with state := TagState.granted, next := t.next + w.len, windows := t.windows ++ [w] }
      let s1 := (s.setPort p { s.port p with sess := some { x with tags := SMap.set x.tags tag t1 }, lastTurn := t.order }).setAppend i t.cmd
        { a with charges := a.charges + s.chargeFor i a.table w.len }
      ({ s1 with sl := { s1.sl with lastGrantInst := some i, lastGrantPort := SMap.set s1.sl.lastGrantPort i p } }).send p 0x11 tag w.off w.len
    | _, _ => s

def execGrant (s : State) : Res := .next (grant s)

/-- GRANT_TIMER_EXPIRY (R301, R302): a window has stood unfilled for FP_GRANT_TMO. -/
def grantExpiry (s : State) (p tag : Nat) : State :=
  match (s.port p).sess, instOfPort s.hi.n p with
  | some x, some i => (match SMap.find x.tags tag with
    | some t => if t.windows.any (fun w => decide (w.tick + 1000 * s.fp.tmo.toNat ≤ s.now)) then s.complete i t.cmd 0x0801 0 else s
    | none => s)
  | _, _ => s

def execGrantTimerExpiry (p tag : Nat) (s : State) : Res := if 576 ≤ p then .fault .noSuchUnit else .next (grantExpiry s p tag)

/-! ## Keepalives and links -/

/-- KEEPALIVE_SEND (R295). -/
def execKeepaliveSend (p : Nat) (s : State) : Res :=
  if 576 ≤ p then .fault .noSuchUnit else
  .next (if (s.port p).sess.any (fun x => decide (x.txTick + 10 ^ 6 * s.fp.ka.toNat ≤ s.now)) then s.send p 0x21 0xFF 0 0 else s)

/-- KEEPALIVE_TIMEOUT (R295). -/
def execKeepaliveTimeout (p : Nat) (s : State) : Res :=
  if 576 ≤ p then .fault .noSuchUnit else
  .next (if (s.port p).sess.any (fun x => decide (x.rxTick + 4 * 10 ^ 6 * s.fp.ka.toNat ≤ s.now)) then s.closeSession p 2 else s)

/-- LANE_FAULT (R207, R284, R295, R405): out of service until the next power-on or PERST#. -/
def execLaneFault (p : Nat) (s : State) : Res :=
  if 576 ≤ p then .fault .noSuchUnit else
  if !s.engineUp || (s.port p).laneFault || s.part.variant == .b then .next s else
  let s1 := (s.endPort p 7).modPort p (fun z => { z with laneFault := true, lock := false })
  .next ((s1.svEdge 7).logEvent 0x0D ((instOfPort s.hi.n p).getD 0xFF) 1 p)

/-- FIELD_LINK_UP (R284): block lock. -/
def execFieldLinkUp (p : Nat) (s : State) : Res :=
  if 576 ≤ p then .fault .noSuchUnit else
  .next (if s.engineUp && !(s.port p).laneFault && s.part.variant != .b then s.modPort p (fun z => { z with lock := true }) else s)

/-- FIELD_LINK_DOWN (R295). -/
def execFieldLinkDown (p : Nat) (s : State) : Res :=
  if 576 ≤ p then .fault .noSuchUnit else
  .next (if (s.port p).lock then (s.endPort p 7).modPort p (fun z => { z with lock := false }) else s)

end Sys2Proof.Machine
end

