-- ==== Sys2Proof/Machine/RegRead.lean ====
section
/-! DEFINITION. What the registers read (spec/00 R10, spec/02 R71, spec/04 R128, spec/07 R209, spec/08 R223 to R251, spec/09 R282, spec/10 R309, spec/11 R331,
spec/12 R356, spec/13 R384 to R386, spec/14 R407): the 32-bit word at each word offset of each block. -/
namespace Sys2Proof.Machine

/-- Word k of a register of 64 bits, k = 0 the low one. -/
def half (x k : Nat) : Nat := x / 2 ^ (32 * k) % 2 ^ 32

/-- The highest-numbered set of bits that a list of numbers names, as a 32-bit word from bit `lo` on. -/
def setWord (l : List Nat) (lo : Nat) : Nat := ((List.range 32).map (fun k => if l.contains (lo + k) then 2 ^ k else 0)).sum

/-! ## Host interface -/

/-- STATE of R224: NONE before READY (R419). -/
def State.stateCode (s : State) (i : Nat) : Nat :=
  if !s.isUp || decide (s.hi.n ≤ i) then 0 else match (s.inst i).state with
  | .none => 0
  | .stopped => 1
  | .running => 2
  | .resetting => 3
  | .failedLink => 4
  | .failedHard => 4

/-- VF_STATE and HI_STATE_i (R224). -/
def State.stateWord (s : State) (i : Nat) : Nat :=
  let c := s.stateCode i
  c + (if c = 2 then (s.inst i).sqLog * 2 ^ 8 + (s.inst i).cqLog * 2 ^ 16 else 0)

def linkWord (l : Option LinkInfo) : Nat :=
  match l with
  | none => 0
  | some x => 1 + x.rate.toNat * 2 + x.width.toNat * 2 ^ 4

/-- A word of an MSI-X table (PCIe structure). -/
def State.msixWord (s : State) (f : Fn) (o : Nat) : Nat :=
  let x := s.vec f (o / 16)
  match o / 4 % 4 with
  | 0 => half x.addr.toNat 0
  | 1 => half x.addr.toNat 1
  | 2 => x.data.toNat
  | _ => x.mask.toNat

/-- A word of a pending-bit array. -/
def State.pbaWord (s : State) (f : Fn) (k : Nat) : Nat :=
  ((List.range 32).map (fun v => if decide (32 * k + v < vecCount f) && (s.vec f (32 * k + v)).pend then 2 ^ v else 0)).sum

/-- The ring view of an instance (R250): zero unless it is RUNNING. -/
def State.ringView (s : State) (i k : Nat) : Nat :=
  let x := s.inst i
  if k = 0 then s.stateWord i
  else if s.stateCode i ≠ 2 then 0
  else match k with
  | 1 => x.sqCi.toNat
  | 2 => x.sqPi.toNat
  | 3 => x.cqPi.toNat
  | 4 => x.cqCi.toNat
  | 5 => x.culvert.length
  | 6 => x.evSeq.toNat
  | _ => 0

/-- The HI block at byte offset `o` from 0x0_2000 (R250). -/
def State.hiWord (s : State) (o : Nat) : Nat :=
  let h := s.hi
  if o = 0 then h.split.toNat + h.splitNext.toNat * 2 + s.degraded.toNat * 4 + h.n * 2 ^ 8 + s.mc.exclNow * 2 ^ 16
  else if o = 4 then linkWord h.linkA
  else if o = 8 then linkWord h.linkB
  else if 0x40 ≤ o ∧ o < 0x80 then fieldLE h.mbReq (o - 0x40) 4
  else if 0x80 ≤ o ∧ o < 0x90 then (if h.mbDone then fieldLE h.mbRsp (o - 0x80) 4 else 0)
  else if o = 0x94 then h.mbBusy.toNat + h.mbDone.toNat * 2 + h.mbOver.toNat * 4
  else if 0x100 ≤ o ∧ o < 0x400 then s.ringView ((o - 0x100) / 0x20) (o % 0x20 / 4)
  else if 0x1000 ≤ o ∧ o < 0x1200 then s.msixWord .pf0 (o - 0x1000)
  else if 0x1800 ≤ o ∧ o < 0x1808 then s.pbaWord .pf0 ((o - 0x1800) / 4)
  else 0

/-- VF BAR0 (R224) at byte offset `o`. -/
def State.vfWord (s : State) (i o : Nat) : Nat :=
  let x := s.inst i
  let up := s.stateCode i != 0
  if 0x8000 ≤ o ∧ o < 0x8020 then s.msixWord (.vf i) (o - 0x8000)
  else if 0x9000 ≤ o ∧ o < 0x9008 then s.pbaWord (.vf i) ((o - 0x9000) / 4)
  else if o = 0x1000 then i + s.hi.n * 2 ^ 8 + s.hi.split.toNat * 2 ^ 16 + s.degraded.toNat * 2 ^ 17
  else if o = 0x1004 then s.stateWord i
  else if !up then 0
  else if o = 0x1008 then x.events.toNat
  else if o = 0x100C then x.sqCi.toNat
  else if o = 0x1010 then x.cqPi.toNat
  else if o = 0x1014 then x.culvert.length
  else 0

/-! ## Sluice and Headgate -/

def testNo : TestState → Nat
  | .idle => 0
  | .running => 1
  | .paused => 2
  | .ended => 0

/-- SL (R282) at byte offset `o`. The progress of a test is a free value (log entry 2). -/
def State.slWord (s : State) (o : Nat) : Nat :=
  if o = 0 then s.sl.classw.toNat
  else if o = 4 then s.sl.urgcap.toNat
  else if o = 8 then
    if s.sl.test = .idle ∨ s.sl.test = .ended then 0 else testNo s.sl.test + s.sl.testKind * 4 + (bits (Config.freeWord s.fresh) 0 32 % 101 * 2 ^ 4)
  else if 0x100 ≤ o ∧ o < 0x280 then
    let x := s.inst ((o - 0x100) / 0x10)
    match o / 4 % 4 with
    | 0 => x.waiting
    | 1 => x.urgDef.toNat
    | 2 => x.malf.toNat
    | _ => x.starts.toNat
  else 0

/-- HG_FLUME_f (R128). -/
def State.flumeWord (s : State) (f : Nat) : Nat :=
  match SMap.find s.hg.flumes f with
  | none => 0x1F * 2 ^ 24
  | some x => min 0x1FFF x.posts.length + x.inst * 2 ^ 24 + (if x.pages.isEmpty then 0 else 2 ^ 29)
      + (if x.room ≤ x.staged + x.posts.length then 2 ^ 30 else 0) + 2 ^ 31

/-- HG (R128) at byte offset `o`. -/
def State.hgWord (s : State) (o : Nat) : Nat :=
  if o < 0x600 then
    let i := o / 0x40
    let t := s.stat i
    match o % 0x40 / 4 with
    | 0 => s.readyCount i
    | 1 => s.parkedCount i
    | 2 => (s.hg.items.filter (fun e => e.2.inst == i)).length
    | 3 => t.mismatch.toNat
    | 4 => half t.waitMax.toNat 0
    | 5 => half t.waitMax.toNat 1
    | 6 => half t.waitSum.toNat 0
    | 7 => half t.waitSum.toNat 1
    | 8 => half t.disp.toNat 0
    | 9 => half t.disp.toNat 1
    | 10 => half t.postStall.toNat 0
    | 11 => half t.postStall.toNat 1
    | 12 => t.replay.toNat
    | _ => 0
  else if 0x1000 ≤ o ∧ o < 0x1600 then
    let c := (o - 0x1000) / 0x10
    if o % 0x10 < 8 then half (SMap.get s.hg.busy 0 c).toNat (o / 4 % 2) else half (SMap.get s.hg.idle 0 c).toNat (o / 4 % 2)
  else if o = 0x2000 then setWord s.hg.oos 0
  else if o = 0x2004 then setWord s.hg.oos 32
  else if o = 0x2008 then setWord s.hg.oos 64
  else if o = 0x200C then s.hg.sigdrop.toNat
  else if o = 0x2010 then s.hg.flspill.toNat
  else if 0x4000 ≤ o ∧ o < 0x8000 then s.flumeWord ((o - 0x4000) / 4)
  else 0

/-! ## Codec, digest engines and ciphers -/

/-- CD (R71, R72) at byte offset `o`. -/
def State.cdWord (s : State) (o : Nat) : Nat :=
  if o < 0x1800 then
    let x := s.unit (o / 0x80)
    if o % 0x80 = 0 then
      x.done.toNat + x.run.isSome.toNat * 2 + x.oos.toNat * 4 + (if x.done then x.lastSt * 2 ^ 8 else 0) + x.queue.length * 2 ^ 16
    else if 0x40 ≤ o % 0x80 ∧ x.done = true then fieldLE x.lastRec (o % 0x80 - 0x40) 4
    else 0
  else if o = 0x1800 ∨ o = 0x1804 then setWord ((s.codec.units.filter (fun e => e.2.oos)).map (fun e => e.1)) (8 * (o - 0x1800))
  else if o = 0x1808 then s.codec.checkFail.toNat
  else if o = 0x180C then s.codec.hdrFail.toNat
  else if o = 0x1810 then s.codec.culvert.toNat
  else if o = 0x1814 then s.codec.reissueCnt.toNat
  else 0

/-- DG (R370, R384) at byte offset `o`. -/
def State.dgWord (s : State) (o : Nat) : Nat :=
  if o < 0x400 then
    let x := s.engine (o / 0x80)
    if o % 0x80 = 0 then
      x.done.toNat + x.run.isSome.toNat * 2 + x.oos.toNat * 4 + x.noRead.toNat * 8
        + (match x.run with
          | some j => (gUrgent j.desc).toNat * 16
          | none => 0)
        + (if x.done then x.lastSt * 2 ^ 8 else 0) + x.queue.length * 2 ^ 16
    else if 0x40 ≤ o % 0x80 then half (readDgRes s (o / 0x80) (o % 0x80 / 8 - 8)).1 (o / 4 % 2)
    else 0
  else if o = 0x400 then setWord ((s.dg.engines.filter (fun e => e.2.oos)).map (fun e => e.1)) 0
  else if o = 0x404 then s.shadowUsed
  else if o = 0x408 then s.dg.preempts.toNat
  else if o = 0x40C then s.dg.mismatch.toNat
  else 0

/-- CX (R385) at byte offset `o`. -/
def State.cxWord (s : State) (o : Nat) : Nat :=
  if o = 0 then setWord s.keys.oosMem 0
  else if o = 4 then setWord s.keys.oosFlash 0
  else if o = 8 then s.keys.keyErr.toNat
  else if o = 12 then s.keys.sealFail.toNat
  else 0

/-- KS (R386) at byte offset `o`: no key is ever shown; FUSED is 1 (log entry 5). -/
def State.ksWord (s : State) (o : Nat) : Nat :=
  if o = 0 then s.keys.busy.isSome.toNat + s.keys.reject.toNat * 2 + 4
  else if 0x100 ≤ o ∧ o < 0x180 then setWord (s.keys.slots.map (fun e => e.1)) (8 * (o - 0x100))
  else if 0x200 ≤ o ∧ o < 0x260 then (match s.owner? ((o - 0x200) / 4) with
    | some w => w.gen.toNat
    | none => 0)
  else 0

/-! ## Memory and flash -/

/-- Progress of a channel's scrub: whole passes, then the row in the present one. -/
def State.scrubAt (s : State) (ch : Nat) : Nat := (s.chan ch).passes * 2 ^ 23 + (s.chan ch).scrubRow

/-- MC_SCRUB_POS (R326, R331): the slowest channel in use. -/
def State.scrubPermille (s : State) : Nat :=
  match leastOf s.scrubAt s.chanList with
  | some ch => (s.chan ch).scrubRow * 1000 / 2 ^ 23
  | none => 0

def classNo : TempClass → Nat
  | .cool => 0
  | .warm => 1
  | .hot => 2

/-- CLASS_m of a rank (R331). -/
def Rank.classWord (x : Rank) : Nat := if x.power = .selfRefresh then 3 else classNo x.cls

/-- A controller's registers (R331) at byte offset `o` of its 256. -/
def State.ctlWord (s : State) (c o : Nat) : Nat :=
  let x := s.ctl c
  let lost := ((List.range 4).map (fun n => (s.chan (4 * c + n)).lost.toNat * 2 ^ (4 + n))).sum
  let hot := (List.range 4).any (fun n => (s.chan (4 * c + n)).throttle)
  if o = 0 then x.inserv.toNat + (s.mc.exclNow == c).toNat * 2 + x.trainFail.toNat * 4 + hot.toNat * 8 + lost
  else if o = 4 then ((List.range 8).map (fun m => (s.rank (4 * c + m / 2) (m % 2)).classWord * 4 ^ m)).sum
  else if o = 8 then x.ce.toNat
  else if o = 12 then x.ue.toNat
  else if o = 16 then x.throt.toNat
  else if 0x40 ≤ o ∧ o < 0x80 then (SMap.get x.eyes 0 ((o - 0x40) / 4)).toNat
  else 0

/-- MC_STATUS (R331). -/
def State.mcStatus (s : State) : Nat :=
  let m := s.mc
  m.trained.toNat + m.sweep.toNat * 2 + m.reject.toNat * 4 + s.degraded.toNat * 8 + (m.chans.any (fun e => e.2.throttle)).toNat * 16
    + (m.bankx != m.bankxNow).toNat * 32 + (m.chans.any (fun e => e.2.lost)).toNat * 64

/-- MC (R331) at byte offset `o`. -/
def State.mcWord (s : State) (o : Nat) : Nat :=
  let m := s.mc
  let ue := match m.ueAddr with
    | some a => a + 2 ^ 63
    | none => 0
  if o = 4 then s.mcStatus
  else if o = 8 then m.pdn.toNat
  else if o = 0xC then m.sref.toNat
  else if 0x10 ≤ o ∧ o < 0x28 then (m.bankx.getD ((o - 0x10) / 4) 0).toNat
  else if o = 0x28 then m.exclNow + m.exclNext * 2 ^ 8
  else if o = 0x30 then m.ce.toNat
  else if o = 0x34 then m.ue.toNat
  else if o = 0x38 ∨ o = 0x3C then half ue (o / 4 % 2)
  else if o = 0x40 then s.scrubPermille
  else if o = 0x44 then m.passes.toNat
  else if 0x1000 ≤ o ∧ o < 0x2800 then s.ctlWord ((o - 0x1000) / 0x100) (o % 0x100)
  else 0

/-- Is a rebuild shown: the fields of FS_STATUS reset to 0, so one that a reset met shows again from READY on (R356)? -/
def Flash.rebuilding (f : Flash) : Bool := f.ready && !f.rebuild.isEmpty

/-- FS_STATUS (R356). The progress of a rebuild is a free value (log entry 2). -/
def State.fsStatus (s : State) : Nat :=
  let f := s.flash
  f.ready.toNat + f.unusable.toNat * 2 + f.rebuilding.toNat * 4 + (f.ready && s.resEmpty).toNat * 8
    + (if f.rebuilding then bits (Config.freeWord s.fresh) 0 32 % 1001 * 2 ^ 4 else 0)

/-- FS (R356) at byte offset `o`. -/
def State.fsWord (s : State) (o : Nat) : Nat :=
  let f := s.flash
  if o = 0 then s.fsStatus
  else if o = 8 ∨ o = 0xC then half f.sealSeq (o / 4 % 2)
  else if o = 0x10 ∨ o = 0x14 then half f.ckpt.seq (o / 4 % 2)
  else if o = 0x18 ∨ o = 0x1C then half (f.written / 2 ^ 30) (o / 4 % 2)
  else if o = 0x20 then s.reserveBytes / 2 ^ 30 + ceilDiv f.reserveUsed (2 ^ 30) * 2 ^ 16
  else if o = 0x24 then setWord ((f.owners.filter (fun e => e.2.dry)).map (fun e => e.1)) 0
  else if o = 0x28 then f.lostCnt.toNat
  else if 0x100 ≤ o ∧ o < 0x120 then setWord f.dieFail (8 * (o - 0x100))
  else 0

/-! ## Field ports and Lantern -/

/-- FP_LINK_p (R309). -/
def State.fpLink (s : State) (p : Nat) : Nat :=
  let z := s.port p
  let (off, quar) := s.portFlags p
  (z.lock && !off).toNat + off.toNat * 2 + quar.toNat * 4 + (z.pend.isSome.toNat + z.sess.isSome.toNat * 2) * 8 + z.laneFault.toNat * 32

/-- A port's registers (R309) at byte offset `o` of its 64. -/
def State.portWord (s : State) (p o : Nat) : Nat :=
  let z := s.port p
  match o / 4 with
  | 0 => s.fpLink p
  | 1 => (z.sess.map (fun x => x.id.toNat)).getD 0
  | 2 => z.rxOk.toNat
  | 3 => z.authErr.toNat
  | 4 => z.replay.toNat
  | 5 => z.protoErr.toNat
  | 6 => z.fcsErr.toNat
  | 7 => z.drop.toNat
  | 8 => z.overrun.toNat
  | 9 => z.underrun.toNat
  | 10 => half z.dataBytes.toNat 0
  | 11 => half z.dataBytes.toNat 1
  | 12 => (z.sess.map (fun x => x.tags.length)).getD 0
  | _ => 0

/-- FP (R309) at byte offset `o`; on YQ96-B it reads 0 (R2). -/
def State.fpWord (s : State) (o : Nat) : Nat :=
  if s.part.variant = .b then 0
  else if o = 0 then s.fp.tmo.toNat
  else if o = 4 then s.fp.ka.toNat
  else if o = 8 then s.fp.quar.toNat
  else if o = 12 then s.fp.inflight.toNat
  else if o = 16 then ceilDiv s.inflight 1024
  else if 0x1000 ≤ o ∧ o < 0xA000 then s.portWord ((o - 0x1000) / 0x40) (o % 0x40)
  else 0

/-- TL (R407) at byte offset `o`: the values of the last sample (R397). -/
def State.tlWord (s : State) (o : Nat) : Nat :=
  let t := s.tl
  if o = 0 then t.pace.toNat
  else if o = 4 then t.paceStat.toNat
  else if o = 8 then t.cqStall.toNat
  else if o = 0x10 ∨ o = 0x14 then half t.evShown (o / 4 % 2)
  else if o = 0x18 ∨ o = 0x1C then half t.sample (o / 4 % 2)
  else if o = 0x20 then bits t.idle 0 20
  else if 0x40 ≤ o ∧ o < 0x68 then half (t.rail.getD ((o - 0x40) / 8) 0) (o / 4 % 2)
  else if 0x80 ≤ o ∧ o < 0x94 then bits (t.power.getD ((o - 0x80) / 4) 0) 0 20
  else if 0xC0 ≤ o ∧ o < 0xD8 then (match t.temp.getD ((o - 0xC0) / 4) none with
    | some d => d.toNat + 2 ^ 16
    | none => 0)
  else if o = 0x100 ∨ o = 0x104 then half t.energyMod (o / 4 % 2)
  else if o = 0x108 ∨ o = 0x10C then half t.energyUnattr (o / 4 % 2)
  else if 0x1000 ≤ o ∧ o < 0x1180 then
    let i := (o - 0x1000) / 0x10
    if o % 0x10 < 8 then half (SMap.get t.energy 0 i) (o / 4 % 2) else half (SMap.get t.paceHold 0 i) (o / 4 % 2)
  else 0

/-- The value of CR_IC_k of the supervisor's controller (R208, R209); k = 3 gives the winner that a claim would take. -/
def ICtl.view (x : ICtl) (k : Nat) : Nat :=
  match k with
  | 0 => x.pend.toNat
  | 1 => x.en.toNat
  | 2 => x.act.toNat
  | 3 => x.claim.1
  | 5 => x.hold.toNat
  | 6 => x.timer.toNat
  | _ => 0

/-! ## The map of R223 -/

/-- The 32-bit word at a word-aligned offset of the register blocks, as the core view has it: every block open. SV has no map: what it reads is a free value
(log entry 35). -/
def State.regWord (s : State) (off : Nat) : Nat :=
  let o := off % 0x10000
  match off / 0x10000 with
  | 0 => if off = 0 then s.part.glbId else if off = 4 then s.part.glbBuild else if off < 0x1000 then 0
      else if off < 0x2000 then s.pwWord ((off - 0x1000) / 4) else s.hiWord (off - 0x2000)
  | 1 => s.slWord o
  | 2 => s.hgWord o
  | 3 => s.cdWord o
  | 4 => s.mcWord o
  | 5 => s.fsWord o
  | 6 => if o < 0x8000 then s.dgWord o else s.cxWord (o - 0x8000)
  | 7 => s.ksWord o
  | 8 => s.fpWord o
  | 9 => s.tlWord o
  | 10 => bits (Config.freeWord s.fresh) 0 32
  | 11 => half ((s.core 96).ic.view (o / 8)) (o / 4 % 2)
  | _ => 0

/-- Does the word rest on a free value? -/
def State.regFree (s : State) (off : Nat) : Bool :=
  (off == 0x10008 && s.sl.test != .idle) || (off == 0x50000 && s.flash.rebuilding) || off / 0x10000 == 10

/-- A word as a host reads it (R223, R224, R419): PF0's blocks beyond GLB, PW and HI are closed before READY, and SV always. -/
def State.hostWord (s : State) (f : Fn) (off : Nat) : Nat :=
  if !s.linksOn || off % 4 != 0 then 0 else
  match f with
  | .pf0 => if decide (0x10000 ≤ off) && (!s.isUp || off / 0x10000 == 10) then 0 else s.regWord off
  | .pf1 => if !s.hi.split then 0 else if off = 0 then s.part.glbId else if off = 4 then s.part.glbBuild
      else if 0x3000 ≤ off ∧ off < 0x3200 then s.msixWord .pf1 (off - 0x3000)
      else if 0x3800 ≤ off ∧ off < 0x3808 then s.pbaWord .pf1 ((off - 0x3800) / 4) else 0
  | .vf i => s.vfWord i off

end Sys2Proof.Machine
end

