-- ==== Sys2Proof/Machine/RegFile.lean ====
section
/-! DEFINITION. Writes of registers (spec/00 R13, R14) by the host and by cores, and the unit-register region of a core (spec/05 R431). -/
namespace Sys2Proof.Machine

/-! ## Writes of RW fields and W1C bits -/

/-- Nearest of lo and hi to a value out of [lo, hi]. -/
def clampTo (lo hi v : Nat) : Nat := max lo (min hi v)

/-- As `clampTo`, but 0 is stored and disables (R331; log entry 36). -/
def clampZero (lo hi v : Nat) : Nat := if v = 0 then 0 else clampTo lo hi v

/-- A field whose written 0 is stored as 1. -/
def oneIfZero (v : Nat) : Nat := if v = 0 then 1 else v

/-- SL_CLASSW as stored (R282). -/
def classWeights (v : W32) : W32 :=
  BitVec.ofNat 32 (((List.range 4).map (fun k => oneIfZero (bits v (4 * k) 4) * 16 ^ k)).sum)

/-- A word of an MSI-X table written (R245): a pending message is sent when its vector is unmasked. -/
def State.msixWrite (s : State) (f : Fn) (o : Nat) (v : W32) : State :=
  let n := o / 16
  let x := s.vec f n
  match o / 4 % 4 with
  | 0 => s.setVec f n { x with addr := BitVec.ofNat 64 (half x.addr.toNat 1 * 2 ^ 32 + v.toNat) }
  | 1 => s.setVec f n { x with addr := BitVec.ofNat 64 (v.toNat * 2 ^ 32 + half x.addr.toNat 0) }
  | 2 => s.setVec f n { x with data := v }
  | _ =>
    if v.getLsbD 0 then s.setVec f n { x with mask := true }
    else
      let s1 := s.setVec f n { x with mask := false, pend := false }
      if x.pend then s1.emit (.msix x.addr x.data) else s1

/-- HI (R250) at byte offset `o` from 0x0_2000. -/
def State.hiWrite (s : State) (o : Nat) (v : W32) : State :=
  if 0x40 ≤ o ∧ o < 0x80 then
    { s with hi := { s.hi with mbReq := s.hi.mbReq.take (o - 0x40) ++ bytesOf v ++ s.hi.mbReq.drop (o - 0x40 + 4) } }
  else if o = 0x90 then (if v.getLsbD 0 then mbGo s else s)
  else if o = 0x94 then
    { s with hi := { s.hi with mbDone := s.hi.mbDone && !v.getLsbD 1, mbOver := s.hi.mbOver && !v.getLsbD 2 } }
  else if 0x1000 ≤ o ∧ o < 0x1200 then s.msixWrite .pf0 (o - 0x1000) v
  else s

/-- MC (R325, R331) at byte offset `o`. -/
def State.mcWrite (s : State) (o : Nat) (v : W32) : State :=
  if o = 0 then (if v.getLsbD 0 then resweep s else s)
  else if o = 4 then (if v.getLsbD 2 then { s with mc := { s.mc with reject := false } } else s)
  else if o = 8 then { s with mc := { s.mc with pdn := BitVec.ofNat 32 (clampZero 100 60000 (bits v 0 16)) } }
  else if o = 0xC then { s with mc := { s.mc with sref := BitVec.ofNat 32 (clampZero 10 1000000 (bits v 0 20)) } }
  else if 0x10 ≤ o ∧ o < 0x28 then
    if s.hi.n ≠ 0 then { s with mc := { s.mc with reject := true } }
    else
      let k := (o - 0x10) / 4
      { s with mc := { s.mc with bankx := s.mc.bankx.set k ((v &&& 0x7FFFC0#32) ||| BitVec.ofNat 32 (2 ^ k)) } }
  else s

/-- FP (R309) at byte offset `o`; YQ96-B ignores writes (R2). -/
def State.fpWrite (s : State) (o : Nat) (v : W32) : State :=
  if s.part.variant = .b then s
  else if o = 0 then { s with fp := { s.fp with tmo := BitVec.ofNat 32 (clampTo 100 1000000 (bits v 0 24)) } }
  else if o = 4 then { s with fp := { s.fp with ka := BitVec.ofNat 32 (clampTo 10 10000 (bits v 0 16)) } }
  else if o = 8 then { s with fp := { s.fp with quar := BitVec.ofNat 32 (oneIfZero (bits v 0 8)) } }
  else if o = 12 then { s with fp := { s.fp with inflight := BitVec.ofNat 32 (clampTo 16 1024 (bits v 0 12)) } }
  else s

/-- KS (R379, R386) at byte offset `o`. -/
def State.ksWrite (s : State) (o : Nat) (v : W32) : State :=
  if o = 0 then (if v.getLsbD 1 then { s with keys := { s.keys with reject := false } } else s)
  else if o = 4 then oekLoad s v
  else if 0x40 ≤ o ∧ o < 0x80 then
    { s with keys := { s.keys with oekData := s.keys.oekData.take (o - 0x40) ++ bytesOf v ++ s.keys.oekData.drop (o - 0x40 + 4) } }
  else s

/-- A 32-bit write at a word-aligned offset of the register blocks (R13, R14, R223). TL_PACE takes writes of the host only (R402). -/
def State.regStore (s : State) (host : Bool) (off : Nat) (v : W32) : State :=
  let o := off % 0x10000
  match off / 0x10000 with
  | 0 => if off < 0x1000 then s else if off < 0x2000 then s.pwWrite (off - 0x1000) v else s.hiWrite (off - 0x2000) v
  | 1 => if o = 0 then { s with sl := { s.sl with classw := classWeights v } }
      else if o = 4 then { s with sl := { s.sl with urgcap := BitVec.ofNat 32 (oneIfZero (bits v 0 4)) } } else s
  | 2 => if o = 0x2014 ∧ v.getLsbD 0 = true then statClear s else s
  | 4 => s.mcWrite o v
  | 7 => s.ksWrite o v
  | 8 => s.fpWrite o v
  | 9 => if o = 0 ∧ host = true then paceWrite s v else s
  | _ => s

/-- A write by the host (R223, R224, R419). A write that is not word-aligned reaches no register (log entry 34). -/
def hostStore (s : State) (f : Fn) (off : Nat) (v : W32) : State :=
  if !s.linksOn || off % 4 != 0 then s else
  match f with
  | .pf0 => if decide (0x10000 ≤ off) && !s.isUp then s else s.regStore true off v
  | .pf1 => if s.hi.split ∧ 0x3000 ≤ off ∧ off < 0x3200 then s.msixWrite .pf1 (off - 0x3000) v else s
  | .vf i => if off = 0 ∨ off = 8 then doorbell s i
      else if 0x8000 ≤ off ∧ off < 0x8020 then s.msixWrite (.vf i) (off - 0x8000) v else s

/-- REGISTER_WRITE (R13). -/
def execRegisterWrite (f : Fn) (off : Nat) (v : W32) (s : State) : Res :=
  match f with
  | .vf i => if 24 ≤ i then .fault .noSuchUnit else .next (hostStore s (.vf i) off v)
  | _ => .next (hostStore s f off v)

/-! ## The unit-register region of a core -/

/-- What a store to a unit register does: it completes, it is a store to an invalid address (R52), or it stalls. -/
inductive StoreRes | ok (s : State) | inv (s : State) | stall (op : Stalled)

/-- May code on core c read the word (R71, R384, R431)? Stage code on a query core reads the status and results of its cluster's codec units and of the digest
engines. -/
def coreReads (s : State) (c off : Nat) : Bool :=
  if 96 ≤ c ∨ (s.core c).keeper = true then true
  else if 0x30000 ≤ off ∧ off < 0x31800 then (off - 0x30000) / 0x80 / 4 == clusterOf c
  else decide (0x60000 ≤ off) && decide (off < 0x60400)

/-- One word read by a core. -/
def coreWord (s : State) (c off : Nat) : Nat := if coreReads s c off then s.regWord off else 0

/-- The side effect of a read: NOREAD of a digest engine (R370), and the step of the free stream where the word rests on it. -/
def readEffect (s : State) (c off : Nat) : State :=
  let s1 := if decide (0x60000 ≤ off) && decide (off < 0x60400) && decide (0x40 ≤ off % 0x80) && coreReads s c off then
    (readDgRes s ((off - 0x60000) / 0x80) (off % 0x80 / 8 - 8)).2 else s
  if coreReads s c off && s.regFree off then { s1 with fresh := s1.fresh + 1 } else s1

/-- A load of a unit register, 32 or 64 bits wide. -/
def coreRegRead (s : State) (c off size : Nat) : Nat × State :=
  let lo := coreWord s c off
  if size = 4 then (lo, readEffect s c off) else (lo + coreWord s c (off + 4) * 2 ^ 32, readEffect s c off)

/-- A store to a unit register. Stage code stores to CD_SUBMIT and DG_SUBMIT only; the second core of the supervisor pair only compares (log entry 14). A
32-bit store to a SUBMIT register submits as a 64-bit one does (DESIGN CHOICE, log entry 103: R52 gives the register and no width of the store). -/
def coreRegWrite (s : State) (c off size v : Nat) : StoreRes :=
  let w := BitVec.ofNat 64 v
  if off = 0x32000 then
    match cdSubmit s c w with
    | none => .inv s
    | some (t, full) => if full then .stall (.codec w) else .ok (if c = 97 then s else t)
  else if off = 0x61000 then
    match dgSubmit s c w with
    | none => .inv s
    | some (t, full) => if full then .stall (.digest w) else .ok (if c = 97 then s else t)
  else if c < 96 ∨ c = 97 then .ok s
  else if size = 4 then .ok (s.regStore false off (BitVec.ofNat 32 v))
  else .ok ((s.regStore false off (BitVec.ofNat 32 v)).regStore false (off + 4) (BitVec.ofNat 32 (v / 2 ^ 32)))

end Sys2Proof.Machine
end

