-- ==== Sys2Proof/Machine/Float.lean ====
section
/-! DEFINITION. Binary32 and binary64 arithmetic of spec/06 R174: round-to-nearest-even, subnormals kept, canonical NaN results. -/
namespace Sys2Proof.Machine

/-- A float pattern taken apart; a finite value is (-1)^neg · man · 2^exp. -/
inductive Flt | nan | inf (neg : Bool) | fin (neg : Bool) (man : Nat) (exp : Int)
deriving DecidableEq, Repr

/-- Exponent of the least significant bit of a subnormal. -/
def fltEmin (w : Nat) : Int := if w = 32 then -149 else -1074

def fltUnpack (w x : Nat) : Flt :=
  let fb := floatFrac w
  let e := (x / 2 ^ fb) % (floatExpMax w + 1)
  let m := x % 2 ^ fb
  let neg := decide (x / 2 ^ (w - 1) % 2 = 1)
  if e = floatExpMax w then (if m = 0 then .inf neg else .nan)
  else if e = 0 then .fin neg m (fltEmin w)
  else .fin neg (m + 2 ^ fb) (fltEmin w + (e : Int) - 1)

def fltSign (w : Nat) (neg : Bool) : Nat := if neg then 2 ^ (w - 1) else 0

def fltInf (w : Nat) (neg : Bool) : Nat := fltSign w neg + floatExpMax w * 2 ^ floatFrac w

/-- m / 2^k rounded to nearest, ties to even. -/
def rneShift (m k : Nat) : Nat :=
  let q := m / 2 ^ k
  let r := 2 * (m % 2 ^ k)
  if 2 ^ k < r then q + 1 else if r = 2 ^ k then q + q % 2 else q

/-- The pattern of (-1)^neg · m · 2^e, rounded once. -/
def fltRound (w : Nat) (neg : Bool) (m : Nat) (e : Int) : Nat :=
  let fb := floatFrac w
  if m = 0 then fltSign w neg else
  let len := Nat.log2 m + 1
  let q : Int := max (e + (len : Int) - ((fb : Int) + 1)) (fltEmin w)
  let m1 := if q ≤ e then m * 2 ^ (e - q).toNat else rneShift m (q - e).toNat
  let (m2, q2) := if m1 = 2 ^ (fb + 1) then (2 ^ fb, q + 1) else (m1, q)
  if m2 < 2 ^ fb then fltSign w neg + m2
  else
    let be := (q2 - fltEmin w).toNat + 1
    if floatExpMax w ≤ be then fltInf w neg else fltSign w neg + be * 2 ^ fb + (m2 - 2 ^ fb)

/-- Exact sum of two finite values, then one rounding. -/
def fltAddFin (w : Nat) (n1 : Bool) (m1 : Nat) (e1 : Int) (n2 : Bool) (m2 : Nat) (e2 : Int) : Nat :=
  let e := min e1 e2
  let a : Int := (m1 * 2 ^ (e1 - e).toNat : Nat)
  let b : Int := (m2 * 2 ^ (e2 - e).toNat : Nat)
  let t := (if n1 then -a else a) + (if n2 then -b else b)
  if t = 0 then fltSign w (n1 && n2) else fltRound w (decide (t < 0)) t.natAbs e

def fltAdd (w x y : Nat) : Nat :=
  match fltUnpack w x, fltUnpack w y with
  | .nan, _ => canonNaN w
  | _, .nan => canonNaN w
  | .inf a, .inf b => if a = b then fltInf w a else canonNaN w
  | .inf a, .fin _ _ _ => fltInf w a
  | .fin _ _ _, .inf b => fltInf w b
  | .fin n1 m1 e1, .fin n2 m2 e2 => fltAddFin w n1 m1 e1 n2 m2 e2

/-- The sign bit flipped. -/
def fltNeg (w x : Nat) : Nat := if x / 2 ^ (w - 1) % 2 = 1 then x - 2 ^ (w - 1) else x + 2 ^ (w - 1)

def fltSub (w x y : Nat) : Nat := fltAdd w x (fltNeg w y)

def fltMul (w x y : Nat) : Nat :=
  match fltUnpack w x, fltUnpack w y with
  | .nan, _ => canonNaN w
  | _, .nan => canonNaN w
  | .inf a, .inf b => fltInf w (a != b)
  | .inf a, .fin n m _ => if m = 0 then canonNaN w else fltInf w (a != n)
  | .fin n m _, .inf b => if m = 0 then canonNaN w else fltInf w (n != b)
  | .fin n1 m1 e1, .fin n2 m2 e2 => fltRound w (n1 != n2) (m1 * m2) (e1 + e2)

/-- WFMIN and WFMAX: −0.0 below +0.0; the non-NaN operand when exactly one is NaN. -/
def fltMin (w x y : Nat) : Nat :=
  if patNaN w x then (if patNaN w y then canonNaN w else y)
  else if patNaN w y then x else if totalKey w y < totalKey w x then y else x

def fltMax (w x y : Nat) : Nat :=
  if patNaN w x then (if patNaN w y then canonNaN w else y)
  else if patNaN w y then x else if totalKey w x < totalKey w y then y else x

def fltLt (w x y : Nat) : Bool := !patNaN w x && !patNaN w y && decide (ieeeKey w x < ieeeKey w y)
def fltLe (w x y : Nat) : Bool := !patNaN w x && !patNaN w y && decide (ieeeKey w x ≤ ieeeKey w y)
def fltEq (w x y : Nat) : Bool := !patNaN w x && !patNaN w y && decide (ieeeKey w x = ieeeKey w y)

/-- Exact conversion of a pattern of width `w` to binary64 (WFREDADD). -/
def fltWiden (w x : Nat) : Nat :=
  match fltUnpack w x with
  | .nan => canonNaN 64
  | .inf n => fltInf 64 n
  | .fin n m e => fltRound 64 n m e

/-- Sum into binary64 in element order, one rounding per addition. -/
def fltRedAdd (w : Nat) (acc : Nat) (xs : List Nat) : Nat := xs.foldl (fun a x => fltAdd 64 a (fltWiden w x)) acc

end Sys2Proof.Machine
end

