-- ==== Sys2Proof/Machine/Packed.lean ====
section
/-! DEFINITION. Packed operations (spec/05 R153, R154): lanes of a 64-bit register, exact integers, then one reduction rule. -/
namespace Sys2Proof.Machine

/-- Lane width of a size (R153). -/
def psizeBits : PSize → Nat
  | .b => 8
  | .h => 16
  | .w => 32

/-- Lanes of `n` bits, lane 0 first. -/
def lanesN (w : Nat) : Nat → Nat → List Nat
  | 0, _ => []
  | k + 1, x => x % 2 ^ w :: lanesN w k (x / 2 ^ w)

def joinN (w : Nat) : List Nat → Nat
  | [] => 0
  | z :: zs => z % 2 ^ w + 2 ^ w * joinN w zs

def lanes (w : Nat) (x : W64) : List Nat := lanesN w (64 / w) x.toNat
def joinLanes (w : Nat) (l : List Nat) : W64 := BitVec.ofNat 64 (joinN w l)

/-- sat_s of R153. -/
def satS (w : Nat) (x : Int) : Int := min (max x (-(2 : Int) ^ (w - 1))) ((2 : Int) ^ (w - 1) - 1)

/-- sat_u of R153. -/
def satU (w : Nat) (x : Int) : Int := min (max x 0) ((2 : Int) ^ w - 1)

/-- rnd of R153: round half toward +infinity. -/
def rndInt (x : Int) (n : Nat) : Int := (x + (2 : Int) ^ (n - 1)) / (2 : Int) ^ n

def zipLanes (f : Nat → Nat → Nat) (xs ys : List Nat) : List Nat := List.zipWith f xs ys

/-- A lane operation on unsigned lane patterns. -/
def packU (sz : PSize) (f : Nat → Nat → Nat → Int) (x y : W64) : W64 :=
  let w := psizeBits sz
  joinLanes w (zipLanes (fun a b => wrapInt w (f w a b)) (lanes w x) (lanes w y))

/-- A lane operation on signed lanes. -/
def packS (sz : PSize) (f : Nat → Int → Int → Int) (x y : W64) : W64 :=
  packU sz (fun w a b => f w (sextNat w a) (sextNat w b)) x y

def pAdd (sz : PSize) : W64 → W64 → W64 := packU sz (fun _ a b => a + b)
def pSub (sz : PSize) : W64 → W64 → W64 := packU sz (fun _ a b => (a : Int) - b)
def pAdds (sz : PSize) : W64 → W64 → W64 := packS sz (fun w a b => satS w (a + b))
def pSubs (sz : PSize) : W64 → W64 → W64 := packS sz (fun w a b => satS w (a - b))
def pAddus (sz : PSize) : W64 → W64 → W64 := packU sz (fun w a b => satU w (a + b))
def pSubus (sz : PSize) : W64 → W64 → W64 := packU sz (fun w a b => satU w ((a : Int) - b))
def pAvgu (sz : PSize) : W64 → W64 → W64 := packU sz (fun _ a b => ((a + b + 1) / 2 : Nat))
def pMins (sz : PSize) : W64 → W64 → W64 := packS sz (fun _ a b => min a b)
def pMaxs (sz : PSize) : W64 → W64 → W64 := packS sz (fun _ a b => max a b)
def pMinu (sz : PSize) : W64 → W64 → W64 := packU sz (fun _ a b => (min a b : Nat))
def pMaxu (sz : PSize) : W64 → W64 → W64 := packU sz (fun _ a b => (max a b : Nat))

/-- All ones or 0 (PCMPEQ, PCMPGT, PCMPGTU). -/
def laneMask (b : Bool) : Int := if b then -1 else 0

def pCmpeq (sz : PSize) : W64 → W64 → W64 := packU sz (fun _ a b => laneMask (a == b))
def pCmpgt (sz : PSize) : W64 → W64 → W64 := packS sz (fun _ a b => laneMask (decide (b < a)))
def pCmpgtu (sz : PSize) : W64 → W64 → W64 := packU sz (fun _ a b => laneMask (decide (b < a)))
def pMul (sz : PSize) : W64 → W64 → W64 := packU sz (fun _ a b => ((a * b : Nat) : Int))
def pMulhrs (sz : PSize) : W64 → W64 → W64 := packS sz (fun w a b => satS w (rndInt (a * b) (w - 1)))

/-- Sums of neighbouring products: lane j = sat_s(a[2j]·b[2j] + a[2j+1]·b[2j+1]) at 32 bits. -/
def maddPairs : List Int → List Nat
  | p :: q :: r => wrapInt 32 (satS 32 (p + q)) :: maddPairs r
  | _ => []

def pMadd (x y : W64) : W64 :=
  joinLanes 32 (maddPairs (List.zipWith (fun a b => sextNat 16 a * sextNat 16 b) (lanes 16 x) (lanes 16 y)))

/-- A lane operation on one operand. -/
def packOne (sz : PSize) (f : Nat → Nat → Int) (x : W64) : W64 :=
  let w := psizeBits sz
  joinLanes w ((lanes w x).map (fun a => wrapInt w (f w a)))

def pAbs (sz : PSize) : W64 → W64 := packOne sz (fun w a => satS w (sextNat w a).natAbs)
def pShli (sz : PSize) (n : Nat) : W64 → W64 := packOne sz (fun w a => if w ≤ n then 0 else ((a * 2 ^ n : Nat) : Int))
def pShri (sz : PSize) (n : Nat) : W64 → W64 := packOne sz (fun w a => if w ≤ n then 0 else ((a / 2 ^ n : Nat) : Int))

/-- Sign fill; every bit a copy of the sign when n ≥ w. -/
def pSari (sz : PSize) (n : Nat) : W64 → W64 := packOne sz (fun _ a => sextNat (psizeBits sz) a / (2 : Int) ^ n)

/-- a when n = 0, otherwise rnd(a, n), which gives 0 when n ≥ w. -/
def pSrari (sz : PSize) (n : Nat) : W64 → W64 :=
  packOne sz (fun w a => if n = 0 then (a : Int) else rndInt (sextNat w a) n)

/-- Source lanes saturated to half width; ra's fill the low half of rd, rb's the high half. -/
def packNarrow (sz : PSize) (sat : Nat → Int → Int) (x y : W64) : W64 :=
  let w := psizeBits sz
  joinLanes (w / 2) ((lanes w x ++ lanes w y).map (fun a => wrapInt (w / 2) (sat (w / 2) (sextNat w a))))

def pPacks (sz : PSize) : W64 → W64 → W64 := packNarrow sz satS
def pPackus (sz : PSize) : W64 → W64 → W64 := packNarrow sz satU

def interleave : List Nat → List Nat → List Nat
  | a :: xs, b :: ys => a :: b :: interleave xs ys
  | _, _ => []

def pUnpklo (sz : PSize) (x y : W64) : W64 :=
  let w := psizeBits sz
  joinLanes w (interleave ((lanes w x).take (32 / w)) ((lanes w y).take (32 / w)))

def pUnpkhi (sz : PSize) (x y : W64) : W64 :=
  let w := psizeBits sz
  joinLanes w (interleave ((lanes w x).drop (32 / w)) ((lanes w y).drop (32 / w)))

end Sys2Proof.Machine
end

