-- ==== Sys2Proof/Machine/WideOps.lean ====
section
/-! DEFINITION. Results of the wide instructions (spec/06 R159 to R176), as functions of register images.
`n` is VLN; elements at `n` and above keep their values (R161). -/
namespace Sys2Proof.Machine

/-- Element width of a size (R168). -/
def wsizeBits : WSize → Nat
  | .b => 8
  | .h => 16
  | .w => 32
  | .d => 64

/-- Elements 0 to n-1 at width w (R159). -/
def wElems (w n : Nat) (x : Wide) : List Nat := lanesN w n x.toNat

/-- Elements 0 to |l|-1 replaced, the rest kept. -/
def wPut (w : Nat) (x : Wide) (l : List Nat) : Wide :=
  let k := w * l.length
  BitVec.ofNat 4096 (joinN w l + x.toNat / 2 ^ k * 2 ^ k)

/-- Bits 0 to n-1 of a bitmap. -/
def wBits (n : Nat) (x : Wide) : List Bool := (lanesN 1 n x.toNat).map (fun z => z == 1)

def wPutBits (x : Wide) (l : List Bool) : Wide := wPut 1 x (l.map (fun b => if b then 1 else 0))

/-- Elementwise result. -/
def wMap2 (w n : Nat) (f : Nat → Nat → Nat) (d a b : Wide) : Wide :=
  wPut w d (List.zipWith f (wElems w n a) (wElems w n b))

/-- The scalar form's second operand in every element (R170). -/
def wSplat (w : Nat) (g : W64) : Wide := BitVec.ofNat 4096 (joinN w (List.replicate (4096 / w) (g.toNat % 2 ^ w)))

/-- Elementwise compare to a bitmap. -/
def wCmp2 (w n : Nat) (f : Nat → Nat → Bool) (d a b : Wide) : Wide :=
  wPutBits d (List.zipWith f (wElems w n a) (wElems w n b))

def elAdd (w a b : Nat) : Nat := (a + b) % 2 ^ w
def elSub (w a b : Nat) : Nat := subMod w a b
def elAnd (_w a b : Nat) : Nat := a &&& b
def elOr (_w a b : Nat) : Nat := a ||| b
def elXor (_w a b : Nat) : Nat := a ^^^ b
def elAndn (w a b : Nat) : Nat := a &&& (2 ^ w - 1 - b % 2 ^ w)
def elMin (w a b : Nat) : Nat := if sextNat w a < sextNat w b then a else b
def elMax (w a b : Nat) : Nat := if sextNat w a < sextNat w b then b else a
def elMinu (_w a b : Nat) : Nat := min a b
def elMaxu (_w a b : Nat) : Nat := max a b
def elMul (w a b : Nat) : Nat := a * b % 2 ^ w
def elShl (w a b : Nat) : Nat := if w ≤ b then 0 else a * 2 ^ b % 2 ^ w
def elShr (w a b : Nat) : Nat := if w ≤ b then 0 else a / 2 ^ b
def elSar (w a b : Nat) : Nat := wrapInt w (sextNat w a / (2 : Int) ^ (min b w))

/-- Widening product of sources of width w at width 2w (R170). -/
def elMulw (w : Nat) (sgn : Bool) (a b : Nat) : Int := if sgn then sextNat w a * sextNat w b else ((a * b : Nat) : Int)

/-- WMULW, WMULWU. -/
def wMulw (w n : Nat) (sgn : Bool) (d a b : Wide) : Wide :=
  wPut (2 * w) d (List.zipWith (fun x y => wrapInt (2 * w) (elMulw w sgn x y)) (wElems w n a) (wElems w n b))

/-- WMACW, WMACWU: wd[i] + a[i]·b[i] modulo 2^2w. -/
def wMacw (w n : Nat) (sgn : Bool) (d a b : Wide) : Wide :=
  wPut (2 * w) d (List.zipWith (fun (o : Nat) (p : Int) => wrapInt (2 * w) ((o : Int) + p)) (wElems (2 * w) n d)
    (List.zipWith (elMulw w sgn) (wElems w n a) (wElems w n b)))

/-- Sums of four neighbours. -/
def sumFours : List Int → List Int
  | p :: q :: r :: t :: xs => (p + q + r + t) :: sumFours xs
  | _ => []

/-- WDOT, WDOTU: lanes of 32 bits (.B) or 64 bits (.H). -/
def wDot (w n : Nat) (sgn : Bool) (d a b : Wide) : Wide :=
  wPut (4 * w) d (List.zipWith (fun (o : Nat) (p : Int) => wrapInt (4 * w) ((o : Int) + p)) (wElems (4 * w) (n / 4) d)
    (sumFours (List.zipWith (elMulw w sgn) (wElems w n a) (wElems w n b))))

def elEq (_w a b : Nat) : Bool := a == b
def elNe (_w a b : Nat) : Bool := a != b
def elLt (w a b : Nat) : Bool := decide (sextNat w a < sextNat w b)
def elGe (w a b : Nat) : Bool := decide (sextNat w b ≤ sextNat w a)
def elLtu (_w a b : Nat) : Bool := decide (a < b)
def elGeu (_w a b : Nat) : Bool := decide (b ≤ a)
def elGt (w a b : Nat) : Bool := decide (sextNat w b < sextNat w a)
def elLe (w a b : Nat) : Bool := decide (sextNat w a ≤ sextNat w b)
def elGtu (_w a b : Nat) : Bool := decide (b < a)
def elLeu (_w a b : Nat) : Bool := decide (a ≤ b)

/-- Bitmap logic on bits 0 to n-1. -/
def wBit2 (n : Nat) (f : Bool → Bool → Bool) (d a b : Wide) : Wide := wPutBits d (List.zipWith f (wBits n a) (wBits n b))

def wCount (n : Nat) (a : Wide) : Nat := (wBits n a).countP (fun b => b)

/-- Elements whose bit is set. -/
def selected : List Nat → List Bool → List Nat
  | x :: xs, b :: bs => if b then x :: selected xs bs else selected xs bs
  | _, _ => []

/-- WCOMPRESS (R172): packed selection, the rest up to VLN zeroed. -/
def wCompress (w n : Nat) (d a b : Wide) : Wide :=
  let l := selected (wElems w n a) (wBits n b)
  wPut w d (l ++ List.replicate (n - l.length) 0)

def wIota (w n : Nat) (g : W64) (d : Wide) : Wide := wPut w d ((List.range n).map (fun i => (g.toNat + i) % 2 ^ w))

def wBcast (w n : Nat) (g : W64) (d : Wide) : Wide := wPut w d (List.replicate n (g.toNat % 2 ^ w))

/-- WPERM: wd[i] = wa[b[i] mod VLN]. -/
def wPerm (w n : Nat) (d a b : Wide) : Wide :=
  let xs := wElems w n a
  wPut w d ((wElems w n b).map (fun j => xs.getD (j % n) 0))

/-- Running sums from a start value. -/
def scanFrom (w acc : Nat) : List Nat → List Nat
  | [] => []
  | x :: xs => (acc + x) % 2 ^ w :: scanFrom w ((acc + x) % 2 ^ w) xs

def wScan (w n : Nat) (g : W64) (d a : Wide) : Wide := wPut w d (scanFrom w (g.toNat % 2 ^ w) (wElems w n a))

/-- Sum of the elements, sign- or zero-extended, modulo 2^64 (WREDADD, WREDADDU). -/
def wRedAdd (w n : Nat) (sgn : Bool) (a : Wide) : W64 :=
  BitVec.ofInt 64 ((wElems w n a).foldl (fun t x => t + (if sgn then sextNat w x else (x : Int))) 0)

/-- The extreme element, extended (WREDMIN, WREDMAX, WREDMINU, WREDMAXU). -/
def wRedExt (w n : Nat) (sgn : Bool) (f : Nat → Nat → Nat → Nat) (a : Wide) : W64 :=
  match wElems w n a with
  | [] => 0
  | x :: xs =>
    let m := xs.foldl (f w) x
    if sgn then BitVec.ofInt 64 (sextNat w m) else BitVec.ofNat 64 m

/-- WREDADD128: signed 128-bit sum into the pair (low, high). -/
def wRedAdd128 (n : Nat) (lo hi : W64) (a : Wide) : W64 × W64 :=
  let t : Int := (lo.toNat + 2 ^ 64 * hi.toNat : Nat)
  let u := wrapInt 128 ((wElems 64 n a).foldl (fun t x => t + sextNat 64 x) t)
  (BitVec.ofNat 64 u, BitVec.ofNat 64 (u / 2 ^ 64))

/-- HASH of one value with seed s (R173). -/
def hash64 (x s : W64) : W64 :=
  let h := x ^^^ s
  let h := h * 0x9E3779B97F4A7C15#64
  let h := h ^^^ (h >>> 31)
  let h := h * 0x8F3A52C61B7DE4A9#64
  h ^^^ (h >>> 29)

def wHash (n : Nat) (g : W64) (d a : Wide) : Wide :=
  wPut 64 d ((wElems 64 n a).map (fun x => (hash64 (BitVec.ofNat 64 x) g).toNat))

/-- WTRANS (R175) with nc columns: wd[c·nr + r] = wa[r·nc + c]. -/
def wTrans (w n nc : Nat) (d a : Wide) : Wide :=
  let xs := wElems w n a
  let nr := n / nc
  wPut w d ((List.range n).map (fun k => xs.getD ((k % nr) * nc + k / nr) 0))

/-- Does the pair (i, i + 2^D) of WBMRG exchange its keys (R176)? -/
def bmrgSwap (w : Nat) (sgn : Bool) (keys : List Nat) (D K i : Nat) : Bool :=
  let a := keys.getD i 0
  let b := keys.getD (i + 2 ^ D) 0
  let desc := decide (K ≤ 9) && decide (i / 2 ^ K % 2 = 1)
  let lt := if sgn then decide (sextNat w a < sextNat w b) else decide (a < b)
  let gt := if sgn then decide (sextNat w b < sextNat w a) else decide (b < a)
  if desc then lt else gt

/-- Where element i comes from after one compare-exchange step. -/
def bmrgFrom (w n : Nat) (sgn : Bool) (keys : List Nat) (D K i : Nat) : Nat :=
  if i / 2 ^ D % 2 = 0 then
    (if i + 2 ^ D < n && bmrgSwap w sgn keys D K i then i + 2 ^ D else i)
  else (if bmrgSwap w sgn keys D K (i - 2 ^ D) then i - 2 ^ D else i)

/-- A register's elements taken where the keys' step says (keys and values move together). -/
def wBmrg (w n : Nat) (sgn : Bool) (D K : Nat) (keys x : Wide) : Wide :=
  let ks := wElems w n keys
  let xs := wElems w n x
  wPut w x ((List.range n).map (fun i => xs.getD (bmrgFrom w n sgn ks D K i) 0))

/-- WSLIDE: wd[i] = wa[i+k] while i+k < VLN, else wb[i+k-VLN]. -/
def wSlide (w n k : Nat) (d a b : Wide) : Wide :=
  wPut w d (((wElems w n a ++ wElems w n b).drop k).take n)

/-- One operand forms with an immediate count. -/
def wMap1 (w n : Nat) (f : Nat → Nat) (d a : Wide) : Wide := wPut w d ((wElems w n a).map f)

/-- Element e of a register at width w. -/
def wElem (w : Nat) (x : Wide) (e : Nat) : Nat := x.toNat / 2 ^ (w * e) % 2 ^ w

/-- Element e replaced. -/
def wSetElem (w : Nat) (x : Wide) (e v : Nat) : Wide :=
  BitVec.ofNat 4096 (x.toNat % 2 ^ (w * e) + v % 2 ^ w * 2 ^ (w * e) + x.toNat / 2 ^ (w * (e + 1)) * 2 ^ (w * (e + 1)))

/-- The first n bytes of a register's memory image. -/
def wBytes (n : Nat) (x : Wide) : List Byte := leBytes n x.toNat

/-- Largest VLN of the ordinary forms (R160). -/
def vlnOrd (w : Nat) : Nat := 4096 / w
/-- Largest VLN of the widening forms, of the source width. -/
def vlnWiden (w : Nat) : Nat := 4096 / (2 * w)
/-- Largest VLN of WGATHER and WSCATTER. -/
def vlnGather (w : Nat) : Nat := min 128 (4096 / w)
/-- Values that VLN accepts (R160). -/
def vlnOk (v : Nat) : Bool := decide (v % 8 = 0) && decide (8 ≤ v) && decide (v ≤ 512)

end Sys2Proof.Machine
end

