-- ==== Sys2Proof/Machine/CoreOps.lean ====
section
/-! DEFINITION. What every core instruction shares: address checks (spec/05 R132, R133), taking an exception and halting (spec/07 R188 to R196),
issue and retirement (R190, spec/05 R145, spec/06 R164, R185), the data cache (spec/07 R210 to R214) and loads and stores. -/
namespace Sys2Proof.Machine

/-! ## Exceptions -/

/-- The exceptions of R188 with what their EST.INFO needs. `inv` and `window` may be met on a fetch. -/
inductive Exc
  | illegal | privilege | align (a : Nat) | inv (a : Nat) | fetchInv (a : Nat) | window (a : Nat)
  | gateArg (p : Nat) | gateNum (n : Nat) | gate (n : Nat) | irq
deriving DecidableEq, Repr

/-- CAUSE (R188). -/
def Exc.cause : Exc → Nat
  | .illegal => 0x01
  | .privilege => 0x02
  | .align _ => 0x03
  | .inv _ => 0x04
  | .fetchInv _ => 0x04
  | .window _ => 0x05
  | .gateArg _ => 0x06
  | .gateNum _ => 0x07
  | .gate _ => 0x08
  | .irq => 0x10

/-- EST.INFO (R188): the instruction word, the low 32 address bits, the pair, the gate number. -/
def Exc.info (e : Exc) (word : W32) : Nat :=
  match e with
  | .illegal => word.toNat
  | .privilege => word.toNat
  | .align a => a % 2 ^ 32
  | .inv a => a % 2 ^ 32
  | .fetchInv a => a % 2 ^ 32
  | .window a => a % 2 ^ 32
  | .gateArg p => p
  | .gateNum n => n
  | .gate n => n
  | .irq => 0

/-- The status word that entry forms (R191, R192). -/
def estWord (k : Core) (e : Exc) (word : W32) (vres : Nat) (spilled : Bool) : W64 :=
  BitVec.ofNat 64 (e.cause + (if k.keeper then 2 ^ 8 else 0) + (if k.ie then 2 ^ 9 else 0) + (if spilled then 2 ^ 10 else 0)
    + vres % 1024 * 2 ^ 16 + e.info word * 2 ^ 32)

/-- CR_SPSTK.VALID and BASE (spec/07). -/
def Core.spValid (k : Core) : Bool := k.spstk.getLsbD 0
def Core.spBase (k : Core) : Nat := bits k.spstk 10 8 * 1024

/-- The keeper-stack check (R193). `bad` says that the exception is a fetch fault at CR_EVEC (log entry 16). -/
def kspOk (k : Core) (bad : Bool) : Bool :=
  let p := k.ksp.toNat
  decide (p % 16 = 0) && decide (16 ≤ p) && (!k.spValid || decide (p ≤ k.spBase) || decide (k.spBase + 1024 ≤ p - 16)) && !k.spill && !bad

/-- Writes of the hardware itself to local store: no lock applies (R194). -/
def Core.pushLs (k : Core) (a : Nat) (v : W64) : Core := { k with ls := Cells.writeList k.ls a (bytesOf v) }

/-- Taking an exception or entering a gate (R192 to R195): ERA and EST formed and pushed, CR_KSP lowered, keeper mode with IE 0 and VRES 0, pc at the
target; or the Spillway handler; or a halt. Wide instructions issued before complete first (R184). -/
def enter (k0 : Core) (e : Exc) (word : W32) (era : W64) (vres : Nat) (target : W64) : Core :=
  let k := k0.drainWide
  if k.spill then k.halt else
  let bad := match e with
    | .fetchInv a => decide (a = k.evec.toNat)
    | .window a => decide (a = k.evec.toNat) && era == k.evec
    | _ => false
  if kspOk k bad then
    let est := estWord k e word vres false
    let p := k.ksp.toNat
    { ((k.pushLs (p - 16) era).pushLs (p - 8) est) with
        ksp := BitVec.ofNat 64 (p - 16), era := era, est := est, keeper := true, ie := false, vres := 0, pc := target, act := .running }
  else if k.spValid then
    let est := estWord k e word vres true
    { ((k.pushLs (k.spBase + 1008) era).pushLs (k.spBase + 1016) est) with
        era := era, est := est, keeper := true, ie := false, vres := 0, spill := true, pc := k.spvec, act := .running }
  else k.halt

/-- An exception of core c raised by the instruction at its pc, entered at CR_EVEC. -/
def raiseExc (s : State) (c : Nat) (e : Exc) (word : W32) (vres : Nat) : State :=
  let k := s.core c
  s.setCore c { (enter k e word k.pc vres k.evec) with progress := s.now }

/-- Number of the TIMER source (R207). -/
def timerSrc (c : Nat) : Nat := if c < 96 then 3 else 10

/-- A deliverable interrupt (R203). -/
def Core.deliverable (k : Core) : Bool :=
  k.ie && !k.ic.hold && k.ic.act == 0 && (k.ic.pend &&& k.ic.en) != 0

/-- An interrupt taken with `era` as the next instruction; the live VRES is saved (R184, R204). -/
def takeIrq (s : State) (c : Nat) (era : W64) : State :=
  let k := s.core c
  s.setCore c { (enter k .irq 0 era k.vres.toNat k.evec) with progress := s.now }

/-! ## Addresses -/

/-- Blocks mapped in the unit-register region (R431): CD and DG on a query core, every block of R223 on a supervisor core. -/
def unitMapped (c off : Nat) : Bool :=
  if c < 96 then (decide (0x30000 ≤ off) && decide (off < 0x40000)) || (decide (0x60000 ≤ off) && decide (off < 0x68000))
  else decide (off < 0xC0000)

/-- The checks of a naturally aligned access of `size` bytes, in the order of R190. `wide` accesses reach no unit register (R178). -/
def accessExc (s : State) (c a size : Nat) (wide : Bool) : Option Exc :=
  if a % size ≠ 0 then some (.align a) else
  match regionOf a with
  | .ls _ => none
  | .pool off => if inPoolShare s.hi.n c off then none else some (.window a)
  | .unit off => if wide || decide (size < 4) || !unitMapped c off then some (.inv a) else none
  | .dev da => if (s.core c).inWindow da then none else some (.window a)
  | .none => some (.inv a)

/-- The checks of an instruction fetch at the pc (R132, R190; log entry 17). -/
def fetchExc (k : Core) : Option Exc :=
  let a := k.pc.toNat
  if a % 4 ≠ 0 then some (.align a) else
  match regionOf a with
  | .ls _ => none
  | .dev da => if k.inWindow da then none else some (.window a)
  | _ => some (.fetchInv a)

/-! ## Issue and retirement -/

/-- What an instruction needs at issue. -/
structure Need where
  regs : List GReg := []
  keeperOnly : Bool := false
  notLoopEnd : Bool := false
  drains : Bool := false
  isWide : Bool := false
  isMem : Bool := false
  resumable : Bool := false
  illegal : Bool := false

/-- Is the instruction at the end of an armed loop (R145)? -/
def Core.atLoopEnd (k : Core) : Bool := k.lpc != 0 && k.pc == k.lpe

/-- Is a scalar register still to be written by an earlier load or wide instruction? -/
def Core.pendingReg (k : Core) (r : GReg) : Bool :=
  r != 0 && (k.wq.any (fun e => e.dst.any (fun d => d.1 == r)) || (match k.miss with
    | some ⟨_, .load rd _ _ _⟩ => rd == r
    | _ => false))

/-- An instruction that cannot issue yet waits (R157, R164). -/
def Core.mustWait (k : Core) (n : Need) : Bool :=
  n.regs.any k.pendingReg || (n.isWide && decide (4 ≤ k.wq.length)) || (n.drains && !k.wq.isEmpty)
    || (n.isMem && !n.isWide && k.wq.any (fun e => e.mem)) || (n.isMem && n.isWide && k.miss.isSome)

/-- WAIT ends once a source is pending and enabled and delivery is not held (R143, R206). -/
def Core.wakes (k : Core) : Bool := !k.ic.hold && (k.ic.pend &&& k.ic.en) != 0

/-- The core is not blocked, stalled or halted. -/
def Core.ready (k : Core) : Bool := k.act == .running || (k.act == .waiting && k.wakes)

/-- Can core c issue at all: the engine runs and the core is in service and ready? -/
def canIssue (s : State) (c : Nat) : Bool := s.engineUp && (s.core c).ready && !s.hg.oos.contains c

/-- A core whose WAIT has ended issues again. -/
def wakeCore (s : State) (c : Nat) : State :=
  if (s.core c).act = .running then s else s.setCore c { s.core c with act := .running }

/-- Issue of one instruction (R190, R204): interrupt first, then the fetch checks, ILLEGAL, PRIVILEGE, waiting, then its effect. -/
def issue (c : Nat) (word : W32) (n : Need) (s0 : State) (body : Core → State → State) : Res :=
  if 98 ≤ c then .fault .noSuchUnit
  else if !canIssue s0 c then .next s0
  else
    let s := wakeCore s0 c
    let k := s.core c
    if k.deliverable then .next (takeIrq s c k.pc)
    else match fetchExc k with
      | some e => .next (raiseExc s c e word 0)
      | none =>
        if k.vres != 0 && (!n.resumable || decide (k.vln.toNat ≤ k.vres.toNat)) then .next (raiseExc s c .illegal word 0)
        else if n.illegal || (n.notLoopEnd && k.atLoopEnd) then .next (raiseExc s c .illegal word 0)
        else if n.keeperOnly && !k.keeper then .next (raiseExc s c .privilege word 0)
        else if k.mustWait n then .next s
        else .next (body k s)

/-- Instruction-cache lines kept: 512 lines of 64 B, the oldest dropped first (log entry 18). -/
def icacheAdd (l : List Nat) (pc : Nat) : List Nat :=
  if l.contains (pc / 64) then l else (pc / 64 :: l).take 512

/-- Where execution continues after the instruction at the pc completes, and LPC (R145). -/
def nextPc (k : Core) : W64 × W64 :=
  if k.atLoopEnd then (if k.lpc - 1 != 0 then (k.lps, k.lpc - 1) else (k.lpe + 4, k.lpc - 1)) else (k.pc + 4, k.lpc)

/-- Completion of the instruction at `k0`'s pc, with the core's other state in `k` (R145, R185, R392). -/
def retireAs (s : State) (c : Nat) (k0 k : Core) : State :=
  let (pc, lpc) := nextPc k0
  s.setCore c { k with pc := pc, lpc := lpc, vres := 0, progress := s.now, icache := icacheAdd k.icache k0.pc.toNat }

/-- Completion of an instruction that wrote nothing of the loop registers. -/
def retire (s : State) (c : Nat) (k : Core) : State := retireAs s c k k

/-- Completion of a control transfer at `target`. -/
def retireTo (s : State) (c : Nat) (k : Core) (target : W64) : State :=
  s.setCore c { k with pc := target, vres := 0, progress := s.now, icache := icacheAdd k.icache k.pc.toNat }

/-- A scalar operation of two registers: rd receives f(ra, rb). -/
def regOp (c : Nat) (word : W32) (rd ra rb : GReg) (f : W64 → W64 → W64) (s : State) : Res :=
  issue c word { regs := [rd, ra, rb] } s (fun k s => retire s c (k.wr rd (f (k.rd ra) (k.rd rb))))

/-- A scalar operation of one register. -/
def regOp1 (c : Nat) (word : W32) (rd ra : GReg) (f : W64 → W64) (s : State) : Res :=
  issue c word { regs := [rd, ra] } s (fun k s => retire s c (k.wr rd (f (k.rd ra))))

/-- A packed operation, illegal for the sizes it does not list (R154). -/
def packOp (c : Nat) (word : W32) (bad : Bool) (rd ra rb : GReg) (f : W64 → W64 → W64) (s : State) : Res :=
  issue c word { regs := [rd, ra, rb], illegal := bad } s (fun k s => retire s c (k.wr rd (f (k.rd ra) (k.rd rb))))

/-! ## The data cache -/

/-- The cache index of a set and way. -/
def wayKey (line w : Nat) : Nat := line % 128 * 8 + w

/-- The way that holds a line. -/
def Core.findWay (k : Core) (line : Nat) : Option Nat :=
  (List.range 8).find? (fun w => match SMap.find k.cache (wayKey line w) with
    | some l => l.line == line
    | none => false)

/-- One advance of the LFSR (R211). -/
def lfsrNext (x : W16) : W16 :=
  let fb := (x >>> 15) ^^^ (x >>> 13) ^^^ (x >>> 12) ^^^ (x >>> 10)
  (x <<< 1) ||| (fb &&& 1)

/-- The way a requester allocates (R211): its lowest invalid way, else the first way of its mask at or above LFSR[2:0]. -/
def Core.allocWay (k : Core) (mask : Byte) (line : Nat) : Option Nat :=
  let ways := (List.range 8).filter (fun w => mask.getLsbD w)
  match ways.find? (fun w => (SMap.find k.cache (wayKey line w)).isNone) with
  | some w => some w
  | none =>
    let start := bits k.lfsr 0 3
    (((List.range 8).map (fun d => (start + d) % 8)).find? (fun w => mask.getLsbD w))

/-- Write back the write-back buffer (R212). -/
def drainWb (s : State) (c : Nat) : State :=
  let k := s.core c
  match k.wbuf with
  | none => s
  | some l => (s.writeLine (tagOfCore s.hi.n c) l.line (bytesOf l.data)).setCore c { k with wbuf := none }

/-- A line placed in a way of the mask: a dirty victim passes to the write-back buffer, emptied first (R211, R212). -/
def placeLine (s : State) (c : Nat) (mask : Byte) (l : CLine) : State :=
  match (s.core c).allocWay mask l.line with
  | none => s
  | some w =>
    let victim := SMap.find (s.core c).cache (wayKey l.line w)
    let s1 := match victim with
      | some v => if v.dirty then
          let t := drainWb s c
          t.setCore c { t.core c with wbuf := some v }
        else s
      | none => s
    let k := s1.core c
    s1.setCore c { k with cache := SMap.set k.cache (wayKey l.line w) l, lfsr := lfsrNext k.lfsr }

/-- Bytes [off, off + n) of a line. -/
def lineGet (d : W512) (off n : Nat) : Nat := d.toNat / 2 ^ (8 * off) % 2 ^ (8 * n)

/-- `bs` put into a line at a byte offset. -/
def linePut (d : W512) (off : Nat) (bs : List Byte) : W512 :=
  let n := bs.length
  BitVec.ofNat 512 (d.toNat % 2 ^ (8 * off) + leNat bs * 2 ^ (8 * off) + d.toNat / 2 ^ (8 * (off + n)) * 2 ^ (8 * (off + n)))

/-- The line's data while it is cached, changed in place and dirty. -/
def Core.updLine (k : Core) (line w off : Nat) (bs : List Byte) : Core :=
  match SMap.find k.cache (wayKey line w) with
  | some l => { k with cache := SMap.set k.cache (wayKey line w) { l with dirty := true, data := linePut l.data off bs } }
  | none => k

/-- A line written back if it is dirty; it stays valid and clean (R149 CWB, R214). -/
def writeBack (s : State) (c line : Nat) : State :=
  let s1 := drainWb s c
  let k := s1.core c
  match k.findWay line with
  | none => s1
  | some w => match SMap.find k.cache (wayKey line w) with
    | none => s1
    | some l => if l.dirty then
        let s2 := s1.writeLine (tagOfCore s.hi.n c) line (bytesOf l.data)
        let k2 := s2.core c
        s2.setCore c { k2 with cache := SMap.set k2.cache (wayKey line w) { l with dirty := false } }
      else s1

/-- A line invalidated, its dirty data discarded. -/
def Core.dropLine (k : Core) (line : Nat) : Core :=
  match k.findWay line with
  | none => k
  | some w => { k with cache := SMap.erase k.cache (wayKey line w) }

/-- Every dirty line of a core (of the ways of a mask) written back, lines staying valid (R118, R214). -/
def writeBackAll (s : State) (c : Nat) (mask : Byte) : State :=
  ((s.core c).cache.filter (fun e => e.2.dirty && mask.getLsbD (e.1 % 8))).foldl (fun t e => writeBack t c e.2.line) (drainWb s c)

/-- TAKE's treatment of the streamer ways (R214): written back, then invalidated. -/
def flushStreamerWays (s : State) (c : Nat) : State :=
  let m := (s.core c).waysP
  let s1 := writeBackAll s c m
  let k := s1.core c
  s1.setCore c { k with cache := k.cache.filter (fun e => !m.getLsbD (e.1 % 8)), strm := none }

/-! ## Loads and stores -/

/-- Local-store bytes a store may write: none in the locked Spillway region unless the live SPILL is 1 (R196). -/
def Core.lsLocked (k : Core) (a : Nat) : Bool :=
  k.spValid && !k.spill && decide (k.spBase ≤ a) && decide (a < k.spBase + 1024)

def Core.storeLs (k : Core) (a : Nat) (bs : List Byte) : Core := if k.lsLocked a then k else { k with ls := Cells.writeList k.ls a bs }

/-- A loaded value extended to 64 bits. -/
def extendLoad (sgn : Bool) (size v : Nat) : W64 := if sgn then BitVec.ofInt 64 (sextNat (8 * size) v) else BitVec.ofNat 64 v

/-- Bytes of the streamer range the core has now loaded: the streamer runs at most 16 lines ahead (R149). -/
def Core.noteLoad (k : Core) (line : Nat) : Core :=
  match k.strm with
  | some t => if line < t.stop ∧ t.used ≤ line then { k with strm := some { t with used := line } } else k
  | none => k

/-- A checked load of `size` bytes at core address `a` into rd (R147). A load that misses becomes the outstanding miss; a second miss waits (R212). -/
def doLoad (s : State) (c : Nat) (rd : GReg) (a size : Nat) (sgn : Bool) : State :=
  let k := s.core c
  match regionOf a with
  | .ls off => retire s c (k.wr rd (extendLoad sgn size (leNat (Cells.readList k.ls off size))))
  | .pool off => retire s c (k.wr rd (extendLoad sgn size (leNat (Cells.readList (s.pool (clusterOf c)) off size))))
  | .unit off =>
    let (v, s1) := coreRegRead s c off size
    retire s1 c ((s1.core c).wr rd (extendLoad sgn size v))
  | .dev da =>
    match k.findWay (da / 64) with
    | some w => match SMap.find k.cache (wayKey (da / 64) w) with
      | some l => retire s c ((k.noteLoad (da / 64)).wr rd (extendLoad sgn size (lineGet l.data (da % 64) size)))
      | none => s
    | none => if k.miss.isSome then s else retire s c { k.noteLoad (da / 64) with miss := some { line := da / 64, use := .load rd da size sgn } }
  | .none => s

/-- A load instruction: base plus sext(imm16), the checks of R190, then the access. -/
def loadOp (c : Nat) (word : W32) (rd base : GReg) (imm : W16) (size : Nat) (sgn : Bool) (s : State) : Res :=
  issue c word { regs := [rd, base], isMem := true } s (fun k s =>
    let a := (k.rd base + imm.signExtend 64).toNat
    match accessExc s c a size false with
    | some e => raiseExc s c e word 0
    | none => doLoad s c rd a size sgn)

/-- A checked store of the low `size` bytes of `v` (R147). -/
def doStore (s : State) (c : Nat) (word : W32) (a size : Nat) (v : W64) : State :=
  let k := s.core c
  let bs := leBytes size v.toNat
  match regionOf a with
  | .ls off => retire s c (k.storeLs off bs)
  | .pool off => retire (s.setPool (clusterOf c) (Cells.writeList (s.pool (clusterOf c)) off bs)) c k
  | .unit off =>
    match coreRegWrite s c off size (leNat bs) with
    | .ok s1 => retireAs s1 c k (s1.core c)
    | .inv s1 => raiseExc s1 c (.inv a) word 0
    | .stall op => s.setCore c { k with act := .stalled s.now op }
  | .dev da =>
    match k.findWay (da / 64) with
    | some w => retire s c (k.updLine (da / 64) w (da % 64) bs)
    | none => if k.miss.isSome then s else retire s c { k with miss := some { line := da / 64, use := .store da size v } }
  | .none => s

/-- A store instruction. -/
def storeOp (c : Nat) (word : W32) (rs base : GReg) (imm : W16) (size : Nat) (s : State) : Res :=
  issue c word { regs := [rs, base], isMem := true } s (fun k s =>
    let a := (k.rd base + imm.signExtend 64).toNat
    match accessExc s c a size false with
    | some e => raiseExc s c e word 0
    | none => doStore s c word a size (k.rd rs))

/-- A pool atomic (R148): rd receives the old word, memory f(old, rb, rd). -/
def atomicOp (c : Nat) (word : W32) (rd ra rb : GReg) (f : W64 → W64 → W64 → W64) (s : State) : Res :=
  issue c word { regs := [rd, ra, rb], isMem := true } s (fun k s =>
    let a := (k.rd ra).toNat
    if a % 8 ≠ 0 then raiseExc s c (.align a) word 0 else
    match regionOf a with
    | .pool off =>
      if inPoolShare s.hi.n c off then
        let old := BitVec.ofNat 64 (leNat (Cells.readList (s.pool (clusterOf c)) off 8))
        retire (s.setPool (clusterOf c) (Cells.writeList (s.pool (clusterOf c)) off (bytesOf (f old (k.rd rb) (k.rd rd))))) c (k.wr rd old)
      else raiseExc s c (.window a) word 0
    | _ => raiseExc s c (.inv a) word 0)

end Sys2Proof.Machine
end

