-- ==== Sys2Proof/Machine/Control.lean ====
section
/-! DEFINITION. Control transfer, hardware loops, special and control registers, gates and WAIT (spec/05 R141 to R145, R150; spec/07 R191 to R208). -/
namespace Sys2Proof.Machine

/-- A branch (R141): taken at its own address + 4 · sext(imm16). -/
def branchOp (c : Nat) (word : W32) (ra rb : GReg) (off : W16) (cond : W64 → W64 → Bool) (s : State) : Res :=
  issue c word { regs := [ra, rb], notLoopEnd := true } s (fun k s =>
    if cond (k.rd ra) (k.rd rb) then retireTo s c k (k.pc + 4 * off.signExtend 64) else retire s c k)

/-- BEQ (R141). -/
def execBeq (c : Nat) (ra rb : GReg) (off : W16) (s : State) : Res := branchOp c (insnWord (.beq c ra rb off)) ra rb off (fun x y => x == y) s

/-- BNE (R141). -/
def execBne (c : Nat) (ra rb : GReg) (off : W16) (s : State) : Res := branchOp c (insnWord (.bne c ra rb off)) ra rb off (fun x y => x != y) s

/-- BLT (R141). -/
def execBlt (c : Nat) (ra rb : GReg) (off : W16) (s : State) : Res := branchOp c (insnWord (.blt c ra rb off)) ra rb off (fun x y => x.slt y) s

/-- BGE (R141). -/
def execBge (c : Nat) (ra rb : GReg) (off : W16) (s : State) : Res := branchOp c (insnWord (.bge c ra rb off)) ra rb off (fun x y => !x.slt y) s

/-- BLTU (R141). -/
def execBltu (c : Nat) (ra rb : GReg) (off : W16) (s : State) : Res := branchOp c (insnWord (.bltu c ra rb off)) ra rb off (fun x y => x.ult y) s

/-- BGEU (R141). -/
def execBgeu (c : Nat) (ra rb : GReg) (off : W16) (s : State) : Res := branchOp c (insnWord (.bgeu c ra rb off)) ra rb off (fun x y => !x.ult y) s

/-- JMP (R141). -/
def execJmp (c : Nat) (off : BitVec 26) (s : State) : Res :=
  issue c (insnWord (.jmp c off)) { notLoopEnd := true } s (fun k s => retireTo s c k (k.pc + 4 * off.signExtend 64))

/-- CALL (R141): g31 receives the address of the next instruction. -/
def execCall (c : Nat) (off : BitVec 26) (s : State) : Res :=
  issue c (insnWord (.call c off)) { regs := [31], notLoopEnd := true } s (fun k s =>
    retireTo s c (k.wr 31 (k.pc + 4)) (k.pc + 4 * off.signExtend 64))

/-- A jump to a register (R141): a target with bits [1:0] not zero raises ALIGN on the jump. -/
def jumpOp (c : Nat) (word : W32) (ra : GReg) (link : Bool) (s : State) : Res :=
  issue c word { regs := if link then [ra, 31] else [ra], notLoopEnd := true } s (fun k s =>
    let t := k.rd ra
    if t.toNat % 4 ≠ 0 then raiseExc s c (.align t.toNat) word 0
    else retireTo s c (if link then k.wr 31 (k.pc + 4) else k) t)

/-- JR (R141). -/
def execJr (c : Nat) (ra : GReg) (s : State) : Res := jumpOp c (insnWord (.jr c ra)) ra false s

/-- CALLR (R141). -/
def execCallr (c : Nat) (ra : GReg) (s : State) : Res := jumpOp c (insnWord (.callr c ra)) ra true s

/-- LOOP and LOOPI (R144). -/
def loopOp (c : Nat) (word : W32) (regs : List GReg) (count : Core → W64) (len : W16) (s : State) : Res :=
  issue c word { regs := regs, notLoopEnd := true, illegal := len == 0 } s (fun k s =>
    let lps := k.pc + 4
    let lpe := lps + BitVec.ofNat 64 (4 * (len.toNat - 1))
    let n := count k
    retireTo s c { k with lps := lps, lpe := lpe, lpc := n } (if n = 0 then lpe + 4 else lps))

/-- LOOP (R144). -/
def execLoop (c : Nat) (ra : GReg) (len : W16) (s : State) : Res := loopOp c (insnWord (.loop c ra len)) [ra] (fun k => k.rd ra) len s

/-- LOOPI (R144). -/
def execLoopi (c : Nat) (count : BitVec 10) (len : W16) (s : State) : Res :=
  loopOp c (insnWord (.loopi c count len)) [] (fun _ => count.setWidth 64) len s

/-! ## Special registers -/

/-- CR_ID of core c (R155). -/
def crId (c : Nat) : W64 :=
  if c < 96 then BitVec.ofNat 64 (c + clusterOf c * 2 ^ 8) else BitVec.ofNat 64 (c - 96 + 0xF * 2 ^ 8 + 2 ^ 12)

/-- MFS (R130, R150). -/
def execMfs (c : Nat) (rd : GReg) (imm : W16) (s : State) : Res :=
  issue c (insnWord (.mfs c rd imm)) { regs := [rd], illegal := decide (8 ≤ imm.toNat), keeperOnly := imm == 4 || imm == 5 } s (fun k s =>
    let v := match imm.toNat with
      | 0 => k.vln
      | 1 => k.lpc
      | 2 => k.lps
      | 3 => k.lpe
      | 4 => k.era
      | 5 => k.est
      | 6 => BitVec.ofNat 64 s.now
      | _ => crId c
    retire s c (k.wr rd v))

/-- The bits of EST that exist (R191). -/
def estMask : W64 := 0xFFFFFFFF03FF073F#64

/-- The two low address bits are written as 0. -/
def alignedWord (v : W64) : W64 := v &&& ~~~3#64

/-- MTS (R130, R150): TICK and CORE are illegal, ERA and EST are the keeper's, a VLN value outside R160 is illegal; at the end of an armed loop the
loop registers may not be written (R145); VLN waits for the wide queue (R164). -/
def execMts (c : Nat) (rs : GReg) (imm : W16) (s : State) : Res :=
  issue c (insnWord (.mts c rs imm))
    { regs := [rs], illegal := decide (6 ≤ imm.toNat), keeperOnly := imm == 4 || imm == 5,
      notLoopEnd := imm == 1 || imm == 2 || imm == 3, drains := imm == 0 } s (fun k s =>
    let v := k.rd rs
    match imm.toNat with
    | 0 => if vlnOk v.toNat then retireAs s c k { k with vln := v } else raiseExc s c .illegal (insnWord (.mts c rs imm)) 0
    | 1 => retireTo s c { k with lpc := v } (k.pc + 4)
    | 2 => retireAs s c k { k with lps := alignedWord v }
    | 3 => retireAs s c k { k with lpe := alignedWord v }
    | 4 => retireAs s c k { k with era := v }
    | _ => retireAs s c k { k with est := v &&& estMask })

/-! ## Control registers -/

/-- Indices that CGET and CPUT reach (R155). -/
def crListed (i : Nat) : Bool :=
  decide (i = 0) || decide (i = 8) || decide (i = 9) || (decide (0x10 ≤ i) && decide (i ≤ 0x14)) || (decide (0x18 ≤ i) && decide (i ≤ 0x1A))
    || (decide (0x20 ≤ i) && decide (i ≤ 0x3F))

/-- Value of a control register and the core after the read (R155, R208). -/
def crRead (c : Nat) (k : Core) (i : Nat) : W64 × Core :=
  match i with
  | 0x00 => (crId c, k)
  | 0x08 => (k.winLo, k)
  | 0x09 => (k.winHi, k)
  | 0x10 => (k.ksp, k)
  | 0x11 => (k.spvec, k)
  | 0x12 => (k.spstk, k)
  | 0x13 => (k.gtbase, k)
  | 0x14 => (k.evec, k)
  | 0x18 => (k.waysS.setWidth 64, k)
  | 0x19 => (k.waysW.setWidth 64, k)
  | 0x1A => (k.waysP.setWidth 64, k)
  | 0x20 => (k.ic.pend, k)
  | 0x21 => (k.ic.en, k)
  | 0x22 => (k.ic.act.setWidth 64, k)
  | 0x23 => (BitVec.ofNat 64 k.ic.claim.1, { k with ic := k.ic.claim.2 })
  | 0x25 => (flagW k.ic.hold, k)
  | 0x26 => (k.ic.timer, k)
  | _ => (0, k)

/-- The controller after a write of one of its registers (R205 to R208). -/
def icWrite (c tick : Nat) (x : ICtl) (i : Nat) (v : W64) : ICtl :=
  match i with
  | 0x20 => { x with pend := x.pend &&& ~~~v }
  | 0x21 => { x with en := v &&& ~~~1#64 }
  | 0x24 => if v.setWidth 6 = x.act then { x with act := 0 } else x
  | 0x25 => { x with hold := v.getLsbD 0 }
  | 0x26 => if v.toNat ≤ tick then { (x.edge (timerSrc c)) with timer := v, fired := true } else { x with timer := v, fired := false }
  | 0x27 => { x with pend := x.pend ||| (v &&& 0xFFFF000000000000#64) }
  | _ => x

/-- The core after a control-register write, reserved bits kept at 0 and read-only registers unchanged (R155, R208). -/
def crWrite (c tick : Nat) (k : Core) (i : Nat) (v : W64) : Core :=
  match i with
  | 0x08 => { k with winLo := v &&& 0x1FFFFFFF800#64 }
  | 0x09 => { k with winHi := v &&& 0x1FFFFFFF800#64 }
  | 0x10 => { k with ksp := v &&& 0x3FFFF#64 }
  | 0x11 => { k with spvec := alignedWord v }
  | 0x12 => { k with spstk := v &&& 0x3FC01#64 }
  | 0x13 => { k with gtbase := v &&& 0x1FF03FFF0#64 }
  | 0x14 => { k with evec := alignedWord v }
  | 0x18 => { k with waysS := v.setWidth 8 }
  | 0x19 => { k with waysW := v.setWidth 8 }
  | 0x1A => { k with waysP := v.setWidth 8 }
  | _ => { k with ic := icWrite c tick k.ic i v }

/-- CGET of any index (R150). -/
def cgetOp (c : Nat) (word : W32) (rd : GReg) (i : Nat) (s : State) : Res :=
  issue c word { regs := [rd], keeperOnly := true, illegal := !crListed i } s (fun k s =>
    let (v, k1) := crRead c k i
    retire s c (k1.wr rd v))

/-- CPUT of any index (R150). -/
def cputOp (c : Nat) (word : W32) (rs : GReg) (i : Nat) (s : State) : Res :=
  issue c word { regs := [rs], keeperOnly := true, illegal := !crListed i } s (fun k s => retire s c (crWrite c s.now k i (k.rd rs)))

/-- CGET (R150). -/
def execCget (c : Nat) (rd : GReg) (imm : W16) (s : State) : Res := cgetOp c (insnWord (.cget c rd imm)) rd imm.toNat s
/-- CPUT (R150). -/
def execCput (c : Nat) (rs : GReg) (imm : W16) (s : State) : Res := cputOp c (insnWord (.cput c rs imm)) rs imm.toNat s
/-- CR_IC_CLAIM (R205). -/
def execCrIcClaim (c : Nat) (rd : GReg) (s : State) : Res := cgetOp c (insnWord (.crIcClaim c rd)) rd 0x23 s
/-- CR_IC_DONE (R205). -/
def execCrIcDone (c : Nat) (rs : GReg) (s : State) : Res := cputOp c (insnWord (.crIcDone c rs)) rs 0x24 s
/-- CR_IC_SWSET (R208). -/
def execCrIcSwset (c : Nat) (rs : GReg) (s : State) : Res := cputOp c (insnWord (.crIcSwset c rs)) rs 0x27 s
/-- CR_IC_TIMER_WRITE (R207). -/
def execCrIcTimerWrite (c : Nat) (rs : GReg) (s : State) : Res := cputOp c (insnWord (.crIcTimerWrite c rs)) rs 0x26 s

/-! ## Gates, return and WAIT -/

/-- Does a gate argument pair pass (R200)? -/
def pairOk (s : State) (c : Nat) (k : Core) (p len : Nat) : Bool :=
  if len = 0 then true
  else if 2 ^ 64 < p + len then false
  else
    decide (p + len ≤ 0x30000)
    || (match poolShare s.hi.n c with
        | some (lo, n) => decide (0x10000000 + lo ≤ p) && decide (p + len ≤ 0x10000000 + lo + n)
        | none => false)
    || (decide (devBase + k.winLo.toNat ≤ p) && decide (p + len ≤ devBase + k.winHi.toNat))

/-- The first of `n` argument pairs that fails, from pair p. -/
def firstBadPair (s : State) (c : Nat) (k : Core) : Nat → Nat → Option Nat
  | _, 0 => none
  | p, n + 1 =>
    if pairOk s c k (k.rd (BitVec.ofNat 5 (10 + 2 * p))).toNat (k.rd (BitVec.ofNat 5 (11 + 2 * p))).toNat then firstBadPair s c k (p + 1) n
    else some p

/-- GATE n (R199 to R201). -/
def execGate (c : Nat) (n : Byte) (s : State) : Res :=
  issue c (insnWord (.gate c n)) { notLoopEnd := true, drains := true, regs := [10, 11, 12, 13, 14, 15] } s (fun k s =>
    let word := insnWord (.gate c n)
    let e := bits k.gtbase 4 14 * 16 + 16 * n.toNat
    let handler := BitVec.ofNat 64 (leNat (Cells.readList k.ls e 8))
    let w1 := leNat (Cells.readList k.ls (e + 8) 8)
    if !k.gtbase.getLsbD 32 || decide (bits k.gtbase 24 8 < n.toNat) || decide (0x40000 < e + 16) || decide (w1 % 2 = 0) then
      raiseExc s c (.gateNum n.toNat) word 0
    else match firstBadPair s c k 0 (w1 / 2 % 4) with
      | some p => raiseExc s c (.gateArg p) word 0
      | none => s.setCore c { (enter k (.gate n.toNat) word (k.pc + 4) 0 handler) with progress := s.now })

/-- GRET (R197): mode, IE and VRES from EST, SPILL cleared, execution at ERA; a misaligned ERA raises ALIGN on the GRET. -/
def execGret (c : Nat) (s : State) : Res :=
  issue c (insnWord (.gret c)) { notLoopEnd := true, drains := true, keeperOnly := true } s (fun k s =>
    if k.era.toNat % 4 ≠ 0 then raiseExc s c (.align k.era.toNat) (insnWord (.gret c)) 0
    else s.setCore c { k with keeper := k.est.getLsbD 8, ie := k.est.getLsbD 9, vres := BitVec.ofNat 10 (bits k.est 16 10), spill := false,
                              pc := k.era, progress := s.now, icache := icacheAdd k.icache k.pc.toNat })

/-- WAIT (R143): keeper-only; blocks unless a source is pending and enabled, and then continues with the next instruction. -/
def execWaitIrq (c : Nat) (s : State) : Res :=
  issue c (insnWord (.waitIrq c)) { notLoopEnd := true, drains := true, keeperOnly := true } s (fun k s =>
    retireTo s c (if k.wakes then k else { k with act := .waiting }) (k.pc + 4))

/-- A word with a reserved major, func or sub value, or a non-zero field marked 0, raises ILLEGAL (R136); a word that stands for an instruction is
that instruction's own row and changes nothing here (log entry 20). -/
def execReservedEncoding (c : Nat) (w : W32) (s : State) : Res :=
  match decodeInsn c w with
  | some _ => if 98 ≤ c then .fault .noSuchUnit else .next s
  | none => issue c w { illegal := true } s (fun _ s => s)

end Sys2Proof.Machine
end

