-- ==== Sys2Proof/Machine/CoreEngines.lean ====
section
/-! DEFINITION. The events of a core: cache fills and streamer fetches (spec/07 R211 to R213, spec/05 R149), completion of wide instructions (spec/06 R165),
and interrupts (spec/07 R202 to R207). -/
namespace Sys2Proof.Machine

/-- CACHE_MISS_FILL (R211, R212): the outstanding miss filled and its load or store performed; `upsets` strike the line's channel before the read.
An uncorrectable line is a core fault (R317). A store with CR_WAYS_S 0 writes its bytes straight to memory (R211). Nothing is filled during a re-sweep
(R325). -/
def execCacheMissFill (c : Nat) (upsets : List Upset) (s : State) : Res :=
  if 98 ≤ c then .fault .noSuchUnit else
  match (s.core c).miss with
  | none => .next s
  | some m =>
    if s.mc.sweep then .next s else
    let tag := tagOfCore s.hi.n c
    let s0 := drainWb (s.addUpsets (s.lineAddr (64 * m.line)).1 upsets) c
    let direct := match m.use with
      | .store da size v => if (s.core c).waysS = 0 then some (da, leBytes size v.toNat) else none
      | .load _ _ _ _ => none
    match direct with
    | some (da, bs) =>
      let (ok, s1) := (s0.setCore c { s0.core c with miss := none }).storeLine tag da m.line bs
      .next (if ok then s1 else s1.setCore c (s1.core c).halt)
    | none =>
      let (d, s1) := s0.readLine tag m.line
      match d with
      | none => .next (s1.setCore c (s1.core c).halt)
      | some bs =>
        let data : W512 := BitVec.ofNat 512 (leNat bs)
        let k := { s1.core c with miss := none }
        match m.use with
        | .load rd da size sgn =>
          .next (placeLine (s1.setCore c (k.wr rd (extendLoad sgn size (lineGet data (da % 64) size)))) c k.waysS
            { line := m.line, dirty := false, data := data })
        | .store da size v =>
          .next (placeLine (s1.setCore c k) c k.waysS { line := m.line, dirty := true, data := linePut data (da % 64) (leBytes size v.toNat) })

/-- STREAMER_FETCH (R149, R212): the next line of the range into the streamer ways, at most 16 lines ahead of the core's loads; a fetch that would
leave the window ends the streamer. -/
def execStreamerFetch (c : Nat) (s : State) : Res :=
  if 98 ≤ c then .fault .noSuchUnit else
  let k := s.core c
  match k.strm with
  | none => .next s
  | some t =>
    if t.stop ≤ t.next then .next (s.setCore c { k with strm := none })
    else if t.used + 16 < t.next || k.miss.isSome || k.act == .halted || s.mc.sweep then .next s
    else if !k.inWindow (64 * t.next) then .next (s.setCore c { k with strm := none })
    else
      let s1 := s.setCore c { k with strm := some { t with next := t.next + 1 } }
      if (k.findWay t.next).isSome || k.waysP == 0 then .next s1
      else
        let (d, s2) := (drainWb s1 c).readLine (tagOfCore s.hi.n c) t.next
        match d with
        | none => .next (s2.setCore c (s2.core c).halt)
        | some bs => .next (placeLine s2 c k.waysP { line := t.next, dirty := false, data := BitVec.ofNat 512 (leNat bs) })

/-- The oldest instruction of a unit and the queue without it; none while an older instruction in the queue still produces an operand of it (R165). -/
def takeUnit (u : WUnit) (before : List WEntry) : List WEntry → Option (WEntry × List WEntry)
  | [] => none
  | e :: es =>
    if e.unit = u then (if before.any (fun b => b.writes.any e.reads.contains) then none else some (e, before ++ es)) else takeUnit u (before ++ [e]) es

/-- WIDE_UNIT_COMPLETE (R164, R165): the unit's oldest instruction writes its scalar results and leaves the wide queue, once the producers of its operands
have. -/
def execWideUnitComplete (c : Nat) (u : WUnit) (s : State) : Res :=
  if 98 ≤ c then .fault .noSuchUnit else
  let k := s.core c
  match takeUnit u [] k.wq with
  | none => .next s
  | some (e, q) => .next (s.setCore c { k.finishWide e with wq := q })

/-- May a core be interrupted in its present activity (R204)? -/
def interruptible (k : Core) : Bool :=
  match k.act with
  | .running => true
  | .taking _ => true
  | .waiting => true
  | .stalled _ _ => true
  | .inDone => false
  | .halted => false

/-- INTERRUPT (R203, R204): a deliverable interrupt taken at the pc: the next instruction, the TAKE, the stalled instruction or WAIT + 4. -/
def execInterrupt (c : Nat) (s : State) : Res :=
  if 98 ≤ c then .fault .noSuchUnit else
  let k := s.core c
  if s.engineUp && interruptible k && k.deliverable then .next (takeIrq s c k.pc) else .next s

/-- The TIMER edge of one controller (R207). -/
def timerEdge (s : State) (c : Nat) : State :=
  let k := s.core c
  if k.ic.timer.toNat ≤ s.now && !k.ic.fired then s.setCore c { k with ic := { k.ic.edge (timerSrc c) with fired := true } } else s

/-- IC_TIMER_EXPIRY (R207): the tick counter has reached CR_IC_TIMER; both members of the supervisor pair see it (log entry 14). -/
def execIcTimerExpiry (c : Nat) (s : State) : Res :=
  if 98 ≤ c then .fault .noSuchUnit
  else if c < 96 then .next (timerEdge s c)
  else .next (timerEdge (timerEdge s 96) 97)

end Sys2Proof.Machine
end

