-- ==== Sys2Proof/Machine/CoreUnits.lean ====
section
/-! DEFINITION. Stalled submissions of a core (spec/02 R53, spec/13 R358). -/
namespace Sys2Proof.Machine

/-- A stalled store to CD_SUBMIT or DG_SUBMIT tries again: it completes once its queue has room. -/
def submitResume (s : State) (c off : Nat) (v : W64) : State :=
  match coreRegWrite s c off 8 v.toNat with
  | .ok s1 => retire s1 c { s1.core c with act := .running }
  | .inv s1 => raiseExc (s1.setCore c { s1.core c with act := .running }) c (.inv (0x40000000 + off)) 0 0
  | .stall _ => s

/-- CD_SUBMIT_RESUME (R53): a unit has gained queue room and the stalled store places its job. -/
def execCdSubmitResume (c : Nat) (s : State) : Res :=
  if 98 ≤ c then .fault .noSuchUnit
  else if !s.engineUp then .next s
  else match (s.core c).act with
  | .stalled _ (.codec v) => .next (submitResume s c 0x32000 v)
  | .stalled _ (.digest v) => .next (submitResume s c 0x61000 v)
  | _ => .next s

end Sys2Proof.Machine
end

