-- ==== Sys2Proof/Machine/HgInsn.lean ====
section
/-! DEFINITION. The Headgate and Distributary instructions (spec/04 R116 to R119, R112, R124; spec/05 R151, R152; spec/06 R180) and the events that end their
stalls. -/
namespace Sys2Proof.Machine

/-- The scalar registers that TAKE loads (R131). -/
def takeRegs : List GReg := [16, 17, 18, 19, 20, 21, 22, 23]

/-- TAKE (R116, R131, R214): the streamer ways are written back and invalidated, and the core blocks until DISPATCH. It waits for a load into one of its
registers, and for the end of a re-sweep (R325). -/
def execTake (c : Nat) (s : State) : Res :=
  issue c (insnWord (.take c)) { regs := takeRegs, keeperOnly := true, notLoopEnd := true, drains := true } s (fun _ s =>
    if s.mc.sweep then s else
    let s1 := flushStreamerWays s c
    let k := s1.core c
    s1.setCore c { k with act := .taking s.now, item := none, progress := s.now })

/-- A post staged in its flume (R117). -/
def State.stagePost (s : State) (slot : Nat) (twin : Bool) (t : Item) (sel : Bool) (f : Nat) (w1 w2 : W64) : State :=
  let r := t.run twin
  let s1 := match s.flume? f with
    | some x => s.setFlume f { x with staged := x.staged + 1 }
    | none => s
  s1.setItem slot (t.setRun twin { r with posts := r.posts ++ [{ flume := f, sel := sel, w1 := w1, w2 := w2 }] })

/-- A post attempted: it stages its two words, or is kept while the flume is full; none where it stalls. -/
def tryPost (s : State) (slot : Nat) (twin : Bool) (t : Item) (sel : Bool) (w1 w2 : W64) : Option State :=
  match t.output sel with
  | none => some s
  | some f =>
    if s.doomed t then some s
    else if (s.flume? f).any (fun x => x.full) then none
    else some (s.stagePost slot twin t sel f w1 w2)

/-- POST (R116, R117): illegal without the output; it stalls while its flume is full (R119). -/
def execPost (c : Nat) (sel : Bool) (ra rb : GReg) (s : State) : Res :=
  let absent := match s.runOf c with
    | none => true
    | some (_, _, t) => (t.output sel).isNone
  issue c (insnWord (.post c sel ra rb)) { regs := [ra, rb], illegal := absent } s (fun k s =>
    match s.runOf c with
    | none => s
    | some (slot, twin, t) => match tryPost s slot twin t sel (k.rd ra) (k.rd rb) with
      | some s1 => retire s1 c (s1.core c)
      | none => s.setCore c { k with act := .stalled s.now (.post sel (k.rd ra) (k.rd rb)) })

/-- POST_RESUME (R119): the stalled POST proceeds once its flume has a free entry. -/
def execPostResume (c : Nat) (s : State) : Res :=
  if 98 ≤ c then .fault .noSuchUnit else
  let k := s.core c
  match k.act with
  | .stalled _ (.post sel w1 w2) =>
    match s.runOf c with
    | none => .next (retire s c { k with act := .running })
    | some (slot, twin, t) => match tryPost s slot twin t sel w1 w2 with
      | some s1 => .next (retire s1 c { s1.core c with act := .running })
      | none => .next s
  | _ => .next s

/-- SIGNAL (R116): the setting of flags staged on the named slot; outside an item nothing is staged (log entry 25). -/
def execSignal (c : Nat) (ra rb : GReg) (s : State) : Res :=
  issue c (insnWord (.signal c ra rb)) { regs := [ra, rb] } s (fun k s =>
    match s.runOf c with
    | none => retire s c k
    | some (slot, twin, t) =>
      let r := t.run twin
      let s1 := s.setItem slot (t.setRun twin { r with signals := r.signals ++ [{ slot := (k.rd ra).toNat, mask := k.rd rb }] })
      retire s1 c (s1.core c))

/-- DONE with a failing status, R116: nothing commits, and the query or append ends with that status. -/
def doneFailed (s : State) (c slot : Nat) (t : Item) (st : W16) : State := (s.coreLoop c).failItem slot t st

/-- DONE with PARK, R112: the dirty lines written back, MASK and WAITALL set, the item requeued for its next phase in the same cluster. -/
def donePark (s : State) (c slot : Nat) (t : Item) (waitall : Bool) (mask : W64) : State :=
  if !t.rmode || t.mirror || t.phase == 15 then doneFailed s c slot t 0x0703
  else
    let s1 := (writeBackAll s c 0xFF).coreLoop c
    if s1.doomed t then s1.discardItem slot else
    match s1.item? slot with
    | none => s1
    | some u => s1.setItem slot { u with mask := mask, waitall := waitall, phase := t.phase + 1, isParked := true, parked := some (clusterOf c), stamp := s.now,
                                         prim := { u.prim with state := .waiting } }

/-- DONE that commits, R118 step 1, R124: the first run of a mirrored item is held; any other waits for COMMIT. -/
def doneCommit (s : State) (c slot : Nat) (twin : Bool) (sig : W64) (st : W16) : State :=
  let s1 := writeBackAll s c 0xFF
  match s1.item? slot with
  | none => s1
  | some t =>
    let r := { t.run twin with status := st, sig := sig }
    let first := t.mirror && (t.run (!twin)).state != .held
    if first then (s1.setItem slot (t.setRun twin { r with state := .held })).coreLoop c
    else
      let s2 := s1.setItem slot (t.setRun twin { r with state := .committing c })
      s2.setCore c { s2.core c with act := .inDone, progress := s.now }

/-- The DONE instruction (R116): status bits [15:0], PARK in bit 16, WAITALL in bit 17. Outside an item the core goes to the dispatch loop (log
entry 25). It waits for an outstanding miss, whose store is to be written back (R213), and for the end of a re-sweep (R325). -/
def doneOp (c : Nat) (word : W32) (ra rb : GReg) (s : State) : Res :=
  issue c word { regs := [ra, rb], notLoopEnd := true, drains := true } s (fun k s =>
    if k.miss.isSome || s.mc.sweep then s else
    let a := k.rd ra
    let st : W16 := a.setWidth 16
    match s.runOf c with
    | none => s.coreLoop c
    | some (slot, twin, t) =>
      if !okClass st then doneFailed s c slot t st
      else if a.getLsbD 16 then donePark s c slot t (a.getLsbD 17) (k.rd rb)
      else doneCommit s c slot twin (k.rd rb) st)

/-- DONE (R118). -/
def execDoneItem (c : Nat) (ra rb : GReg) (s : State) : Res := doneOp c (insnWord (.doneItem c ra rb)) ra rb s

/-- PARK: DONE with PARK set (R112, R113). -/
def execPark (c : Nat) (ra rb : GReg) (s : State) : Res := doneOp c (insnWord (.park c ra rb)) ra rb s

/-- DONE_FAIL: DONE with a status outside class 0x00 (R116). -/
def execDoneFail (c : Nat) (ra rb : GReg) (s : State) : Res := doneOp c (insnWord (.doneFail c ra rb)) ra rb s

/-- Tuple size of a send of exchange x from a core's item; none where x is not its stage's OUT_EXCH (R91). -/
def State.tupleSize (s : State) (c x : Nat) : Option Nat :=
  match s.runOf c with
  | none => none
  | some (_, _, t) =>
    if x = 0xFF ∨ bits t.w4 32 8 ≠ x then none else (s.query? t.ctx).map (fun q => exTuple (exchEnt q.code x))

/-- Registers of a DSEND tuple (R152). -/
def tupleRegs (ra : GReg) (size : Nat) : List GReg := (List.range (size / 8)).map (fun k => BitVec.ofNat 5 (ra.toNat + k))

/-- Does the injection port of core c's cluster accept so many bytes of tuples: it is empty, or they fit (R91; log entry 26)? A re-sweep holds them back, since a
parcel may lie in the arena (R325). -/
def State.injects (s : State) (c n : Nat) : Bool :=
  let used := SMap.get s.hg.inject 0 (clusterOf c)
  !s.mc.sweep && (used == 0 || decide (used + n ≤ Config.injectRoom))

/-- Tuples through the injection port of core c's cluster, all together; none while it is full. -/
def trySend (s : State) (c slot x size : Nat) (bs : List Byte) : Option State :=
  if !s.injects c bs.length then none else
  some (({ s with hg := { s.hg with inject := SMap.set s.hg.inject (clusterOf c) (SMap.get s.hg.inject 0 (clusterOf c) + bs.length) } }).sendTuples slot x size bs)

/-- DSEND (R91, R119, R152): one tuple; the core stalls while the injection port is full. -/
def execDsend (c : Nat) (ra : GReg) (x : Byte) (s : State) : Res :=
  let size := s.tupleSize c x.toNat
  let n := size.getD 8
  issue c (insnWord (.dsend c ra x)) { regs := tupleRegs ra n, illegal := size.isNone || decide (32 < ra.toNat + n / 8) } s (fun k s =>
    match s.runOf c with
    | none => s
    | some (slot, _, _) =>
      let bs := ((tupleRegs ra n).map (fun r => bytesOf (k.rd r))).flatten
      match trySend s c slot x.toNat n bs with
      | some s1 => retire s1 c (s1.core c)
      | none => s.setCore c { k with act := .stalled s.now (.send x.toNat false bs) })

/-- The place of a WDSEND in the wide queue (R180). -/
def sendEntry : WEntry := { unit := .ls, mem := false, reads := [], writes := [], dst := [] }

/-- DSEND_RESUME (R119, R180): a stalled DSEND or WDSEND sends its tuples once the port accepts them. -/
def execDsendResume (c : Nat) (s : State) : Res :=
  if 98 ≤ c then .fault .noSuchUnit else
  let k := s.core c
  match k.act with
  | .stalled _ (.send x wide bs) =>
    match s.runOf c, s.tupleSize c x with
    | some (slot, _, _), some n => (match trySend s c slot x n bs with
      | some s1 => .next (retire s1 c { s1.core c with act := .running, wq := (s1.core c).wq ++ if wide then [sendEntry] else [] })
      | none => .next s)
    | _, _ => .next (retire s c { k with act := .running })
  | _ => .next s

/-- WDSEND (R160, R180): VLN · 8 bytes of w as tuples, all together, VLN at most 64. -/
def execWdsend (c : Nat) (w : WReg) (x : Byte) (s : State) : Res :=
  let size := s.tupleSize c x.toNat
  issue c (insnWord (.wdsend c w x)) { isWide := true, illegal := size.isNone || decide (64 < (s.core c).vln.toNat) } s (fun k s =>
    match s.runOf c with
    | none => s
    | some (slot, _, _) =>
      let bs := leBytes (k.vln.toNat * 8) (k.rdw w).toNat
      match trySend s c slot x.toNat (size.getD 8) bs with
      | some s1 => retire s1 c { s1.core c with wq := (s1.core c).wq ++ [sendEntry] }
      | none => s.setCore c { k with act := .stalled s.now (.send x.toNat true bs) })

end Sys2Proof.Machine
end

