-- ==== Sys2Proof/Machine/LoadStore.lean ====
section
/-! DEFINITION. Loads, stores, pool atomics and cache maintenance (spec/05 R147 to R149). -/
namespace Sys2Proof.Machine

/-- LDB (R147). -/
def execLdb (c : Nat) (rd base : GReg) (imm : W16) (s : State) : Res := loadOp c (insnWord (.ldb c rd base imm)) rd base imm 1 true s

/-- LDBU (R147). -/
def execLdbu (c : Nat) (rd base : GReg) (imm : W16) (s : State) : Res := loadOp c (insnWord (.ldbu c rd base imm)) rd base imm 1 false s

/-- LDH (R147). -/
def execLdh (c : Nat) (rd base : GReg) (imm : W16) (s : State) : Res := loadOp c (insnWord (.ldh c rd base imm)) rd base imm 2 true s

/-- LDHU (R147). -/
def execLdhu (c : Nat) (rd base : GReg) (imm : W16) (s : State) : Res := loadOp c (insnWord (.ldhu c rd base imm)) rd base imm 2 false s

/-- LDW (R147). -/
def execLdw (c : Nat) (rd base : GReg) (imm : W16) (s : State) : Res := loadOp c (insnWord (.ldw c rd base imm)) rd base imm 4 true s

/-- LDWU (R147). -/
def execLdwu (c : Nat) (rd base : GReg) (imm : W16) (s : State) : Res := loadOp c (insnWord (.ldwu c rd base imm)) rd base imm 4 false s

/-- LDD (R147). -/
def execLdd (c : Nat) (rd base : GReg) (imm : W16) (s : State) : Res := loadOp c (insnWord (.ldd c rd base imm)) rd base imm 8 false s

/-- STB (R147). -/
def execStb (c : Nat) (rs base : GReg) (imm : W16) (s : State) : Res := storeOp c (insnWord (.stb c rs base imm)) rs base imm 1 s

/-- STH (R147). -/
def execSth (c : Nat) (rs base : GReg) (imm : W16) (s : State) : Res := storeOp c (insnWord (.sth c rs base imm)) rs base imm 2 s

/-- STW (R147). -/
def execStw (c : Nat) (rs base : GReg) (imm : W16) (s : State) : Res := storeOp c (insnWord (.stw c rs base imm)) rs base imm 4 s

/-- STD (R147). -/
def execStd (c : Nat) (rs base : GReg) (imm : W16) (s : State) : Res := storeOp c (insnWord (.std c rs base imm)) rs base imm 8 s

/-- CD_SUBMIT (R52): the 64-bit store to the submit register; the store operation reaches it through its address. -/
def execCdSubmit (c : Nat) (rs base : GReg) (imm : W16) (s : State) : Res := storeOp c (insnWord (.cdSubmit c rs base imm)) rs base imm 8 s

/-- DG_SUBMIT (R358): the 64-bit store to the submit register; the store operation reaches it through its address. -/
def execDgSubmit (c : Nat) (rs base : GReg) (imm : W16) (s : State) : Res := storeOp c (insnWord (.dgSubmit c rs base imm)) rs base imm 8 s

/-- AMOADD (R148). -/
def execAmoadd (c : Nat) (rd ra rb : GReg) (s : State) : Res := atomicOp c (insnWord (.amoadd c rd ra rb)) rd ra rb (fun old x _ => old + x) s

/-- AMOSWAP (R148). -/
def execAmoswap (c : Nat) (rd ra rb : GReg) (s : State) : Res := atomicOp c (insnWord (.amoswap c rd ra rb)) rd ra rb (fun _ x _ => x) s

/-- AMOCAS (R148). -/
def execAmocas (c : Nat) (rd ra rb : GReg) (s : State) : Res := atomicOp c (insnWord (.amocas c rd ra rb)) rd ra rb (fun old x d => if old = d then x else old) s

/-- AMOAND (R148). -/
def execAmoand (c : Nat) (rd ra rb : GReg) (s : State) : Res := atomicOp c (insnWord (.amoand c rd ra rb)) rd ra rb (fun old x _ => old &&& x) s

/-- AMOOR (R148). -/
def execAmoor (c : Nat) (rd ra rb : GReg) (s : State) : Res := atomicOp c (insnWord (.amoor c rd ra rb)) rd ra rb (fun old x _ => old ||| x) s

/-- AMOMAX (R148). -/
def execAmomax (c : Nat) (rd ra rb : GReg) (s : State) : Res := atomicOp c (insnWord (.amomax c rd ra rb)) rd ra rb (fun old x _ => amoMax old x) s

/-- AMOMIN (R148). -/
def execAmomin (c : Nat) (rd ra rb : GReg) (s : State) : Res := atomicOp c (insnWord (.amomin c rd ra rb)) rd ra rb (fun old x _ => amoMin old x) s

/-- A cache-maintenance instruction on the line that contains ra (R149): in device memory after the window check, in local store or pool as `near` says.
A unit-register or unmapped address raises INVADDR. An address is the line's, so no alignment applies. Device memory waits for the end of a re-sweep
(R325). -/
def cacheOp (c : Nat) (word : W32) (ra : GReg) (s : State) (devOp : Core → Nat → State → State) (near : Core → Region → State → State) : Res :=
  issue c word { regs := [ra], isMem := true } s (fun k s =>
    let a := (k.rd ra).toNat
    match regionOf a with
    | .ls off => near k (.ls off) s
    | .pool off => if inPoolShare s.hi.n c off then near k (.pool off) s else raiseExc s c (.window a) word 0
    | .dev da => if !k.inWindow da then raiseExc s c (.window a) word 0 else if s.mc.sweep then s else devOp k (da / 64) s
    | _ => raiseExc s c (.inv a) word 0)

/-- The line of an outstanding miss waits for its fill before any maintenance of it (R212). -/
def missOn (k : Core) (line : Nat) : Bool :=
  match k.miss with
  | some m => m.line == line
  | none => false

/-- ZLINE: the line zeroed in place, or allocated zeroed into the scalar ways without fetching; dirty afterwards. With CR_WAYS_S 0 the zeros go to memory, after
the write-back buffer. -/
def execZline (c : Nat) (ra : GReg) (s : State) : Res :=
  cacheOp c (insnWord (.zline c ra)) ra s
    (fun k line s =>
      if missOn k line then s else
      match k.findWay line with
      | some w => retire s c (k.updLine line w 0 (List.replicate 64 0))
      | none =>
        let s1 := if k.waysS = 0 then (drainWb s c).writeLine (tagOfCore s.hi.n c) line (List.replicate 64 0)
          else placeLine s c k.waysS { line := line, dirty := true, data := 0 }
        retireAs s1 c k (s1.core c))
    (fun k r s => match r with
      | .ls off => retire s c (k.storeLs (off / 64 * 64) (List.replicate 64 0))
      | .pool off => retire (s.setPool (clusterOf c) (Cells.writeList (s.pool (clusterOf c)) (off / 64 * 64) (List.replicate 64 0))) c k
      | _ => s)

/-- CWB: the line written back if it is dirty; it stays valid. -/
def execCwb (c : Nat) (ra : GReg) (s : State) : Res :=
  cacheOp c (insnWord (.cwb c ra)) ra s
    (fun k line s => if missOn k line then s else let s1 := writeBack s c line; retireAs s1 c k (s1.core c))
    (fun k _ s => retire s c k)

/-- CINV: the line invalidated and any dirty data discarded. -/
def execCinv (c : Nat) (ra : GReg) (s : State) : Res :=
  cacheOp c (insnWord (.cinv c ra)) ra s
    (fun k line s => if missOn k line then s else retire s c (k.dropLine line))
    (fun k _ s => retire s c k)

/-- CWBI: written back if dirty, then invalidated. -/
def execCwbi (c : Nat) (ra : GReg) (s : State) : Res :=
  cacheOp c (insnWord (.cwbi c ra)) ra s
    (fun k line s => if missOn k line then s else
      let s1 := writeBack s c line
      retireAs s1 c k ((s1.core c).dropLine line))
    (fun k _ s => retire s c k)

/-- STRM: the input streamer started over rb bytes (1 to 2^24) from ra; a byte count outside that range raises ILLEGAL (log entry 19).
Local store or pool raises INVADDR. -/
def execStrm (c : Nat) (ra rb : GReg) (s : State) : Res :=
  issue c (insnWord (.strm c ra rb)) { regs := [ra, rb], isMem := true } s (fun k s =>
    let a := (k.rd ra).toNat
    let n := (k.rd rb).toNat
    let word := insnWord (.strm c ra rb)
    if n = 0 ∨ 2 ^ 24 < n then raiseExc s c .illegal word 0 else
    match regionOf a with
    | .dev da =>
      if k.inWindow da then
        retire s c { k with strm := some { next := da / 64, stop := (da + n - 1) / 64 + 1, used := da / 64 } }
      else raiseExc s c (.window a) word 0
    | _ => raiseExc s c (.inv a) word 0)

/-- SYNC: waits until every earlier memory instruction, write-backs included, has completed. -/
def execSync (c : Nat) (s : State) : Res :=
  issue c (insnWord (.sync c)) { isMem := true } s (fun k s =>
    if k.miss.isSome || (s.mc.sweep && k.wbuf.isSome) then s else
    let s1 := drainWb s c
    retireAs s1 c k (s1.core c))

/-- IINVALL: keeper-only; the whole instruction cache invalidated. -/
def execIinvall (c : Nat) (s : State) : Res :=
  issue c (insnWord (.iinvall c)) { keeperOnly := true } s (fun k s =>
    s.setCore c { (retire s c k).core c with icache := [] })

end Sys2Proof.Machine
end

