-- ==== Sys2Proof/Machine/PackedInsn.lean ====
section
/-! DEFINITION. Packed instructions (spec/05 R153, R154). -/
namespace Sys2Proof.Machine

/-- PADD (R154). -/
def execPadd (c : Nat) (sz : PSize) (rd ra rb : GReg) (s : State) : Res := packOp c (insnWord (.padd c sz rd ra rb)) false rd ra rb (pAdd sz) s

/-- PSUB (R154). -/
def execPsub (c : Nat) (sz : PSize) (rd ra rb : GReg) (s : State) : Res := packOp c (insnWord (.psub c sz rd ra rb)) false rd ra rb (pSub sz) s

/-- PADDS (R154). -/
def execPadds (c : Nat) (sz : PSize) (rd ra rb : GReg) (s : State) : Res := packOp c (insnWord (.padds c sz rd ra rb)) false rd ra rb (pAdds sz) s

/-- PSUBS (R154). -/
def execPsubs (c : Nat) (sz : PSize) (rd ra rb : GReg) (s : State) : Res := packOp c (insnWord (.psubs c sz rd ra rb)) false rd ra rb (pSubs sz) s

/-- PADDUS (R154). -/
def execPaddus (c : Nat) (sz : PSize) (rd ra rb : GReg) (s : State) : Res := packOp c (insnWord (.paddus c sz rd ra rb)) false rd ra rb (pAddus sz) s

/-- PSUBUS (R154). -/
def execPsubus (c : Nat) (sz : PSize) (rd ra rb : GReg) (s : State) : Res := packOp c (insnWord (.psubus c sz rd ra rb)) false rd ra rb (pSubus sz) s

/-- PAVGU (R154). -/
def execPavgu (c : Nat) (sz : PSize) (rd ra rb : GReg) (s : State) : Res := packOp c (insnWord (.pavgu c sz rd ra rb)) false rd ra rb (pAvgu sz) s

/-- PMINS (R154). -/
def execPmins (c : Nat) (sz : PSize) (rd ra rb : GReg) (s : State) : Res := packOp c (insnWord (.pmins c sz rd ra rb)) false rd ra rb (pMins sz) s

/-- PMAXS (R154). -/
def execPmaxs (c : Nat) (sz : PSize) (rd ra rb : GReg) (s : State) : Res := packOp c (insnWord (.pmaxs c sz rd ra rb)) false rd ra rb (pMaxs sz) s

/-- PMINU (R154). -/
def execPminu (c : Nat) (sz : PSize) (rd ra rb : GReg) (s : State) : Res := packOp c (insnWord (.pminu c sz rd ra rb)) false rd ra rb (pMinu sz) s

/-- PMAXU (R154). -/
def execPmaxu (c : Nat) (sz : PSize) (rd ra rb : GReg) (s : State) : Res := packOp c (insnWord (.pmaxu c sz rd ra rb)) false rd ra rb (pMaxu sz) s

/-- PCMPEQ (R154). -/
def execPcmpeq (c : Nat) (sz : PSize) (rd ra rb : GReg) (s : State) : Res := packOp c (insnWord (.pcmpeq c sz rd ra rb)) false rd ra rb (pCmpeq sz) s

/-- PCMPGT (R154). -/
def execPcmpgt (c : Nat) (sz : PSize) (rd ra rb : GReg) (s : State) : Res := packOp c (insnWord (.pcmpgt c sz rd ra rb)) false rd ra rb (pCmpgt sz) s

/-- PCMPGTU (R154). -/
def execPcmpgtu (c : Nat) (sz : PSize) (rd ra rb : GReg) (s : State) : Res := packOp c (insnWord (.pcmpgtu c sz rd ra rb)) false rd ra rb (pCmpgtu sz) s

/-- PMUL (R154). -/
def execPmul (c : Nat) (sz : PSize) (rd ra rb : GReg) (s : State) : Res := packOp c (insnWord (.pmul c sz rd ra rb)) false rd ra rb (pMul sz) s

/-- PMULHRS (R154). -/
def execPmulhrs (c : Nat) (sz : PSize) (rd ra rb : GReg) (s : State) : Res := packOp c (insnWord (.pmulhrs c sz rd ra rb)) (sz == .b) rd ra rb (pMulhrs sz) s

/-- PMADD (R154). -/
def execPmadd (c : Nat) (sz : PSize) (rd ra rb : GReg) (s : State) : Res := packOp c (insnWord (.pmadd c sz rd ra rb)) (sz != .h) rd ra rb pMadd s

/-- PPACKS (R154). -/
def execPpacks (c : Nat) (sz : PSize) (rd ra rb : GReg) (s : State) : Res := packOp c (insnWord (.ppacks c sz rd ra rb)) (sz == .b) rd ra rb (pPacks sz) s

/-- PPACKUS (R154). -/
def execPpackus (c : Nat) (sz : PSize) (rd ra rb : GReg) (s : State) : Res := packOp c (insnWord (.ppackus c sz rd ra rb)) (sz == .b) rd ra rb (pPackus sz) s

/-- PUNPKLO (R154). -/
def execPunpklo (c : Nat) (sz : PSize) (rd ra rb : GReg) (s : State) : Res := packOp c (insnWord (.punpklo c sz rd ra rb)) false rd ra rb (pUnpklo sz) s

/-- PUNPKHI (R154). -/
def execPunpkhi (c : Nat) (sz : PSize) (rd ra rb : GReg) (s : State) : Res := packOp c (insnWord (.punpkhi c sz rd ra rb)) false rd ra rb (pUnpkhi sz) s

/-- PABS (R154). -/
def execPabs (c : Nat) (sz : PSize) (rd ra : GReg) (s : State) : Res := regOp1 c (insnWord (.pabs c sz rd ra)) rd ra (pAbs sz) s

/-- PSHLI (R154). -/
def execPshli (c : Nat) (sz : PSize) (rd ra : GReg) (n : BitVec 5) (s : State) : Res := regOp1 c (insnWord (.pshli c sz rd ra n)) rd ra (pShli sz n.toNat) s

/-- PSHRI (R154). -/
def execPshri (c : Nat) (sz : PSize) (rd ra : GReg) (n : BitVec 5) (s : State) : Res := regOp1 c (insnWord (.pshri c sz rd ra n)) rd ra (pShri sz n.toNat) s

/-- PSARI (R154). -/
def execPsari (c : Nat) (sz : PSize) (rd ra : GReg) (n : BitVec 5) (s : State) : Res := regOp1 c (insnWord (.psari c sz rd ra n)) rd ra (pSari sz n.toNat) s

/-- PSRARI (R154). -/
def execPsrari (c : Nat) (sz : PSize) (rd ra : GReg) (n : BitVec 5) (s : State) : Res := regOp1 c (insnWord (.psrari c sz rd ra n)) rd ra (pSrari sz n.toNat) s

end Sys2Proof.Machine
end

