-- ==== Sys2Proof/Machine/Scalar.lean ====
section
/-! DEFINITION. Scalar register and immediate operations (spec/05 R138 to R140). -/
namespace Sys2Proof.Machine

/-- ADD (R138). -/
def execAdd (c : Nat) (rd ra rb : GReg) (s : State) : Res := regOp c (insnWord (.add c rd ra rb)) rd ra rb (· + ·) s

/-- SUB (R138). -/
def execSub (c : Nat) (rd ra rb : GReg) (s : State) : Res := regOp c (insnWord (.sub c rd ra rb)) rd ra rb (· - ·) s

/-- AND (R138). -/
def execAnd (c : Nat) (rd ra rb : GReg) (s : State) : Res := regOp c (insnWord (.and c rd ra rb)) rd ra rb (· &&& ·) s

/-- OR (R138). -/
def execOr (c : Nat) (rd ra rb : GReg) (s : State) : Res := regOp c (insnWord (.or c rd ra rb)) rd ra rb (· ||| ·) s

/-- XOR (R138). -/
def execXor (c : Nat) (rd ra rb : GReg) (s : State) : Res := regOp c (insnWord (.xor c rd ra rb)) rd ra rb (· ^^^ ·) s

/-- ANDN (R138). -/
def execAndn (c : Nat) (rd ra rb : GReg) (s : State) : Res := regOp c (insnWord (.andn c rd ra rb)) rd ra rb (fun x y => x &&& ~~~y) s

/-- SHL (R138). -/
def execShl (c : Nat) (rd ra rb : GReg) (s : State) : Res := regOp c (insnWord (.shl c rd ra rb)) rd ra rb aluShl s

/-- SHR (R138). -/
def execShr (c : Nat) (rd ra rb : GReg) (s : State) : Res := regOp c (insnWord (.shr c rd ra rb)) rd ra rb aluShr s

/-- SAR (R138). -/
def execSar (c : Nat) (rd ra rb : GReg) (s : State) : Res := regOp c (insnWord (.sar c rd ra rb)) rd ra rb aluSar s

/-- ROR (R138). -/
def execRor (c : Nat) (rd ra rb : GReg) (s : State) : Res := regOp c (insnWord (.ror c rd ra rb)) rd ra rb aluRor s

/-- SLT (R138). -/
def execSlt (c : Nat) (rd ra rb : GReg) (s : State) : Res := regOp c (insnWord (.slt c rd ra rb)) rd ra rb aluSlt s

/-- SLTU (R138). -/
def execSltu (c : Nat) (rd ra rb : GReg) (s : State) : Res := regOp c (insnWord (.sltu c rd ra rb)) rd ra rb aluSltu s

/-- MIN (R138). -/
def execMin (c : Nat) (rd ra rb : GReg) (s : State) : Res := regOp c (insnWord (.min c rd ra rb)) rd ra rb aluMin s

/-- MAX (R138). -/
def execMax (c : Nat) (rd ra rb : GReg) (s : State) : Res := regOp c (insnWord (.max c rd ra rb)) rd ra rb aluMax s

/-- MINU (R138). -/
def execMinu (c : Nat) (rd ra rb : GReg) (s : State) : Res := regOp c (insnWord (.minu c rd ra rb)) rd ra rb aluMinu s

/-- MAXU (R138). -/
def execMaxu (c : Nat) (rd ra rb : GReg) (s : State) : Res := regOp c (insnWord (.maxu c rd ra rb)) rd ra rb aluMaxu s

/-- MUL (R138). -/
def execMul (c : Nat) (rd ra rb : GReg) (s : State) : Res := regOp c (insnWord (.mul c rd ra rb)) rd ra rb (· * ·) s

/-- MULH (R138). -/
def execMulh (c : Nat) (rd ra rb : GReg) (s : State) : Res := regOp c (insnWord (.mulh c rd ra rb)) rd ra rb aluMulh s

/-- MULHU (R138). -/
def execMulhu (c : Nat) (rd ra rb : GReg) (s : State) : Res := regOp c (insnWord (.mulhu c rd ra rb)) rd ra rb aluMulhu s

/-- DIV (R138, R139). -/
def execDiv (c : Nat) (rd ra rb : GReg) (s : State) : Res := regOp c (insnWord (.div c rd ra rb)) rd ra rb aluDiv s

/-- DIVU (R138, R139). -/
def execDivu (c : Nat) (rd ra rb : GReg) (s : State) : Res := regOp c (insnWord (.divu c rd ra rb)) rd ra rb aluDivu s

/-- REM (R138, R139). -/
def execRem (c : Nat) (rd ra rb : GReg) (s : State) : Res := regOp c (insnWord (.rem c rd ra rb)) rd ra rb aluRem s

/-- REMU (R138, R139). -/
def execRemu (c : Nat) (rd ra rb : GReg) (s : State) : Res := regOp c (insnWord (.remu c rd ra rb)) rd ra rb aluRemu s

/-- CLZ (R138). -/
def execClz (c : Nat) (rd ra : GReg) (s : State) : Res := regOp1 c (insnWord (.clz c rd ra)) rd ra aluClz s

/-- CTZ (R138). -/
def execCtz (c : Nat) (rd ra : GReg) (s : State) : Res := regOp1 c (insnWord (.ctz c rd ra)) rd ra aluCtz s

/-- POPC (R138). -/
def execPopc (c : Nat) (rd ra : GReg) (s : State) : Res := regOp1 c (insnWord (.popc c rd ra)) rd ra aluPopc s

/-- BSWAP (R138). -/
def execBswap (c : Nat) (rd ra : GReg) (s : State) : Res := regOp1 c (insnWord (.bswap c rd ra)) rd ra aluBswap s

/-- SELNZ (R138): ra if rb is not 0, otherwise rd is unchanged. -/
def execSelnz (c : Nat) (rd ra rb : GReg) (s : State) : Res :=
  issue c (insnWord (.selnz c rd ra rb)) { regs := [rd, ra, rb] } s
    (fun k s => retire s c (if k.rd rb = 0 then k else k.wr rd (k.rd ra)))

/-- ADDI (R140). -/
def execAddi (c : Nat) (rd ra : GReg) (imm : W16) (s : State) : Res := regOp1 c (insnWord (.addi c rd ra imm)) rd ra (fun x => x + sextImm imm) s

/-- ANDI (R140). -/
def execAndi (c : Nat) (rd ra : GReg) (imm : W16) (s : State) : Res := regOp1 c (insnWord (.andi c rd ra imm)) rd ra (fun x => x &&& zextImm imm) s

/-- ORI (R140). -/
def execOri (c : Nat) (rd ra : GReg) (imm : W16) (s : State) : Res := regOp1 c (insnWord (.ori c rd ra imm)) rd ra (fun x => x ||| zextImm imm) s

/-- XORI (R140). -/
def execXori (c : Nat) (rd ra : GReg) (imm : W16) (s : State) : Res := regOp1 c (insnWord (.xori c rd ra imm)) rd ra (fun x => x ^^^ zextImm imm) s

/-- SLTI (R140). -/
def execSlti (c : Nat) (rd ra : GReg) (imm : W16) (s : State) : Res := regOp1 c (insnWord (.slti c rd ra imm)) rd ra (fun x => aluSlt x (sextImm imm)) s

/-- SLTIU (R140). -/
def execSltiu (c : Nat) (rd ra : GReg) (imm : W16) (s : State) : Res := regOp1 c (insnWord (.sltiu c rd ra imm)) rd ra (fun x => aluSltu x (sextImm imm)) s

/-- SHIFTI (R140). -/
def execShifti (c : Nat) (rd ra : GReg) (k : ShiftKind) (n : BitVec 6) (s : State) : Res :=
  regOp1 c (insnWord (.shifti c rd ra k n)) rd ra (aluShifti k n.toNat) s

/-- MOVI (R140). -/
def execMovi (c : Nat) (rd : GReg) (imm : W16) (s : State) : Res := regOp1 c (insnWord (.movi c rd imm)) rd 0 (fun _ => sextImm imm) s

/-- SHORI (R140): (rd << 16) OR zext(imm16). -/
def execShori (c : Nat) (rd : GReg) (imm : W16) (s : State) : Res := regOp1 c (insnWord (.shori c rd imm)) rd rd (fun x => aluShori x imm) s

end Sys2Proof.Machine
end

