-- ==== Sys2Proof/Machine/WideInsn.lean ====
section
/-! DEFINITION. Wide vector, immediate and element instructions (spec/06 R159 to R176, R179). An instruction takes its effect at issue and stays in the
wide queue until its unit completes it (R164 to R166). -/
namespace Sys2Proof.Machine

/-- The registers of a wide instruction: the scalar ones it names, and the wide ones that it reads and writes. -/
structure WRegs where
  g : List GReg := []
  rs : List WReg := []
  ws : List WReg := []

/-- Issue of a wide instruction outside major 0x35: ILLEGAL where the size is not allowed or VLN exceeds its limit (R160, R169). Wide registers take their values
at issue, in program order; scalar results wait in the wide queue (R165). -/
def wideOp (c : Nat) (word : W32) (u : WUnit) (lim : Nat) (bad : Bool) (r : WRegs) (s : State) (f : Core → Nat → Core)
    (dst : Core → Nat → List (GReg × W64)) : Res :=
  issue c word { regs := r.g, isWide := true, illegal := bad || decide (lim < (s.core c).vln.toNat) } s
    (fun k s =>
      let n := k.vln.toNat
      retire s c { f k n with wq := k.wq ++ [{ unit := u, mem := false, reads := r.rs, writes := r.ws, dst := dst k n }] })

/-- No scalar result. -/
def noScalar (_ : Core) (_ : Nat) : List (GReg × W64) := []

/-- The second operand of a row marked S (R170). -/
def Core.src (k : Core) (w : Nat) (b : WSrc) : Wide :=
  match b with
  | .vec r => k.rdw r
  | .scl g => wSplat w (k.rd g)

/-- Registers of an elementwise instruction. -/
def elemRegs (wd wa : WReg) (b : WSrc) : WRegs :=
  match b with
  | .vec r => { rs := [wa, r], ws := [wd] }
  | .scl g => { g := [g], rs := [wa], ws := [wd] }

/-- An elementwise operation (R170). -/
def wElemOp (c : Nat) (word : W32) (u : WUnit) (bad : Bool) (sz : WSize) (wd wa : WReg) (b : WSrc) (f : Nat → Nat → Nat → Nat) (s : State) : Res :=
  let w := wsizeBits sz
  wideOp c word u (vlnOrd w) bad (elemRegs wd wa b) s (fun k n => k.wrw wd (wMap2 w n (f w) (k.rdw wd) (k.rdw wa) (k.src w b))) noScalar

/-- A compare to a bitmap (R170, R171). -/
def wCmpOp (c : Nat) (word : W32) (bad : Bool) (sz : WSize) (wd wa : WReg) (b : WSrc) (f : Nat → Nat → Nat → Bool) (s : State) : Res :=
  let w := wsizeBits sz
  wideOp c word .al (vlnOrd w) bad (elemRegs wd wa b) s (fun k n => k.wrw wd (wCmp2 w n (f w) (k.rdw wd) (k.rdw wa) (k.src w b))) noScalar

/-- A widening or dot-product operation: wd overlaps neither source (R171). -/
def wMulOp (c : Nat) (word : W32) (lim : Nat) (bad : Bool) (wd wa wb : WReg) (f : Nat → Wide → Wide → Wide → Wide) (s : State) : Res :=
  wideOp c word .mu lim (bad || wd == wa || wd == wb) { rs := [wd, wa, wb], ws := [wd] } s
    (fun k n => k.wrw wd (f n (k.rdw wd) (k.rdw wa) (k.rdw wb))) noScalar

/-- Bitmap logic (R170). -/
def wBitOp (c : Nat) (word : W32) (wd wa wb : WReg) (f : Bool → Bool → Bool) (s : State) : Res :=
  wideOp c word .al 512 false { rs := [wa, wb], ws := [wd] } s (fun k n => k.wrw wd (wBit2 n f (k.rdw wd) (k.rdw wa) (k.rdw wb))) noScalar

/-- A reduction of wa into gs (R170). -/
def wRedOp (c : Nat) (word : W32) (lim : Nat) (bad : Bool) (wa : WReg) (gs : GReg) (f : Core → Nat → W64) (s : State) : Res :=
  wideOp c word .px lim bad { g := [gs], rs := [wa] } s (fun k _ => k) (fun k n => [(gs, f k n)])

/-- An immediate shift (R175). -/
def wShiftOp (c : Nat) (word : W32) (sz : WSize) (wd wa : WReg) (n : Nat) (f : Nat → Nat → Nat → Nat) (s : State) : Res :=
  let w := wsizeBits sz
  wideOp c word .al (vlnOrd w) false { rs := [wa], ws := [wd] } s (fun k v => k.wrw wd (wMap1 w v (fun x => f w x n) (k.rdw wd) (k.rdw wa))) noScalar

/-- A bitonic compare-exchange step on keys wd and values wa (R176). -/
def wBmrgOp (c : Nat) (word : W32) (sz : WSize) (sgn : Bool) (wd wa : WReg) (d kk : Nat) (s : State) : Res :=
  let w := wsizeBits sz
  wideOp c word .px (vlnOrd w) (decide ((s.core c).vln.toNat ≤ 2 ^ d) || (decide (10 ≤ kk) && decide (kk ≤ 14)))
    { rs := [wd, wa], ws := [wd, wa] } s (fun k n =>
    let keys := k.rdw wd
    let k1 := k.wrw wd (wBmrg w n sgn d kk keys keys)
    if wa = wd then k1 else k1.wrw wa (wBmrg w n sgn d kk keys (k.rdw wa))) noScalar

/-- Is a size W or D? -/
def wOrD (sz : WSize) : Bool := sz == .w || sz == .d

/-- WADD (R170). -/
def execWadd (c : Nat) (sz : WSize) (wd wa : WReg) (b : WSrc) (s : State) : Res :=
  wElemOp c (insnWord (.wadd c sz wd wa b)) .al false sz wd wa b elAdd s

/-- WSUB (R170). -/
def execWsub (c : Nat) (sz : WSize) (wd wa : WReg) (b : WSrc) (s : State) : Res :=
  wElemOp c (insnWord (.wsub c sz wd wa b)) .al false sz wd wa b elSub s

/-- WAND (R170). -/
def execWand (c : Nat) (sz : WSize) (wd wa : WReg) (b : WSrc) (s : State) : Res :=
  wElemOp c (insnWord (.wand c sz wd wa b)) .al false sz wd wa b elAnd s

/-- WOR (R170). -/
def execWor (c : Nat) (sz : WSize) (wd wa : WReg) (b : WSrc) (s : State) : Res :=
  wElemOp c (insnWord (.wor c sz wd wa b)) .al false sz wd wa b elOr s

/-- WXOR (R170). -/
def execWxor (c : Nat) (sz : WSize) (wd wa : WReg) (b : WSrc) (s : State) : Res :=
  wElemOp c (insnWord (.wxor c sz wd wa b)) .al false sz wd wa b elXor s

/-- WANDN (R170). -/
def execWandn (c : Nat) (sz : WSize) (wd wa : WReg) (b : WSrc) (s : State) : Res :=
  wElemOp c (insnWord (.wandn c sz wd wa b)) .al false sz wd wa b elAndn s

/-- WMIN (R170). -/
def execWmin (c : Nat) (sz : WSize) (wd wa : WReg) (b : WSrc) (s : State) : Res :=
  wElemOp c (insnWord (.wmin c sz wd wa b)) .al false sz wd wa b elMin s

/-- WMAX (R170). -/
def execWmax (c : Nat) (sz : WSize) (wd wa : WReg) (b : WSrc) (s : State) : Res :=
  wElemOp c (insnWord (.wmax c sz wd wa b)) .al false sz wd wa b elMax s

/-- WMINU (R170). -/
def execWminu (c : Nat) (sz : WSize) (wd wa : WReg) (b : WSrc) (s : State) : Res :=
  wElemOp c (insnWord (.wminu c sz wd wa b)) .al false sz wd wa b elMinu s

/-- WMAXU (R170). -/
def execWmaxu (c : Nat) (sz : WSize) (wd wa : WReg) (b : WSrc) (s : State) : Res :=
  wElemOp c (insnWord (.wmaxu c sz wd wa b)) .al false sz wd wa b elMaxu s

/-- WMUL (R170). -/
def execWmul (c : Nat) (sz : WSize) (wd wa : WReg) (b : WSrc) (s : State) : Res :=
  wElemOp c (insnWord (.wmul c sz wd wa b)) .mu false sz wd wa b elMul s

/-- WSHL (R170). -/
def execWshl (c : Nat) (sz : WSize) (wd wa : WReg) (b : WSrc) (s : State) : Res :=
  wElemOp c (insnWord (.wshl c sz wd wa b)) .al false sz wd wa b elShl s

/-- WSHR (R170). -/
def execWshr (c : Nat) (sz : WSize) (wd wa : WReg) (b : WSrc) (s : State) : Res :=
  wElemOp c (insnWord (.wshr c sz wd wa b)) .al false sz wd wa b elShr s

/-- WSAR (R170). -/
def execWsar (c : Nat) (sz : WSize) (wd wa : WReg) (b : WSrc) (s : State) : Res :=
  wElemOp c (insnWord (.wsar c sz wd wa b)) .al false sz wd wa b elSar s

/-- WFADD (R174). -/
def execWfadd (c : Nat) (sz : WSize) (wd wa : WReg) (b : WSrc) (s : State) : Res :=
  wElemOp c (insnWord (.wfadd c sz wd wa b)) .al (!wOrD sz) sz wd wa b fltAdd s

/-- WFSUB (R174). -/
def execWfsub (c : Nat) (sz : WSize) (wd wa : WReg) (b : WSrc) (s : State) : Res :=
  wElemOp c (insnWord (.wfsub c sz wd wa b)) .al (!wOrD sz) sz wd wa b fltSub s

/-- WFMUL (R174). -/
def execWfmul (c : Nat) (sz : WSize) (wd wa : WReg) (b : WSrc) (s : State) : Res :=
  wElemOp c (insnWord (.wfmul c sz wd wa b)) .mu (!wOrD sz) sz wd wa b fltMul s

/-- WFMIN (R174). -/
def execWfmin (c : Nat) (sz : WSize) (wd wa : WReg) (b : WSrc) (s : State) : Res :=
  wElemOp c (insnWord (.wfmin c sz wd wa b)) .al (!wOrD sz) sz wd wa b fltMin s

/-- WFMAX (R174). -/
def execWfmax (c : Nat) (sz : WSize) (wd wa : WReg) (b : WSrc) (s : State) : Res :=
  wElemOp c (insnWord (.wfmax c sz wd wa b)) .al (!wOrD sz) sz wd wa b fltMax s

/-- WCEQ (R170, R171). -/
def execWceq (c : Nat) (sz : WSize) (wd wa : WReg) (b : WSrc) (s : State) : Res :=
  wCmpOp c (insnWord (.wceq c sz wd wa b)) false sz wd wa b elEq s

/-- WCNE (R170, R171). -/
def execWcne (c : Nat) (sz : WSize) (wd wa : WReg) (b : WSrc) (s : State) : Res :=
  wCmpOp c (insnWord (.wcne c sz wd wa b)) false sz wd wa b elNe s

/-- WCLT (R170, R171). -/
def execWclt (c : Nat) (sz : WSize) (wd wa : WReg) (b : WSrc) (s : State) : Res :=
  wCmpOp c (insnWord (.wclt c sz wd wa b)) false sz wd wa b elLt s

/-- WCGE (R170, R171). -/
def execWcge (c : Nat) (sz : WSize) (wd wa : WReg) (b : WSrc) (s : State) : Res :=
  wCmpOp c (insnWord (.wcge c sz wd wa b)) false sz wd wa b elGe s

/-- WCLTU (R170, R171). -/
def execWcltu (c : Nat) (sz : WSize) (wd wa : WReg) (b : WSrc) (s : State) : Res :=
  wCmpOp c (insnWord (.wcltu c sz wd wa b)) false sz wd wa b elLtu s

/-- WCGEU (R170, R171). -/
def execWcgeu (c : Nat) (sz : WSize) (wd wa : WReg) (b : WSrc) (s : State) : Res :=
  wCmpOp c (insnWord (.wcgeu c sz wd wa b)) false sz wd wa b elGeu s

/-- WCGT (R170, R171). -/
def execWcgt (c : Nat) (sz : WSize) (wd wa : WReg) (b : WSrc) (s : State) : Res :=
  wCmpOp c (insnWord (.wcgt c sz wd wa b)) false sz wd wa b elGt s

/-- WCLE (R170, R171). -/
def execWcle (c : Nat) (sz : WSize) (wd wa : WReg) (b : WSrc) (s : State) : Res :=
  wCmpOp c (insnWord (.wcle c sz wd wa b)) false sz wd wa b elLe s

/-- WCGTU (R170, R171). -/
def execWcgtu (c : Nat) (sz : WSize) (wd wa : WReg) (b : WSrc) (s : State) : Res :=
  wCmpOp c (insnWord (.wcgtu c sz wd wa b)) false sz wd wa b elGtu s

/-- WCLEU (R170, R171). -/
def execWcleu (c : Nat) (sz : WSize) (wd wa : WReg) (b : WSrc) (s : State) : Res :=
  wCmpOp c (insnWord (.wcleu c sz wd wa b)) false sz wd wa b elLeu s

/-- WFCLT (R174). -/
def execWfclt (c : Nat) (sz : WSize) (wd wa : WReg) (b : WSrc) (s : State) : Res :=
  wCmpOp c (insnWord (.wfclt c sz wd wa b)) (!wOrD sz) sz wd wa b fltLt s

/-- WFCLE (R174). -/
def execWfcle (c : Nat) (sz : WSize) (wd wa : WReg) (b : WSrc) (s : State) : Res :=
  wCmpOp c (insnWord (.wfcle c sz wd wa b)) (!wOrD sz) sz wd wa b fltLe s

/-- WFCEQ (R174). -/
def execWfceq (c : Nat) (sz : WSize) (wd wa : WReg) (b : WSrc) (s : State) : Res :=
  wCmpOp c (insnWord (.wfceq c sz wd wa b)) (!wOrD sz) sz wd wa b fltEq s

/-- WMULW (R170). -/
def execWmulw (c : Nat) (sz : WSize) (wd wa wb : WReg) (s : State) : Res :=
  wMulOp c (insnWord (.wmulw c sz wd wa wb)) (vlnWiden (wsizeBits sz)) (sz == .d) wd wa wb (fun n d a b => wMulw (wsizeBits sz) n true d a b) s

/-- WMULWU (R170). -/
def execWmulwu (c : Nat) (sz : WSize) (wd wa wb : WReg) (s : State) : Res :=
  wMulOp c (insnWord (.wmulwu c sz wd wa wb)) (vlnWiden (wsizeBits sz)) (sz == .d) wd wa wb (fun n d a b => wMulw (wsizeBits sz) n false d a b) s

/-- WMACW (R170). -/
def execWmacw (c : Nat) (sz : WSize) (wd wa wb : WReg) (s : State) : Res :=
  wMulOp c (insnWord (.wmacw c sz wd wa wb)) (vlnWiden (wsizeBits sz)) (sz == .d) wd wa wb (fun n d a b => wMacw (wsizeBits sz) n true d a b) s

/-- WMACWU (R170). -/
def execWmacwu (c : Nat) (sz : WSize) (wd wa wb : WReg) (s : State) : Res :=
  wMulOp c (insnWord (.wmacwu c sz wd wa wb)) (vlnWiden (wsizeBits sz)) (sz == .d) wd wa wb (fun n d a b => wMacw (wsizeBits sz) n false d a b) s

/-- WDOT (R170). -/
def execWdot (c : Nat) (sz : WSize) (wd wa wb : WReg) (s : State) : Res :=
  wMulOp c (insnWord (.wdot c sz wd wa wb)) (vlnOrd (wsizeBits sz)) (wOrD sz) wd wa wb (fun n d a b => wDot (wsizeBits sz) n true d a b) s

/-- WDOTU (R170). -/
def execWdotu (c : Nat) (sz : WSize) (wd wa wb : WReg) (s : State) : Res :=
  wMulOp c (insnWord (.wdotu c sz wd wa wb)) (vlnOrd (wsizeBits sz)) (wOrD sz) wd wa wb (fun n d a b => wDot (wsizeBits sz) n false d a b) s

/-- WBAND (R170). -/
def execWband (c : Nat) (wd wa wb : WReg) (s : State) : Res :=
  wBitOp c (insnWord (.wband c wd wa wb)) wd wa wb (fun x y => x && y) s

/-- WBOR (R170). -/
def execWbor (c : Nat) (wd wa wb : WReg) (s : State) : Res :=
  wBitOp c (insnWord (.wbor c wd wa wb)) wd wa wb (fun x y => x || y) s

/-- WBANDN (R170). -/
def execWbandn (c : Nat) (wd wa wb : WReg) (s : State) : Res :=
  wBitOp c (insnWord (.wbandn c wd wa wb)) wd wa wb (fun x y => x && !y) s

/-- WBCNT (R170). -/
def execWbcnt (c : Nat) (wa : WReg) (gs : GReg) (s : State) : Res :=
  wRedOp c (insnWord (.wbcnt c wa gs)) 512 false wa gs (fun k n => BitVec.ofNat 64 (wCount n (k.rdw wa))) s

/-- WCOMPRESS (R172). -/
def execWcompress (c : Nat) (sz : WSize) (wd wa wb : WReg) (gs : GReg) (s : State) : Res :=
  wideOp c (insnWord (.wcompress c sz wd wa wb gs)) .px (vlnOrd (wsizeBits sz)) false { g := [gs], rs := [wa, wb], ws := [wd] } s
    (fun k n => k.wrw wd (wCompress (wsizeBits sz) n (k.rdw wd) (k.rdw wa) (k.rdw wb))) (fun k n => [(gs, BitVec.ofNat 64 (wCount n (k.rdw wb)))])

/-- WIOTA (R170). -/
def execWiota (c : Nat) (sz : WSize) (wd : WReg) (gs : GReg) (s : State) : Res :=
  wideOp c (insnWord (.wiota c sz wd gs)) .al (vlnOrd (wsizeBits sz)) false { g := [gs], ws := [wd] } s (fun k n =>
    k.wrw wd (wIota (wsizeBits sz) n (k.rd gs) (k.rdw wd))) noScalar

/-- WBCAST (R170). -/
def execWbcast (c : Nat) (sz : WSize) (wd : WReg) (gs : GReg) (s : State) : Res :=
  wideOp c (insnWord (.wbcast c sz wd gs)) .al (vlnOrd (wsizeBits sz)) false { g := [gs], ws := [wd] } s (fun k n =>
    k.wrw wd (wBcast (wsizeBits sz) n (k.rd gs) (k.rdw wd))) noScalar

/-- WPERM (R170). -/
def execWperm (c : Nat) (sz : WSize) (wd wa wb : WReg) (s : State) : Res :=
  wideOp c (insnWord (.wperm c sz wd wa wb)) .px (vlnOrd (wsizeBits sz)) false { rs := [wa, wb], ws := [wd] } s (fun k n =>
    k.wrw wd (wPerm (wsizeBits sz) n (k.rdw wd) (k.rdw wa) (k.rdw wb))) noScalar

/-- WSCAN (R170). -/
def execWscan (c : Nat) (sz : WSize) (wd wa : WReg) (gs : GReg) (s : State) : Res :=
  wideOp c (insnWord (.wscan c sz wd wa gs)) .px (vlnOrd (wsizeBits sz)) false { g := [gs], rs := [wa], ws := [wd] } s (fun k n =>
    k.wrw wd (wScan (wsizeBits sz) n (k.rd gs) (k.rdw wd) (k.rdw wa))) noScalar

/-- WREDADD (R170). -/
def execWredadd (c : Nat) (sz : WSize) (wa : WReg) (gs : GReg) (s : State) : Res :=
  wRedOp c (insnWord (.wredadd c sz wa gs)) (vlnOrd (wsizeBits sz)) false wa gs (fun k n => wRedAdd (wsizeBits sz) n true (k.rdw wa)) s

/-- WREDADDU (R170). -/
def execWredaddu (c : Nat) (sz : WSize) (wa : WReg) (gs : GReg) (s : State) : Res :=
  wRedOp c (insnWord (.wredaddu c sz wa gs)) (vlnOrd (wsizeBits sz)) false wa gs (fun k n => wRedAdd (wsizeBits sz) n false (k.rdw wa)) s

/-- WREDMIN (R170). -/
def execWredmin (c : Nat) (sz : WSize) (wa : WReg) (gs : GReg) (s : State) : Res :=
  wRedOp c (insnWord (.wredmin c sz wa gs)) (vlnOrd (wsizeBits sz)) false wa gs (fun k n => wRedExt (wsizeBits sz) n true elMin (k.rdw wa)) s

/-- WREDMAX (R170). -/
def execWredmax (c : Nat) (sz : WSize) (wa : WReg) (gs : GReg) (s : State) : Res :=
  wRedOp c (insnWord (.wredmax c sz wa gs)) (vlnOrd (wsizeBits sz)) false wa gs (fun k n => wRedExt (wsizeBits sz) n true elMax (k.rdw wa)) s

/-- WREDMINU (R170). -/
def execWredminu (c : Nat) (sz : WSize) (wa : WReg) (gs : GReg) (s : State) : Res :=
  wRedOp c (insnWord (.wredminu c sz wa gs)) (vlnOrd (wsizeBits sz)) false wa gs (fun k n => wRedExt (wsizeBits sz) n false elMinu (k.rdw wa)) s

/-- WREDMAXU (R170). -/
def execWredmaxu (c : Nat) (sz : WSize) (wa : WReg) (gs : GReg) (s : State) : Res :=
  wRedOp c (insnWord (.wredmaxu c sz wa gs)) (vlnOrd (wsizeBits sz)) false wa gs (fun k n => wRedExt (wsizeBits sz) n false elMaxu (k.rdw wa)) s

/-- WREDADD128 (R170). -/
def execWredadd128 (c : Nat) (sz : WSize) (wa : WReg) (gs : GReg) (s : State) : Res :=
  wideOp c (insnWord (.wredadd128 c sz wa gs)) .px (vlnOrd (wsizeBits sz)) (sz != .d || gs == 31) { g := [gs, gs + 1], rs := [wa] } s (fun k _ => k) (fun k n =>
    let r := wRedAdd128 n (k.rd gs) (k.rd (gs + 1)) (k.rdw wa)
    [(gs, r.1), (gs + 1, r.2)])

/-- WHASH (R173). -/
def execWhash (c : Nat) (sz : WSize) (wd wa : WReg) (gs : GReg) (s : State) : Res :=
  wideOp c (insnWord (.whash c sz wd wa gs)) .mu (64) (sz != .d) { g := [gs], rs := [wa], ws := [wd] } s (fun k n =>
    k.wrw wd (wHash n (k.rd gs) (k.rdw wd) (k.rdw wa))) noScalar

/-- WFREDADD (R174). -/
def execWfredadd (c : Nat) (sz : WSize) (wa : WReg) (gs : GReg) (s : State) : Res :=
  wRedOp c (insnWord (.wfredadd c sz wa gs)) (vlnOrd (wsizeBits sz)) (!wOrD sz) wa gs (fun k n =>
    BitVec.ofNat 64 (fltRedAdd (wsizeBits sz) (k.rd gs).toNat (wElems (wsizeBits sz) n (k.rdw wa)))) s

/-- WSHLI (R175). -/
def execWshli (c : Nat) (sz : WSize) (wd wa : WReg) (n : Byte) (s : State) : Res :=
  wShiftOp c (insnWord (.wshli c sz wd wa n)) sz wd wa n.toNat elShl s

/-- WSHRI (R175). -/
def execWshri (c : Nat) (sz : WSize) (wd wa : WReg) (n : Byte) (s : State) : Res :=
  wShiftOp c (insnWord (.wshri c sz wd wa n)) sz wd wa n.toNat elShr s

/-- WSARI (R175). -/
def execWsari (c : Nat) (sz : WSize) (wd wa : WReg) (n : Byte) (s : State) : Res :=
  wShiftOp c (insnWord (.wsari c sz wd wa n)) sz wd wa n.toNat elSar s

/-- WTRANS (R175). -/
def execWtrans (c : Nat) (sz : WSize) (wd wa : WReg) (n : Byte) (s : State) : Res :=
  wideOp c (insnWord (.wtrans c sz wd wa n)) .px (vlnOrd (wsizeBits sz)) (decide (n.toNat < 1) || decide (6 < n.toNat) || (s.core c).vln.toNat % 2 ^ n.toNat != 0)
    { rs := [wa], ws := [wd] } s (fun k v => k.wrw wd (wTrans (wsizeBits sz) v (2 ^ n.toNat) (k.rdw wd) (k.rdw wa))) noScalar

/-- WBMRG (R176). -/
def execWbmrg (c : Nat) (sz : WSize) (wd wa : WReg) (d k : BitVec 4) (s : State) : Res :=
  wBmrgOp c (insnWord (.wbmrg c sz wd wa d k)) sz true wd wa d.toNat k.toNat s

/-- WBMRGU (R176). -/
def execWbmrgu (c : Nat) (sz : WSize) (wd wa : WReg) (d k : BitVec 4) (s : State) : Res :=
  wBmrgOp c (insnWord (.wbmrgu c sz wd wa d k)) sz false wd wa d.toNat k.toNat s

/-- WSLIDE (R175). -/
def execWslide (c : Nat) (sz : WSize) (wd wa wb : WReg) (n : Byte) (s : State) : Res :=
  wideOp c (insnWord (.wslide c sz wd wa wb n)) .px (vlnOrd (wsizeBits sz)) (decide ((s.core c).vln.toNat ≤ n.toNat))
    { rs := [wa, wb], ws := [wd] } s (fun k v => k.wrw wd (wSlide (wsizeBits sz) v n.toNat (k.rdw wd) (k.rdw wa) (k.rdw wb))) noScalar

/-- WMOVX (R179). -/
def execWmovx (c : Nat) (sz : WSize) (w : WReg) (g : GReg) (e : BitVec 9) (s : State) : Res :=
  wideOp c (insnWord (.wmovx c sz w g e)) .px (vlnOrd (wsizeBits sz)) (decide ((s.core c).vln.toNat ≤ e.toNat))
    { g := [g], rs := [w] } s (fun k _ => k) (fun k _ => [(g, BitVec.ofNat 64 (wElem (wsizeBits sz) (k.rdw w) e.toNat))])

/-- WMOVXS (R179). -/
def execWmovxs (c : Nat) (sz : WSize) (w : WReg) (g : GReg) (e : BitVec 9) (s : State) : Res :=
  wideOp c (insnWord (.wmovxs c sz w g e)) .px (vlnOrd (wsizeBits sz)) (decide ((s.core c).vln.toNat ≤ e.toNat))
    { g := [g], rs := [w] } s (fun k _ => k) (fun k _ => [(g, BitVec.ofInt 64 (sextNat (wsizeBits sz) (wElem (wsizeBits sz) (k.rdw w) e.toNat)))])

/-- WINS (R179). -/
def execWins (c : Nat) (sz : WSize) (w : WReg) (g : GReg) (e : BitVec 9) (s : State) : Res :=
  wideOp c (insnWord (.wins c sz w g e)) .px (vlnOrd (wsizeBits sz)) (decide ((s.core c).vln.toNat ≤ e.toNat))
    { g := [g], rs := [w], ws := [w] } s (fun k _ => k.wrw w (wSetElem (wsizeBits sz) (k.rdw w) e.toNat (k.rd g).toNat)) noScalar

end Sys2Proof.Machine
end

