-- ==== Sys2Proof/Machine/WideMem.lean ====
section
/-! DEFINITION. Wide memory instructions (spec/06 R177, R178, R182 to R186): elements in ascending order from VRES, each checked alone. -/
namespace Sys2Proof.Machine

/-- What a wide memory instruction does: the elements it has, their size in bytes and core addresses, and for each a load into the core or the
bytes it stores. -/
structure WMem where
  elems : List Nat
  size : Nat
  addr : Nat → Nat
  load : Option (Core → Nat → Nat → Core)
  bytes : Nat → List Byte

/-- A line for a wide access (R211, R212): cached already, or filled into the ways of CR_WAYS_W; none is an uncorrectable line (R186). -/
def wideFill (s : State) (c line : Nat) : Option W512 × State :=
  match (s.core c).findWay line with
  | some w => (((SMap.find (s.core c).cache (wayKey line w)).map (fun l => l.data)), s)
  | none =>
    let (d, s1) := (drainWb s c).readLine (tagOfCore s.hi.n c) line
    match d with
    | none => (none, s1.setCore c (s1.core c).halt)
    | some bs =>
      let data : W512 := BitVec.ofNat 512 (leNat bs)
      (some data, placeLine s1 c (s1.core c).waysW { line := line, dirty := false, data := data })

/-- Does an instruction store every byte of a line? -/
def WMem.covers (m : WMem) (line : Nat) : Bool :=
  let base := devBase + 64 * line
  (List.range 64).all (fun b => m.elems.any (fun i => decide (m.addr i ≤ base + b) && decide (base + b < m.addr i + m.size)))

/-- One checked element of a load. -/
def wideLoadElem (s : State) (c : Nat) (m : WMem) (put : Core → Nat → Nat → Core) (i : Nat) : State :=
  let k := s.core c
  match regionOf (m.addr i) with
  | .ls off => s.setCore c (put k i (leNat (Cells.readList k.ls off m.size)))
  | .pool off => s.setCore c (put k i (leNat (Cells.readList (s.pool (clusterOf c)) off m.size)))
  | .dev da =>
    let (d, s1) := wideFill s c (da / 64)
    match d with
    | some l => s1.setCore c (put ((s1.core c).noteLoad (da / 64)) i (lineGet l (da % 64) m.size))
    | none => s1
  | _ => s

/-- Has the instruction stored into a line before element i? -/
def WMem.begun (m : WMem) (i : Nat) : Bool := (m.elems.takeWhile (fun e => e != i)).any (fun e => m.addr e / 64 == m.addr i / 64)

/-- One checked element of a store (R178): a line wholly stored is allocated without fetching, but fetched again where it was evicted meanwhile; with
CR_WAYS_W 0 a miss writes memory (R211), and an uncorrectable line is a core fault (R317). -/
def wideStoreElem (s : State) (c : Nat) (m : WMem) (i : Nat) : State :=
  let k := s.core c
  let bs := m.bytes i
  match regionOf (m.addr i) with
  | .ls off => s.setCore c (k.storeLs off bs)
  | .pool off => s.setPool (clusterOf c) (Cells.writeList (s.pool (clusterOf c)) off bs)
  | .dev da =>
    let line := da / 64
    match k.findWay line with
    | some w => s.setCore c (k.updLine line w (da % 64) bs)
    | none =>
      if k.waysW = 0 then
        let (ok, s1) := (drainWb s c).storeLine (tagOfCore s.hi.n c) da line bs
        if ok then s1 else s1.setCore c (s1.core c).halt
      else if m.covers line && !m.begun i then placeLine s c k.waysW { line := line, dirty := true, data := linePut 0 (da % 64) bs }
      else
        let (d, s1) := wideFill s c line
        match d, (s1.core c).findWay line with
        | some _, some w => s1.setCore c ((s1.core c).updLine line w (da % 64) bs)
        | _, _ => s1
  | _ => s

/-- The elements in order until the core halts. -/
def wideElems (c : Nat) (m : WMem) : List Nat → State → State
  | [], s => s
  | i :: rest, s =>
    let s1 := match m.load with
      | some put => wideLoadElem s c m put i
      | none => wideStoreElem s c m i
    if (s1.core c).act = .halted then s1 else wideElems c m rest s1

/-- Elements before the first that faults, and that element with its exception (R183, R190). -/
def wideCheck (s : State) (c : Nat) (m : WMem) : List Nat → List Nat × Option (Nat × Exc)
  | [] => ([], none)
  | i :: rest =>
    match accessExc s c (m.addr i) m.size true with
    | some e => ([], some (i, e))
    | none =>
      let (ok, bad) := wideCheck s c m rest
      (i :: ok, bad)

/-- Does an element lie in device memory? -/
def WMem.inDev (m : WMem) : Bool := m.elems.any (fun i => match regionOf (m.addr i) with
  | .dev _ => true
  | _ => false)

/-- A wide memory instruction (R182 to R185): the elements from VRES, then completion, or the exception with VRES at the element that faults. Device memory waits
for the end of a re-sweep (R325). -/
def wideMem (c : Nat) (word : W32) (lim : Nat) (bad : Bool) (r : WRegs) (mk : Core → Nat → WMem) (dst : Core → Nat → List (GReg × W64)) (s : State) : Res :=
  issue c word { regs := r.g, isWide := true, isMem := true, resumable := true, illegal := bad || decide (lim < (s.core c).vln.toNat) } s
    (fun k s =>
      let n := k.vln.toNat
      let m0 := mk k n
      let (ok, ex) := wideCheck s c m0 (m0.elems.filter (fun i => decide (k.vres.toNat ≤ i)))
      let m := { m0 with elems := ok }
      if s.mc.sweep && m.inDev then s else
      let s1 := wideElems c m ok s
      let k1 := s1.core c
      if k1.act = .halted then s1 else
      match ex with
      | some (i, e) => raiseExc s1 c e word i
      | none => retire s1 c { k1 with wq := k1.wq ++ [{ unit := .ls, mem := true, reads := r.rs, writes := r.ws, dst := dst k1 n }] })

/-- Wide registers of a load into wv or a store of it. -/
def memRegs (wv : WReg) (isLoad : Bool) : WRegs := if isLoad then { ws := [wv] } else { rs := [wv] }

/-- A load into elements of width w of wv from elements of `size` bytes, extended by `ext`. -/
def wLoad (w : Nat) (wv : WReg) (ext : Nat → Nat) : Option (Core → Nat → Nat → Core) :=
  some (fun k i v => k.wrw wv (wSetElem w (k.rdw wv) i (ext v)))

/-- Bytes stored for an element of wv. -/
def wStoreBytes (k : Core) (w : Nat) (wv : WReg) (i : Nat) : List Byte := leBytes (w / 8) (wElem w (k.rdw wv) i)

/-- Core address of element i at a byte distance from a base, modulo 2^64. -/
def elemAddr (base : W64) (d : Int) : Nat := (base + BitVec.ofInt 64 d).toNat

/-- WLD, WST, WLDS and WSTS: element i at base + i · stride. -/
def wStride (c : Nat) (word : W32) (sz : WSize) (wv : WReg) (ga : GReg) (gb : Option GReg) (isLoad : Bool) (s : State) : Res :=
  let w := wsizeBits sz
  wideMem c word (vlnOrd w) false { memRegs wv isLoad with g := ga :: gb.toList } (fun k n =>
    let stride : Int := match gb with
      | some g => (k.rd g).toInt
      | none => (w / 8 : Nat)
    { elems := List.range n, size := w / 8, addr := fun i => elemAddr (k.rd ga) (i * stride),
      load := if isLoad then wLoad w wv (fun v => v) else none, bytes := wStoreBytes k w wv }) noScalar s

/-- WLDZ and WLDX: elements of half the destination width. -/
def wExtLoad (c : Nat) (word : W32) (sz : WSize) (sgn : Bool) (wv : WReg) (ga : GReg) (s : State) : Res :=
  let w := wsizeBits sz
  wideMem c word (vlnOrd w) (sz == .b) { memRegs wv true with g := [ga] } (fun k n =>
    { elems := List.range n, size := w / 16, addr := fun i => elemAddr (k.rd ga) (i * (w / 16) : Nat),
      load := wLoad w wv (fun v => if sgn then wrapInt w (sextNat (w / 2) v) else v), bytes := fun _ => [] }) noScalar s

/-- WGATHER and WSCATTER: element i at base + wi[i] · w/8, the index read as .W unsigned. -/
def wIndexed (c : Nat) (word : W32) (sz : WSize) (wv wi : WReg) (ga : GReg) (isLoad : Bool) (s : State) : Res :=
  let w := wsizeBits sz
  wideMem c word (vlnGather w) (isLoad && wv == wi) { g := [ga], rs := wi :: (memRegs wv isLoad).rs, ws := (memRegs wv isLoad).ws } (fun k n =>
    { elems := List.range n, size := w / 8, addr := fun i => elemAddr (k.rd ga) (wElem 32 (k.rdw wi) i * (w / 8) : Nat),
      load := if isLoad then wLoad w wv (fun v => v) else none, bytes := wStoreBytes k w wv }) noScalar s

/-- WLD (R177). -/
def execWld (c : Nat) (sz : WSize) (wv : WReg) (ga : GReg) (s : State) : Res := wStride c (insnWord (.wld c sz wv ga)) sz wv ga none true s

/-- WST (R177). -/
def execWst (c : Nat) (sz : WSize) (wv : WReg) (ga : GReg) (s : State) : Res := wStride c (insnWord (.wst c sz wv ga)) sz wv ga none false s

/-- WLDS (R177). -/
def execWlds (c : Nat) (sz : WSize) (wv : WReg) (ga : GReg) (gb : GReg) (s : State) : Res :=
  wStride c (insnWord (.wlds c sz wv ga gb)) sz wv ga (some gb) true s

/-- WSTS (R177). -/
def execWsts (c : Nat) (sz : WSize) (wv : WReg) (ga : GReg) (gb : GReg) (s : State) : Res :=
  wStride c (insnWord (.wsts c sz wv ga gb)) sz wv ga (some gb) false s

/-- WLDZ (R177). -/
def execWldz (c : Nat) (sz : WSize) (wv : WReg) (ga : GReg) (s : State) : Res := wExtLoad c (insnWord (.wldz c sz wv ga)) sz false wv ga s

/-- WLDX (R177). -/
def execWldx (c : Nat) (sz : WSize) (wv : WReg) (ga : GReg) (s : State) : Res := wExtLoad c (insnWord (.wldx c sz wv ga)) sz true wv ga s

/-- WGATHER (R177, R178): wi and wv differ. -/
def execWgather (c : Nat) (sz : WSize) (wv wi : WReg) (ga : GReg) (s : State) : Res := wIndexed c (insnWord (.wgather c sz wv wi ga)) sz wv wi ga true s

/-- WSCATTER (R177). -/
def execWscatter (c : Nat) (sz : WSize) (wv wi : WReg) (ga : GReg) (s : State) : Res := wIndexed c (insnWord (.wscatter c sz wv wi ga)) sz wv wi ga false s

/-- Is bit i of a bitmap set? -/
def wBit (x : Wide) (i : Nat) : Bool := x.getLsbD i

/-- WCSTORE (R177, R185): the elements whose bit of wi is set, packed from ga; gb receives their count at completion. -/
def execWcstore (c : Nat) (sz : WSize) (wv wi : WReg) (ga gb : GReg) (s : State) : Res :=
  let w := wsizeBits sz
  wideMem c (insnWord (.wcstore c sz wv wi ga gb)) (vlnOrd w) false { g := [ga, gb], rs := [wv, wi] } (fun k n =>
    { elems := (List.range n).filter (wBit (k.rdw wi)), size := w / 8,
      addr := fun i => elemAddr (k.rd ga) (((List.range i).countP (wBit (k.rdw wi))) * (w / 8) : Nat),
      load := none, bytes := wStoreBytes k w wv })
    (fun k n => [(gb, BitVec.ofNat 64 ((List.range n).countP (wBit (k.rdw wi))))]) s

/-- WLDB (R177): one element for each bitmap byte. -/
def execWldb (c : Nat) (wv : WReg) (ga : GReg) (s : State) : Res :=
  wideMem c (insnWord (.wldb c wv ga)) 512 false { memRegs wv true with g := [ga] } (fun k n =>
    { elems := List.range (n / 8), size := 1, addr := fun i => elemAddr (k.rd ga) (i : Nat), load := wLoad 8 wv (fun v => v), bytes := fun _ => [] })
    noScalar s

/-- WSTB (R177). -/
def execWstb (c : Nat) (wv : WReg) (ga : GReg) (s : State) : Res :=
  wideMem c (insnWord (.wstb c wv ga)) 512 false { memRegs wv false with g := [ga] } (fun k n =>
    { elems := List.range (n / 8), size := 1, addr := fun i => elemAddr (k.rd ga) (i : Nat), load := none, bytes := wStoreBytes k 8 wv })
    noScalar s

end Sys2Proof.Machine
end

