-- ==== Sys2Proof/Machine/Dispatch.lean ====
section
/-! DEFINITION. One arm per command: the meaning it calls. -/
namespace Sys2Proof.Machine

def exec (i : Instr) (s : State) : Host.Outcome State Fault Refusal :=
  match i with
  | .vauxStable => Sys2Proof.Machine.execVauxStable s
  | .vauxLoss => Sys2Proof.Machine.execVauxLoss s
  | .railRise r => Sys2Proof.Machine.execRailRise r s
  | .railStable r => Sys2Proof.Machine.execRailStable r s
  | .railFall r k => Sys2Proof.Machine.execRailFall r k s
  | .holdRelease => Sys2Proof.Machine.execHoldRelease s
  | .prepDone => Sys2Proof.Machine.execPrepDone s
  | .memorySweepDone eyes => Sys2Proof.Machine.execMemorySweepDone eyes s
  | .trainDone a b areas d => Sys2Proof.Machine.execTrainDone a b areas d s
  | .recoverDone => Sys2Proof.Machine.execRecoverDone s
  | .perst => Sys2Proof.Machine.execPerst s
  | .perstRelease => Sys2Proof.Machine.execPerstRelease s
  | .perstB => Sys2Proof.Machine.execPerstB s
  | .pwCtlQuiesce => Sys2Proof.Machine.execPwCtlQuiesce s
  | .pwCtlUnquiesce => Sys2Proof.Machine.execPwCtlUnquiesce s
  | .quiesceComplete => Sys2Proof.Machine.execQuiesceComplete s
  | .svreset => Sys2Proof.Machine.execSvreset s
  | .lockstepMismatch => Sys2Proof.Machine.execLockstepMismatch s
  | .supervisorResetDone => Sys2Proof.Machine.execSupervisorResetDone s
  | .pwSetptWrite v => Sys2Proof.Machine.execPwSetptWrite v s
  | .setpointChangeDone => Sys2Proof.Machine.execSetpointChangeDone s
  | .forceStillEdge low => Sys2Proof.Machine.execForceStillEdge low s
  | .thermalCap plate => Sys2Proof.Machine.execThermalCap plate s
  | .thermalCapRelease plate => Sys2Proof.Machine.execThermalCapRelease plate s
  | .thermalTrip => Sys2Proof.Machine.execThermalTrip s
  | .timePpsEdge => Sys2Proof.Machine.execTimePpsEdge s
  | .ppsMissed => Sys2Proof.Machine.execPpsMissed s
  | .pwTodSet v => Sys2Proof.Machine.execPwTodSet v s
  | .i2cWrite addr index data pecByte => Sys2Proof.Machine.execI2cWrite addr index data pecByte s
  | .i2cRead addr index n pecClocked => Sys2Proof.Machine.execI2cRead addr index n pecClocked s
  | .alertResponse => Sys2Proof.Machine.execAlertResponse s
  | .hostLinkDown p => Sys2Proof.Machine.execHostLinkDown p s
  | .linkRetrain p l => Sys2Proof.Machine.execLinkRetrain p l s
  | .vfFlr inst => Sys2Proof.Machine.execVfFlr inst s
  | .pfFlr p => Sys2Proof.Machine.execPfFlr p s
  | .resetComplete inst => Sys2Proof.Machine.execResetComplete inst s
  | .hiMbGo => Sys2Proof.Machine.execHiMbGo s
  | .mbInstanceCreate => Sys2Proof.Machine.execMbInstanceCreate s
  | .mbInstanceDestroy => Sys2Proof.Machine.execMbInstanceDestroy s
  | .mbRingSet => Sys2Proof.Machine.execMbRingSet s
  | .mbModerate => Sys2Proof.Machine.execMbModerate s
  | .mbHostmode => Sys2Proof.Machine.execMbHostmode s
  | .mbMemExclude => Sys2Proof.Machine.execMbMemExclude s
  | .mbResponse => Sys2Proof.Machine.execMbResponse s
  | .vfDbSq inst hint => Sys2Proof.Machine.execVfDbSq inst hint s
  | .vfDbCq inst hint => Sys2Proof.Machine.execVfDbCq inst hint s
  | .indexBlockRead inst sqPi cqCi => Sys2Proof.Machine.execIndexBlockRead inst sqPi cqCi s
  | .sqFetch inst entries => Sys2Proof.Machine.execSqFetch inst entries s
  | .cqFullRecheck inst sqPi cqCi => Sys2Proof.Machine.execCqFullRecheck inst sqPi cqCi s
  | .completionWrite inst => Sys2Proof.Machine.execCompletionWrite inst s
  | .msixModTimer inst => Sys2Proof.Machine.execMsixModTimer inst s
  | .msixUnmask f vec => Sys2Proof.Machine.execMsixUnmask f vec s
  | .vfEventRead inst => Sys2Proof.Machine.execVfEventRead inst s
  | .registerWrite f off v => Sys2Proof.Machine.execRegisterWrite f off v s
  | .append descs => Sys2Proof.Machine.execAppend descs s
  | .hostAppendPieceRead inst bytes => Sys2Proof.Machine.execHostAppendPieceRead inst bytes s
  | .flush => Sys2Proof.Machine.execFlush s
  | .abort inst => Sys2Proof.Machine.execAbort inst s
  | .queryRun params => Sys2Proof.Machine.execQueryRun params s
  | .imageLoad image => Sys2Proof.Machine.execImageLoad image s
  | .imageUnload => Sys2Proof.Machine.execImageUnload s
  | .tableCreate schema => Sys2Proof.Machine.execTableCreate schema s
  | .tableDrop => Sys2Proof.Machine.execTableDrop s
  | .blockExport => Sys2Proof.Machine.execBlockExport s
  | .logRead => Sys2Proof.Machine.execLogRead s
  | .portCtlDisable => Sys2Proof.Machine.execPortCtlDisable s
  | .portCtlEnable => Sys2Proof.Machine.execPortCtlEnable s
  | .portCtlRelease => Sys2Proof.Machine.execPortCtlRelease s
  | .ownerRekey => Sys2Proof.Machine.execOwnerRekey s
  | .selftestStart => Sys2Proof.Machine.execSelftestStart s
  | .selftestAbort => Sys2Proof.Machine.execSelftestAbort s
  | .selftestEnd failed => Sys2Proof.Machine.execSelftestEnd failed s
  | .selftestResume => Sys2Proof.Machine.execSelftestResume s
  | .fwDownload bytes => Sys2Proof.Machine.execFwDownload bytes s
  | .fwActivate => Sys2Proof.Machine.execFwActivate s
  | .fwSwitch startsOk => Sys2Proof.Machine.execFwSwitch startsOk s
  | .openFrame p f => Sys2Proof.Machine.execOpenFrame p f s
  | .openAck p => Sys2Proof.Machine.execOpenAck p s
  | .pendingSessionLapse p => Sys2Proof.Machine.execPendingSessionLapse p s
  | .appendFrame p f => Sys2Proof.Machine.execAppendFrame p f s
  | .flushFrame p f => Sys2Proof.Machine.execFlushFrame p f s
  | .abortFrame p f => Sys2Proof.Machine.execAbortFrame p f s
  | .dataFrame p f => Sys2Proof.Machine.execDataFrame p f s
  | .statusQuery p f => Sys2Proof.Machine.execStatusQuery p f s
  | .keepalive p f => Sys2Proof.Machine.execKeepalive p f s
  | .grant => Sys2Proof.Machine.execGrant s
  | .grantTimerExpiry p tag => Sys2Proof.Machine.execGrantTimerExpiry p tag s
  | .keepaliveSend p => Sys2Proof.Machine.execKeepaliveSend p s
  | .keepaliveTimeout p => Sys2Proof.Machine.execKeepaliveTimeout p s
  | .laneFault p => Sys2Proof.Machine.execLaneFault p s
  | .fieldLinkUp p => Sys2Proof.Machine.execFieldLinkUp p s
  | .fieldLinkDown p => Sys2Proof.Machine.execFieldLinkDown p s
  | .take c => Sys2Proof.Machine.execTake c s
  | .dispatch => Sys2Proof.Machine.execDispatch s
  | .post c sel ra rb => Sys2Proof.Machine.execPost c sel ra rb s
  | .postResume c => Sys2Proof.Machine.execPostResume c s
  | .signal c ra rb => Sys2Proof.Machine.execSignal c ra rb s
  | .doneItem c ra rb => Sys2Proof.Machine.execDoneItem c ra rb s
  | .commit slot => Sys2Proof.Machine.execCommit slot s
  | .park c ra rb => Sys2Proof.Machine.execPark c ra rb s
  | .doneFail c ra rb => Sys2Proof.Machine.execDoneFail c ra rb s
  | .dsend c ra x => Sys2Proof.Machine.execDsend c ra x s
  | .dsendResume c => Sys2Proof.Machine.execDsendResume c s
  | .rootItemCreate ctx => Sys2Proof.Machine.execRootItemCreate ctx s
  | .flumeItemCreate f => Sys2Proof.Machine.execFlumeItemCreate f s
  | .exchItemCreate ctx => Sys2Proof.Machine.execExchItemCreate ctx s
  | .barrierItemCreate ctx => Sys2Proof.Machine.execBarrierItemCreate ctx s
  | .flumeExtend inst => Sys2Proof.Machine.execFlumeExtend inst s
  | .resultWrite ctx links => Sys2Proof.Machine.execResultWrite ctx links s
  | .queryComplete ctx => Sys2Proof.Machine.execQueryComplete ctx s
  | .segmentReadComplete r => Sys2Proof.Machine.execSegmentReadComplete r s
  | .coreFault c => Sys2Proof.Machine.execCoreFault c s
  | .replayRequeue slot => Sys2Proof.Machine.execReplayRequeue slot s
  | .progressMonitorExpiry c => Sys2Proof.Machine.execProgressMonitorExpiry c s
  | .hgCtlStatclr => Sys2Proof.Machine.execHgCtlStatclr s
  | .cdSubmit c rs base imm => Sys2Proof.Machine.execCdSubmit c rs base imm s
  | .cdSubmitResume c => Sys2Proof.Machine.execCdSubmitResume c s
  | .encodeJob u => Sys2Proof.Machine.execEncodeJob u s
  | .scanJob u => Sys2Proof.Machine.execScanJob u s
  | .streamJob u => Sys2Proof.Machine.execStreamJob u s
  | .verifyJob u => Sys2Proof.Machine.execVerifyJob u s
  | .codecJobComplete u => Sys2Proof.Machine.execCodecJobComplete u s
  | .codecUnitFault u => Sys2Proof.Machine.execCodecUnitFault u s
  | .codecReissueEnqueue => Sys2Proof.Machine.execCodecReissueEnqueue s
  | .unitWatchdogExpiry k u => Sys2Proof.Machine.execUnitWatchdogExpiry k u s
  | .dgSubmit c rs base imm => Sys2Proof.Machine.execDgSubmit c rs base imm s
  | .digestJob e blocks => Sys2Proof.Machine.execDigestJob e blocks s
  | .digestPreempt e => Sys2Proof.Machine.execDigestPreempt e s
  | .digestJobComplete e => Sys2Proof.Machine.execDigestJobComplete e s
  | .digestEngineFault e => Sys2Proof.Machine.execDigestEngineFault e s
  | .dgResRead e k => Sys2Proof.Machine.execDgResRead e k s
  | .ksOekLoad v => Sys2Proof.Machine.execKsOekLoad v s
  | .ksOekLoadDone => Sys2Proof.Machine.execKsOekLoadDone s
  | .sealIntervalExpiry inst => Sys2Proof.Machine.execSealIntervalExpiry inst s
  | .segmentSealed inst => Sys2Proof.Machine.execSegmentSealed inst s
  | .checkpointTimer => Sys2Proof.Machine.execCheckpointTimer s
  | .dieFail k => Sys2Proof.Machine.execDieFail k s
  | .rebuildDone => Sys2Proof.Machine.execRebuildDone s
  | .flashReadScrub r weak => Sys2Proof.Machine.execFlashReadScrub r weak s
  | .garbageCollection inst seqs => Sys2Proof.Machine.execGarbageCollection inst seqs s
  | .patrolScrub ch upsets => Sys2Proof.Machine.execPatrolScrub ch upsets s
  | .refresh ch rank => Sys2Proof.Machine.execRefresh ch rank s
  | .tempReadout ch rank cls => Sys2Proof.Machine.execTempReadout ch rank cls s
  | .zqLatch ch rank => Sys2Proof.Machine.execZqLatch ch rank s
  | .powerDownEntry ch rank => Sys2Proof.Machine.execPowerDownEntry ch rank s
  | .selfRefreshEntry ch rank => Sys2Proof.Machine.execSelfRefreshEntry ch rank s
  | .resweep => Sys2Proof.Machine.execResweep s
  | .resweepDone eyes => Sys2Proof.Machine.execResweepDone eyes s
  | .channelLost l => Sys2Proof.Machine.execChannelLost l s
  | .cacheMissFill c upsets => Sys2Proof.Machine.execCacheMissFill c upsets s
  | .streamerFetch c => Sys2Proof.Machine.execStreamerFetch c s
  | .wideUnitComplete c u => Sys2Proof.Machine.execWideUnitComplete c u s
  | .interrupt c => Sys2Proof.Machine.execInterrupt c s
  | .icTimerExpiry c => Sys2Proof.Machine.execIcTimerExpiry c s
  | .crIcClaim c rd => Sys2Proof.Machine.execCrIcClaim c rd s
  | .crIcDone c rs => Sys2Proof.Machine.execCrIcDone c rs s
  | .crIcSwset c rs => Sys2Proof.Machine.execCrIcSwset c rs s
  | .crIcTimerWrite c rs => Sys2Proof.Machine.execCrIcTimerWrite c rs s
  | .lanternSample m => Sys2Proof.Machine.execLanternSample m s
  | .tlPaceWrite v => Sys2Proof.Machine.execTlPaceWrite v s
  | .paceRelease inst ns => Sys2Proof.Machine.execPaceRelease inst ns s
  | .add c rd ra rb => Sys2Proof.Machine.execAdd c rd ra rb s
  | .sub c rd ra rb => Sys2Proof.Machine.execSub c rd ra rb s
  | .and c rd ra rb => Sys2Proof.Machine.execAnd c rd ra rb s
  | .or c rd ra rb => Sys2Proof.Machine.execOr c rd ra rb s
  | .xor c rd ra rb => Sys2Proof.Machine.execXor c rd ra rb s
  | .andn c rd ra rb => Sys2Proof.Machine.execAndn c rd ra rb s
  | .shl c rd ra rb => Sys2Proof.Machine.execShl c rd ra rb s
  | .shr c rd ra rb => Sys2Proof.Machine.execShr c rd ra rb s
  | .sar c rd ra rb => Sys2Proof.Machine.execSar c rd ra rb s
  | .ror c rd ra rb => Sys2Proof.Machine.execRor c rd ra rb s
  | .slt c rd ra rb => Sys2Proof.Machine.execSlt c rd ra rb s
  | .sltu c rd ra rb => Sys2Proof.Machine.execSltu c rd ra rb s
  | .min c rd ra rb => Sys2Proof.Machine.execMin c rd ra rb s
  | .max c rd ra rb => Sys2Proof.Machine.execMax c rd ra rb s
  | .minu c rd ra rb => Sys2Proof.Machine.execMinu c rd ra rb s
  | .maxu c rd ra rb => Sys2Proof.Machine.execMaxu c rd ra rb s
  | .mul c rd ra rb => Sys2Proof.Machine.execMul c rd ra rb s
  | .mulh c rd ra rb => Sys2Proof.Machine.execMulh c rd ra rb s
  | .mulhu c rd ra rb => Sys2Proof.Machine.execMulhu c rd ra rb s
  | .div c rd ra rb => Sys2Proof.Machine.execDiv c rd ra rb s
  | .divu c rd ra rb => Sys2Proof.Machine.execDivu c rd ra rb s
  | .rem c rd ra rb => Sys2Proof.Machine.execRem c rd ra rb s
  | .remu c rd ra rb => Sys2Proof.Machine.execRemu c rd ra rb s
  | .clz c rd ra => Sys2Proof.Machine.execClz c rd ra s
  | .ctz c rd ra => Sys2Proof.Machine.execCtz c rd ra s
  | .popc c rd ra => Sys2Proof.Machine.execPopc c rd ra s
  | .bswap c rd ra => Sys2Proof.Machine.execBswap c rd ra s
  | .selnz c rd ra rb => Sys2Proof.Machine.execSelnz c rd ra rb s
  | .addi c rd ra imm => Sys2Proof.Machine.execAddi c rd ra imm s
  | .andi c rd ra imm => Sys2Proof.Machine.execAndi c rd ra imm s
  | .ori c rd ra imm => Sys2Proof.Machine.execOri c rd ra imm s
  | .xori c rd ra imm => Sys2Proof.Machine.execXori c rd ra imm s
  | .slti c rd ra imm => Sys2Proof.Machine.execSlti c rd ra imm s
  | .sltiu c rd ra imm => Sys2Proof.Machine.execSltiu c rd ra imm s
  | .shifti c rd ra k n => Sys2Proof.Machine.execShifti c rd ra k n s
  | .movi c rd imm => Sys2Proof.Machine.execMovi c rd imm s
  | .shori c rd imm => Sys2Proof.Machine.execShori c rd imm s
  | .ldb c rd base imm => Sys2Proof.Machine.execLdb c rd base imm s
  | .ldbu c rd base imm => Sys2Proof.Machine.execLdbu c rd base imm s
  | .ldh c rd base imm => Sys2Proof.Machine.execLdh c rd base imm s
  | .ldhu c rd base imm => Sys2Proof.Machine.execLdhu c rd base imm s
  | .ldw c rd base imm => Sys2Proof.Machine.execLdw c rd base imm s
  | .ldwu c rd base imm => Sys2Proof.Machine.execLdwu c rd base imm s
  | .ldd c rd base imm => Sys2Proof.Machine.execLdd c rd base imm s
  | .stb c rs base imm => Sys2Proof.Machine.execStb c rs base imm s
  | .sth c rs base imm => Sys2Proof.Machine.execSth c rs base imm s
  | .stw c rs base imm => Sys2Proof.Machine.execStw c rs base imm s
  | .std c rs base imm => Sys2Proof.Machine.execStd c rs base imm s
  | .amoadd c rd ra rb => Sys2Proof.Machine.execAmoadd c rd ra rb s
  | .amoswap c rd ra rb => Sys2Proof.Machine.execAmoswap c rd ra rb s
  | .amocas c rd ra rb => Sys2Proof.Machine.execAmocas c rd ra rb s
  | .amoand c rd ra rb => Sys2Proof.Machine.execAmoand c rd ra rb s
  | .amoor c rd ra rb => Sys2Proof.Machine.execAmoor c rd ra rb s
  | .amomax c rd ra rb => Sys2Proof.Machine.execAmomax c rd ra rb s
  | .amomin c rd ra rb => Sys2Proof.Machine.execAmomin c rd ra rb s
  | .zline c ra => Sys2Proof.Machine.execZline c ra s
  | .cwb c ra => Sys2Proof.Machine.execCwb c ra s
  | .cinv c ra => Sys2Proof.Machine.execCinv c ra s
  | .cwbi c ra => Sys2Proof.Machine.execCwbi c ra s
  | .strm c ra rb => Sys2Proof.Machine.execStrm c ra rb s
  | .sync c => Sys2Proof.Machine.execSync c s
  | .iinvall c => Sys2Proof.Machine.execIinvall c s
  | .beq c ra rb off => Sys2Proof.Machine.execBeq c ra rb off s
  | .bne c ra rb off => Sys2Proof.Machine.execBne c ra rb off s
  | .blt c ra rb off => Sys2Proof.Machine.execBlt c ra rb off s
  | .bge c ra rb off => Sys2Proof.Machine.execBge c ra rb off s
  | .bltu c ra rb off => Sys2Proof.Machine.execBltu c ra rb off s
  | .bgeu c ra rb off => Sys2Proof.Machine.execBgeu c ra rb off s
  | .jmp c off => Sys2Proof.Machine.execJmp c off s
  | .call c off => Sys2Proof.Machine.execCall c off s
  | .jr c ra => Sys2Proof.Machine.execJr c ra s
  | .callr c ra => Sys2Proof.Machine.execCallr c ra s
  | .loop c ra len => Sys2Proof.Machine.execLoop c ra len s
  | .loopi c count len => Sys2Proof.Machine.execLoopi c count len s
  | .mfs c rd imm => Sys2Proof.Machine.execMfs c rd imm s
  | .mts c rs imm => Sys2Proof.Machine.execMts c rs imm s
  | .cget c rd imm => Sys2Proof.Machine.execCget c rd imm s
  | .cput c rs imm => Sys2Proof.Machine.execCput c rs imm s
  | .gate c n => Sys2Proof.Machine.execGate c n s
  | .gret c => Sys2Proof.Machine.execGret c s
  | .waitIrq c => Sys2Proof.Machine.execWaitIrq c s
  | .padd c sz rd ra rb => Sys2Proof.Machine.execPadd c sz rd ra rb s
  | .psub c sz rd ra rb => Sys2Proof.Machine.execPsub c sz rd ra rb s
  | .padds c sz rd ra rb => Sys2Proof.Machine.execPadds c sz rd ra rb s
  | .psubs c sz rd ra rb => Sys2Proof.Machine.execPsubs c sz rd ra rb s
  | .paddus c sz rd ra rb => Sys2Proof.Machine.execPaddus c sz rd ra rb s
  | .psubus c sz rd ra rb => Sys2Proof.Machine.execPsubus c sz rd ra rb s
  | .pavgu c sz rd ra rb => Sys2Proof.Machine.execPavgu c sz rd ra rb s
  | .pmins c sz rd ra rb => Sys2Proof.Machine.execPmins c sz rd ra rb s
  | .pmaxs c sz rd ra rb => Sys2Proof.Machine.execPmaxs c sz rd ra rb s
  | .pminu c sz rd ra rb => Sys2Proof.Machine.execPminu c sz rd ra rb s
  | .pmaxu c sz rd ra rb => Sys2Proof.Machine.execPmaxu c sz rd ra rb s
  | .pcmpeq c sz rd ra rb => Sys2Proof.Machine.execPcmpeq c sz rd ra rb s
  | .pcmpgt c sz rd ra rb => Sys2Proof.Machine.execPcmpgt c sz rd ra rb s
  | .pcmpgtu c sz rd ra rb => Sys2Proof.Machine.execPcmpgtu c sz rd ra rb s
  | .pmul c sz rd ra rb => Sys2Proof.Machine.execPmul c sz rd ra rb s
  | .pmulhrs c sz rd ra rb => Sys2Proof.Machine.execPmulhrs c sz rd ra rb s
  | .pmadd c sz rd ra rb => Sys2Proof.Machine.execPmadd c sz rd ra rb s
  | .pabs c sz rd ra => Sys2Proof.Machine.execPabs c sz rd ra s
  | .pshli c sz rd ra n => Sys2Proof.Machine.execPshli c sz rd ra n s
  | .pshri c sz rd ra n => Sys2Proof.Machine.execPshri c sz rd ra n s
  | .psari c sz rd ra n => Sys2Proof.Machine.execPsari c sz rd ra n s
  | .psrari c sz rd ra n => Sys2Proof.Machine.execPsrari c sz rd ra n s
  | .ppacks c sz rd ra rb => Sys2Proof.Machine.execPpacks c sz rd ra rb s
  | .ppackus c sz rd ra rb => Sys2Proof.Machine.execPpackus c sz rd ra rb s
  | .punpklo c sz rd ra rb => Sys2Proof.Machine.execPunpklo c sz rd ra rb s
  | .punpkhi c sz rd ra rb => Sys2Proof.Machine.execPunpkhi c sz rd ra rb s
  | .wadd c sz wd wa b => Sys2Proof.Machine.execWadd c sz wd wa b s
  | .wsub c sz wd wa b => Sys2Proof.Machine.execWsub c sz wd wa b s
  | .wand c sz wd wa b => Sys2Proof.Machine.execWand c sz wd wa b s
  | .wor c sz wd wa b => Sys2Proof.Machine.execWor c sz wd wa b s
  | .wxor c sz wd wa b => Sys2Proof.Machine.execWxor c sz wd wa b s
  | .wandn c sz wd wa b => Sys2Proof.Machine.execWandn c sz wd wa b s
  | .wmin c sz wd wa b => Sys2Proof.Machine.execWmin c sz wd wa b s
  | .wmax c sz wd wa b => Sys2Proof.Machine.execWmax c sz wd wa b s
  | .wminu c sz wd wa b => Sys2Proof.Machine.execWminu c sz wd wa b s
  | .wmaxu c sz wd wa b => Sys2Proof.Machine.execWmaxu c sz wd wa b s
  | .wmul c sz wd wa b => Sys2Proof.Machine.execWmul c sz wd wa b s
  | .wshl c sz wd wa b => Sys2Proof.Machine.execWshl c sz wd wa b s
  | .wshr c sz wd wa b => Sys2Proof.Machine.execWshr c sz wd wa b s
  | .wsar c sz wd wa b => Sys2Proof.Machine.execWsar c sz wd wa b s
  | .wmulw c sz wd wa wb => Sys2Proof.Machine.execWmulw c sz wd wa wb s
  | .wmulwu c sz wd wa wb => Sys2Proof.Machine.execWmulwu c sz wd wa wb s
  | .wmacw c sz wd wa wb => Sys2Proof.Machine.execWmacw c sz wd wa wb s
  | .wmacwu c sz wd wa wb => Sys2Proof.Machine.execWmacwu c sz wd wa wb s
  | .wdot c sz wd wa wb => Sys2Proof.Machine.execWdot c sz wd wa wb s
  | .wdotu c sz wd wa wb => Sys2Proof.Machine.execWdotu c sz wd wa wb s
  | .wceq c sz wd wa b => Sys2Proof.Machine.execWceq c sz wd wa b s
  | .wcne c sz wd wa b => Sys2Proof.Machine.execWcne c sz wd wa b s
  | .wclt c sz wd wa b => Sys2Proof.Machine.execWclt c sz wd wa b s
  | .wcge c sz wd wa b => Sys2Proof.Machine.execWcge c sz wd wa b s
  | .wcltu c sz wd wa b => Sys2Proof.Machine.execWcltu c sz wd wa b s
  | .wcgeu c sz wd wa b => Sys2Proof.Machine.execWcgeu c sz wd wa b s
  | .wcgt c sz wd wa b => Sys2Proof.Machine.execWcgt c sz wd wa b s
  | .wcle c sz wd wa b => Sys2Proof.Machine.execWcle c sz wd wa b s
  | .wcgtu c sz wd wa b => Sys2Proof.Machine.execWcgtu c sz wd wa b s
  | .wcleu c sz wd wa b => Sys2Proof.Machine.execWcleu c sz wd wa b s
  | .wband c wd wa wb => Sys2Proof.Machine.execWband c wd wa wb s
  | .wbor c wd wa wb => Sys2Proof.Machine.execWbor c wd wa wb s
  | .wbandn c wd wa wb => Sys2Proof.Machine.execWbandn c wd wa wb s
  | .wbcnt c wa gs => Sys2Proof.Machine.execWbcnt c wa gs s
  | .wcompress c sz wd wa wb gs => Sys2Proof.Machine.execWcompress c sz wd wa wb gs s
  | .wiota c sz wd gs => Sys2Proof.Machine.execWiota c sz wd gs s
  | .wbcast c sz wd gs => Sys2Proof.Machine.execWbcast c sz wd gs s
  | .wperm c sz wd wa wb => Sys2Proof.Machine.execWperm c sz wd wa wb s
  | .wscan c sz wd wa gs => Sys2Proof.Machine.execWscan c sz wd wa gs s
  | .wredadd c sz wa gs => Sys2Proof.Machine.execWredadd c sz wa gs s
  | .wredaddu c sz wa gs => Sys2Proof.Machine.execWredaddu c sz wa gs s
  | .wredmin c sz wa gs => Sys2Proof.Machine.execWredmin c sz wa gs s
  | .wredmax c sz wa gs => Sys2Proof.Machine.execWredmax c sz wa gs s
  | .wredminu c sz wa gs => Sys2Proof.Machine.execWredminu c sz wa gs s
  | .wredmaxu c sz wa gs => Sys2Proof.Machine.execWredmaxu c sz wa gs s
  | .wredadd128 c sz wa gs => Sys2Proof.Machine.execWredadd128 c sz wa gs s
  | .whash c sz wd wa gs => Sys2Proof.Machine.execWhash c sz wd wa gs s
  | .wfredadd c sz wa gs => Sys2Proof.Machine.execWfredadd c sz wa gs s
  | .wfadd c sz wd wa b => Sys2Proof.Machine.execWfadd c sz wd wa b s
  | .wfsub c sz wd wa b => Sys2Proof.Machine.execWfsub c sz wd wa b s
  | .wfmul c sz wd wa b => Sys2Proof.Machine.execWfmul c sz wd wa b s
  | .wfmin c sz wd wa b => Sys2Proof.Machine.execWfmin c sz wd wa b s
  | .wfmax c sz wd wa b => Sys2Proof.Machine.execWfmax c sz wd wa b s
  | .wfclt c sz wd wa b => Sys2Proof.Machine.execWfclt c sz wd wa b s
  | .wfcle c sz wd wa b => Sys2Proof.Machine.execWfcle c sz wd wa b s
  | .wfceq c sz wd wa b => Sys2Proof.Machine.execWfceq c sz wd wa b s
  | .wshli c sz wd wa n => Sys2Proof.Machine.execWshli c sz wd wa n s
  | .wshri c sz wd wa n => Sys2Proof.Machine.execWshri c sz wd wa n s
  | .wsari c sz wd wa n => Sys2Proof.Machine.execWsari c sz wd wa n s
  | .wtrans c sz wd wa n => Sys2Proof.Machine.execWtrans c sz wd wa n s
  | .wbmrg c sz wd wa d k => Sys2Proof.Machine.execWbmrg c sz wd wa d k s
  | .wbmrgu c sz wd wa d k => Sys2Proof.Machine.execWbmrgu c sz wd wa d k s
  | .wslide c sz wd wa wb n => Sys2Proof.Machine.execWslide c sz wd wa wb n s
  | .wld c sz wv ga => Sys2Proof.Machine.execWld c sz wv ga s
  | .wst c sz wv ga => Sys2Proof.Machine.execWst c sz wv ga s
  | .wlds c sz wv ga gb => Sys2Proof.Machine.execWlds c sz wv ga gb s
  | .wsts c sz wv ga gb => Sys2Proof.Machine.execWsts c sz wv ga gb s
  | .wldz c sz wv ga => Sys2Proof.Machine.execWldz c sz wv ga s
  | .wldx c sz wv ga => Sys2Proof.Machine.execWldx c sz wv ga s
  | .wgather c sz wv wi ga => Sys2Proof.Machine.execWgather c sz wv wi ga s
  | .wscatter c sz wv wi ga => Sys2Proof.Machine.execWscatter c sz wv wi ga s
  | .wcstore c sz wv wi ga gb => Sys2Proof.Machine.execWcstore c sz wv wi ga gb s
  | .wldb c wv ga => Sys2Proof.Machine.execWldb c wv ga s
  | .wstb c wv ga => Sys2Proof.Machine.execWstb c wv ga s
  | .wmovx c sz w g e => Sys2Proof.Machine.execWmovx c sz w g e s
  | .wmovxs c sz w g e => Sys2Proof.Machine.execWmovxs c sz w g e s
  | .wins c sz w g e => Sys2Proof.Machine.execWins c sz w g e s
  | .wdsend c w x => Sys2Proof.Machine.execWdsend c w x s
  | .supervisorCoreFault c => Sys2Proof.Machine.execSupervisorCoreFault c s
  | .hostLinkUp p l => Sys2Proof.Machine.execHostLinkUp p l s
  | .perstBRelease l => Sys2Proof.Machine.execPerstBRelease l s
  | .otherFrame p f => Sys2Proof.Machine.execOtherFrame p f s
  | .reservedEncoding c w => Sys2Proof.Machine.execReservedEncoding c w s

end Sys2Proof.Machine
end

