-- ==== Sys2Proof/Machine/Tick.lean ====
section
/-! DEFINITION. The passing of time: one tick of 1 ns (spec/15 R424) and what accumulates over it (spec/04 R128, spec/14 R400). -/
namespace Sys2Proof.Machine

/-- Where `d` ticks of one query core count: HG_BUSY while it runs an item, HG_IDLE while it is blocked in TAKE, HG_POSTSTALL of its instance while it is
stalled in POST. -/
def tickCore (d : Nat) (s : State) (c : Nat) : State :=
  let k := s.core c
  match k.act with
  | .taking _ => { s with hg := { s.hg with idle := SMap.set s.hg.idle c (SMap.get s.hg.idle 0 c + d) } }
  | .stalled _ op =>
    let s1 := { s with hg := { s.hg with busy := if k.item.isSome then SMap.set s.hg.busy c (SMap.get s.hg.busy 0 c + d) else s.hg.busy } }
    match instOfCore s.hi.n c with
    | none => s1
    | some i =>
      let s2 := if k.item.isSome then s1.addAct i (fun a => { a with core := a.core + d }) else s1
      match op with
      | .post _ _ _ => s2.setStat i { s2.stat i with postStall := (s2.stat i).postStall + BitVec.ofNat 64 d }
      | _ => s2
  | .halted => s
  | _ =>
    if k.item.isSome then
      let s1 := { s with hg := { s.hg with busy := SMap.set s.hg.busy c (SMap.get s.hg.busy 0 c + d) } }
      match instOfCore s.hi.n c with
      | none => s1
      | some i => s1.addAct i (fun a => { a with core := a.core + d })
    else s

/-- Bytes of tuples that an injection port sends in 1 ns at the setpoint in force: the floor of R94 at least. -/
def State.injectRate (s : State) : Nat :=
  (match s.pw.cur with
    | .still => 75
    | .flow => 128
    | .spate => 160) + Config.injectRate (spNo s.pw.cur)

/-- A nanosecond of the injection ports (R91, R94). -/
def State.drainPorts (s : State) : State :=
  { s with hg := { s.hg with inject := (s.hg.inject.map (fun e => (e.1, e.2 - s.injectRate))).filter (fun e => decide (0 < e.2)) } }

/-- The units of 10^-9 tick that 1 ns adds at the slewed rate, with what was left over (R424). -/
def Power.slew (p : Power) : Int := p.frac + 10 ^ 9 + p.ratePpb

/-- 1 ns at the disciplined rate: the tick counter never steps back, and nothing moves while it does not run (R424). What a lost channel has left to
end ends (R328). -/
def tick (s : State) : State :=
  if !s.clocked then s
  else
    let d := (s.pw.slew / 10 ^ 9).toNat
    let s1 := (((List.range 96).filter (fun c => (SMap.find s.cores c).isSome)).foldl (tickCore d) s).drainPorts
    let s2 := if s1.insts.any (fun e => e.2.failing) then s1.settleFailed else s1
    { s2 with pw := { s2.pw with tick := s2.pw.tick + d, frac := s2.pw.slew % 10 ^ 9 } }

end Sys2Proof.Machine
end

