-- ==== Sys2Proof/Safety.lean ====
section
/-! DEFINITION. What a safe state is, and the conditions and results of a core's instructions, in the terms claims use. -/
namespace Sys2Proof.Machine

/-- Every byte memory is in canonical form: working memory, what host memory has received, the cluster pools and the cores' local stores. -/
def State.memsWf (s : State) : Prop :=
  s.mc.cells.wf = true ∧ s.hi.mem.wf = true ∧ (∀ c p, (c, p) ∈ s.pools → p.wf = true) ∧ (∀ c k, (c, k) ∈ s.cores → k.ls.wf = true)

/-- Nothing stands in the way of an instruction of core c with the needs `n` (R190, R204): the engine runs, the core is in service and neither blocked nor
halted, no interrupt is deliverable, the fetch faults nowhere, the instruction is legal where it stands and in this mode, and it waits for nothing. -/
def issues (s : State) (c : Nat) (n : Need) : Bool :=
  let k := s.core c
  decide (c < 98) && canIssue s c && !k.deliverable && (fetchExc k).isNone && (k.vres == 0 || (n.resumable && decide (k.vres.toNat < k.vln.toNat)))
    && !n.illegal && !(n.notLoopEnd && k.atLoopEnd) && (!n.keeperOnly || k.keeper) && !k.mustWait n

/-- State after the instruction at core c's pc has completed with the core's own state in `k` (R145, R185): only core c differs; its pc moves on, or back to LPS
at the end of an armed loop. -/
def stepped (s : State) (c : Nat) (k : Core) : State :=
  let k0 := s.core c
  let back := k0.lpc != 0 && k0.pc == k0.lpe
  s.setCore c { k with
    pc := if back then (if k0.lpc = 1 then k0.lpe + 4 else k0.lps) else k0.pc + 4,
    lpc := if back then k0.lpc - 1 else k0.lpc,
    vres := 0, act := .running, progress := s.now, icache := icacheAdd k0.icache k0.pc.toNat }

/-- State after a control transfer of core c to `target`. -/
def steppedTo (s : State) (c : Nat) (k : Core) (target : W64) : State :=
  let k0 := s.core c
  s.setCore c { k with pc := target, vres := 0, act := .running, progress := s.now, icache := icacheAdd k0.icache k0.pc.toNat }

/-- Field i of width w of a register image (R153, R159): bits [w·(i+1)-1 : w·i]. -/
def lane {n : Nat} (w : Nat) (x : BitVec n) (i : Nat) : BitVec w := x.extractLsb' (w * i) w

/-- Value of a word as sat_s and sat_u of R153 leave it. -/
def satSigned (w : Nat) (x : Int) : BitVec w := BitVec.ofInt w (min (max x (-(2 : Int) ^ (w - 1))) ((2 : Int) ^ (w - 1) - 1))
def satUnsigned (w : Nat) (x : Int) : BitVec w := BitVec.ofInt w (min (max x 0) ((2 : Int) ^ w - 1))

/-- Core c is at an instruction boundary where its instruction is reached: in service, not blocked or halted, no deliverable interrupt, no fault on the
fetch, no resumption pending (R185, R190). -/
def reaches (s : State) (c : Nat) : Bool :=
  let k := s.core c
  decide (c < 98) && canIssue s c && !k.deliverable && (fetchExc k).isNone && k.vres == 0

/-- Core c after exception entry through a good keeper stack (R192): the two words pushed, CR_KSP lowered, ERA and EST loaded, keeper mode, IE 0,
VRES 0, execution at `target`. Wide instructions issued before have completed (R184). EST is formed from the live status (R191). -/
def enteredKeeper (k0 : Core) (cause info : Nat) (era : W64) (vres : Nat) (target : W64) : Core :=
  let k := k0.drainWide
  let est : W64 := BitVec.ofNat 64 (cause + (if k.keeper then 256 else 0) + (if k.ie then 512 else 0) + vres * 2 ^ 16 + info * 2 ^ 32)
  { k with
    ls := Cells.writeList (Cells.writeList k.ls (k.ksp.toNat - 16) (leBytes 8 era.toNat)) (k.ksp.toNat - 8) (leBytes 8 est.toNat),
    ksp := k.ksp - 16, era := era, est := est, keeper := true, ie := false, vres := 0, pc := target, wq := [], act := .running }

/-- The keeper-stack check of R193, for an entry that is not at CR_EVEC after a fetch fault there. -/
def stackGood (k : Core) : Prop :=
  k.ksp.toNat % 16 = 0 ∧ 16 ≤ k.ksp.toNat ∧ k.spill = false ∧
    (k.spstk.getLsbD 0 = true → k.ksp.toNat ≤ bits k.spstk 10 8 * 1024 ∨ bits k.spstk 10 8 * 1024 + 1024 ≤ k.ksp.toNat - 16)

/-- State after core c took an exception with the entry `k`. -/
def entered (s : State) (c : Nat) (k : Core) : State := s.setCore c { k with progress := s.now }

/-- A wide register whose elements 0 to n-1 at width w are `f`'s and whose later elements are those of `old` (R161). -/
def elementsAre (w n : Nat) (old v : Wide) (f : Nat → BitVec w) : Prop :=
  (∀ i, i < n → lane w v i = f i) ∧ (∀ i, n ≤ i → lane w v i = lane w old i)

/-- Second operand of a row marked S (R170): a register's element, or the low w bits of a scalar register. -/
def second (k : Core) (w : Nat) (b : WSrc) (i : Nat) : BitVec w :=
  match b with
  | .vec r => lane w (k.rdw r) i
  | .scl g => (k.rd g).setWidth w

/-- A wide instruction of a unit at the end of the wide queue (R164): the wide registers it reads and writes, and its scalar results. -/
def queued (k : Core) (u : WUnit) (mem : Bool) (reads writes : List WReg) (dst : List (GReg × W64)) : List WEntry :=
  k.wq ++ [{ unit := u, mem := mem, reads := reads, writes := writes, dst := dst }]

end Sys2Proof.Machine
end

