-- ==== Sys2Proof/WellFormed.lean ====
section
/-! DEFINITION. Well-formed commands: every unit, port, core, instance or channel a command names is one the part has (R5, R106, R219, R283, R310). -/
namespace Sys2Proof

/-- A function names an instance 0 to 23 where it is virtual. -/
def fnOk : Fn → Bool
  | .pf0 => true
  | .pf1 => true
  | .vf i => decide (i < 24)

/-- Lanes of R324 are in range. -/
def eyesOk (l : List Eye) : Bool := l.all (fun e => decide (e.ctl < 24) && decide (e.k < 16))

/-- Symbols of R312 are in range. -/
def upsetsOk (l : List Upset) : Bool :=
  l.all (fun u => decide (u.row < 2 ^ 23) && (decide (u.line < 30) && decide (u.pos < 34) || decide (u.line = 30) && decide (u.pos < 4)))

/-- Pages of a stripe row are 0 to 16, the last its parity (R332). -/
def pagesOk (l : List PageAt) : Bool := l.all (fun e => decide (e.page < 17))

/-- Header copies and seal copies come in twos (R335, R343). -/
def damageOk (d : Damage) : Bool :=
  d.headers.all (fun e => decide (e.1 < 24) && decide (e.2 < 2)) && d.seals.all (fun e => decide (e.2 < 2))

/-- 256 dies on 32 flash channels (R332), 96 memory channels on 24 controllers (R310). -/
def dieFaultOk : DieFault → Bool
  | .whole d => decide (d < 256)
  | .block d => decide (d < 256)
  | .cipher ch => decide (ch < 32)
def chanLossOk : ChanLoss → Bool
  | .chan ch => decide (ch < 96)
  | .cipher c => decide (c < 24)

/-- ELEMENT of R279 is 1 to 7, the symbols and pages are in range. -/
def testFailOk (f : TestFail) : Bool :=
  decide (1 ≤ f.element.toNat) && decide (f.element.toNat ≤ 7) && f.upsets.all (fun e => decide (e.1 < 96)) && upsetsOk (f.upsets.map (fun e => e.2))
    && pagesOk (f.pages.map (fun e => e.2))

/-- A function has 32 vectors where it is physical and two where it is virtual (R220). -/
def vecOk : Fn → Nat → Bool
  | .pf0, v => decide (v < 32)
  | .pf1, v => decide (v < 32)
  | .vf i, v => decide (i < 24) && decide (v < 2)

/-- The part has 48 codec units and 8 digest engines (R5). -/
def unitOk : UnitKind → Nat → Bool
  | .codec, u => decide (u < 48)
  | .digest, u => decide (u < 8)

def Instr.wf (i : Instr) : Bool :=
  match i with
  | .vauxStable => true
  | .vauxLoss => true
  | .railRise _ => true
  | .railStable _ => true
  | .railFall _ _ => true
  | .holdRelease => true
  | .prepDone => true
  | .memorySweepDone eyes => eyesOk eyes
  | .trainDone _ _ areas d => areas.all (fun k => decide (k < 2)) && damageOk d
  | .recoverDone => true
  | .perst => true
  | .perstRelease => true
  | .perstB => true
  | .pwCtlQuiesce => true
  | .pwCtlUnquiesce => true
  | .quiesceComplete => true
  | .svreset => true
  | .lockstepMismatch => true
  | .supervisorResetDone => true
  | .pwSetptWrite _ => true
  | .setpointChangeDone => true
  | .forceStillEdge _ => true
  | .thermalCap _ => true
  | .thermalCapRelease _ => true
  | .thermalTrip => true
  | .timePpsEdge => true
  | .ppsMissed => true
  | .pwTodSet _ => true
  | .i2cWrite _ _ _ _ => true
  | .i2cRead _ _ _ _ => true
  | .alertResponse => true
  | .hostLinkDown _ => true
  | .linkRetrain _ _ => true
  | .vfFlr i => decide (i < 24)
  | .pfFlr _ => true
  | .resetComplete i => decide (i < 24)
  | .hiMbGo => true
  | .mbInstanceCreate => true
  | .mbInstanceDestroy => true
  | .mbRingSet => true
  | .mbModerate => true
  | .mbHostmode => true
  | .mbMemExclude => true
  | .mbResponse => true
  | .vfDbSq i _ => decide (i < 24)
  | .vfDbCq i _ => decide (i < 24)
  | .indexBlockRead i _ _ => decide (i < 24)
  | .sqFetch i _ => decide (i < 24)
  | .cqFullRecheck i _ _ => decide (i < 24)
  | .completionWrite i => decide (i < 24)
  | .msixModTimer i => decide (i < 24)
  | .msixUnmask f vec => vecOk f vec
  | .vfEventRead i => decide (i < 24)
  | .registerWrite f _ _ => fnOk f
  | .append _ => true
  | .hostAppendPieceRead i _ => decide (i < 24)
  | .flush => true
  | .abort i => decide (i < 24)
  | .queryRun _ => true
  | .imageLoad _ => true
  | .imageUnload => true
  | .tableCreate _ => true
  | .tableDrop => true
  | .blockExport => true
  | .logRead => true
  | .portCtlDisable => true
  | .portCtlEnable => true
  | .portCtlRelease => true
  | .ownerRekey => true
  | .selftestStart => true
  | .selftestAbort => true
  | .selftestEnd f => f.all testFailOk
  | .selftestResume => true
  | .fwDownload _ => true
  | .fwActivate => true
  | .fwSwitch _ => true
  | .openFrame p _ => decide (p < 576)
  | .openAck p => decide (p < 576)
  | .pendingSessionLapse p => decide (p < 576)
  | .appendFrame p _ => decide (p < 576)
  | .flushFrame p _ => decide (p < 576)
  | .abortFrame p _ => decide (p < 576)
  | .dataFrame p _ => decide (p < 576)
  | .statusQuery p _ => decide (p < 576)
  | .keepalive p _ => decide (p < 576)
  | .grant => true
  | .grantTimerExpiry p tag => decide (p < 576) && decide (tag < 64)
  | .keepaliveSend p => decide (p < 576)
  | .keepaliveTimeout p => decide (p < 576)
  | .laneFault p => decide (p < 576)
  | .fieldLinkUp p => decide (p < 576)
  | .fieldLinkDown p => decide (p < 576)
  | .take c => decide (c < 98)
  | .dispatch => true
  | .post c _ _ _ => decide (c < 98)
  | .postResume c => decide (c < 98)
  | .signal c _ _ => decide (c < 98)
  | .doneItem c _ _ => decide (c < 98)
  | .commit slot => decide (slot < 65536)
  | .park c _ _ => decide (c < 98)
  | .doneFail c _ _ => decide (c < 98)
  | .dsend c _ _ => decide (c < 98)
  | .dsendResume c => decide (c < 98)
  | .rootItemCreate ctx => decide (ctx < 1536)
  | .flumeItemCreate f => decide (f < 4096)
  | .exchItemCreate ctx => decide (ctx < 1536)
  | .barrierItemCreate ctx => decide (ctx < 1536)
  | .flumeExtend i => decide (i < 24)
  | .resultWrite ctx _ => decide (ctx < 1536)
  | .queryComplete ctx => decide (ctx < 1536)
  | .segmentReadComplete r => pagesOk r.bad
  | .coreFault c => decide (c < 96)
  | .replayRequeue slot => decide (slot < 65536)
  | .progressMonitorExpiry c => decide (c < 96)
  | .hgCtlStatclr => true
  | .cdSubmit c _ _ _ => decide (c < 98)
  | .cdSubmitResume c => decide (c < 98)
  | .encodeJob u => decide (u < 48)
  | .scanJob u => decide (u < 48)
  | .streamJob u => decide (u < 48)
  | .verifyJob u => decide (u < 48)
  | .codecJobComplete u => decide (u < 48)
  | .codecUnitFault u => decide (u < 48)
  | .codecReissueEnqueue => true
  | .unitWatchdogExpiry k u => unitOk k u
  | .dgSubmit c _ _ _ => decide (c < 98)
  | .digestJob e _ => decide (e < 8)
  | .digestPreempt e => decide (e < 8)
  | .digestJobComplete e => decide (e < 8)
  | .digestEngineFault e => decide (e < 8)
  | .dgResRead e k => decide (e < 8) && decide (k < 8)
  | .ksOekLoad _ => true
  | .ksOekLoadDone => true
  | .sealIntervalExpiry i => decide (i < 24)
  | .segmentSealed i => decide (i < 24)
  | .checkpointTimer => true
  | .dieFail k => dieFaultOk k
  | .rebuildDone => true
  | .flashReadScrub r _ => pagesOk r.bad
  | .garbageCollection i _ => decide (i < 24)
  | .patrolScrub ch upsets => decide (ch < 96) && upsetsOk upsets
  | .refresh ch rank => decide (ch < 96) && decide (rank < 2)
  | .tempReadout ch rank _ => decide (ch < 96) && decide (rank < 2)
  | .zqLatch ch rank => decide (ch < 96) && decide (rank < 2)
  | .powerDownEntry ch rank => decide (ch < 96) && decide (rank < 2)
  | .selfRefreshEntry ch rank => decide (ch < 96) && decide (rank < 2)
  | .resweep => true
  | .resweepDone eyes => eyesOk eyes
  | .channelLost l => chanLossOk l
  | .cacheMissFill c upsets => decide (c < 98) && upsetsOk upsets
  | .streamerFetch c => decide (c < 98)
  | .wideUnitComplete c _ => decide (c < 98)
  | .interrupt c => decide (c < 98)
  | .icTimerExpiry c => decide (c < 98)
  | .crIcClaim c _ => decide (c < 98)
  | .crIcDone c _ => decide (c < 98)
  | .crIcSwset c _ => decide (c < 98)
  | .crIcTimerWrite c _ => decide (c < 98)
  | .lanternSample _ => true
  | .tlPaceWrite _ => true
  | .paceRelease i _ => decide (i < 24)
  | .add c _ _ _ => decide (c < 98)
  | .sub c _ _ _ => decide (c < 98)
  | .and c _ _ _ => decide (c < 98)
  | .or c _ _ _ => decide (c < 98)
  | .xor c _ _ _ => decide (c < 98)
  | .andn c _ _ _ => decide (c < 98)
  | .shl c _ _ _ => decide (c < 98)
  | .shr c _ _ _ => decide (c < 98)
  | .sar c _ _ _ => decide (c < 98)
  | .ror c _ _ _ => decide (c < 98)
  | .slt c _ _ _ => decide (c < 98)
  | .sltu c _ _ _ => decide (c < 98)
  | .min c _ _ _ => decide (c < 98)
  | .max c _ _ _ => decide (c < 98)
  | .minu c _ _ _ => decide (c < 98)
  | .maxu c _ _ _ => decide (c < 98)
  | .mul c _ _ _ => decide (c < 98)
  | .mulh c _ _ _ => decide (c < 98)
  | .mulhu c _ _ _ => decide (c < 98)
  | .div c _ _ _ => decide (c < 98)
  | .divu c _ _ _ => decide (c < 98)
  | .rem c _ _ _ => decide (c < 98)
  | .remu c _ _ _ => decide (c < 98)
  | .clz c _ _ => decide (c < 98)
  | .ctz c _ _ => decide (c < 98)
  | .popc c _ _ => decide (c < 98)
  | .bswap c _ _ => decide (c < 98)
  | .selnz c _ _ _ => decide (c < 98)
  | .addi c _ _ _ => decide (c < 98)
  | .andi c _ _ _ => decide (c < 98)
  | .ori c _ _ _ => decide (c < 98)
  | .xori c _ _ _ => decide (c < 98)
  | .slti c _ _ _ => decide (c < 98)
  | .sltiu c _ _ _ => decide (c < 98)
  | .shifti c _ _ _ _ => decide (c < 98)
  | .movi c _ _ => decide (c < 98)
  | .shori c _ _ => decide (c < 98)
  | .ldb c _ _ _ => decide (c < 98)
  | .ldbu c _ _ _ => decide (c < 98)
  | .ldh c _ _ _ => decide (c < 98)
  | .ldhu c _ _ _ => decide (c < 98)
  | .ldw c _ _ _ => decide (c < 98)
  | .ldwu c _ _ _ => decide (c < 98)
  | .ldd c _ _ _ => decide (c < 98)
  | .stb c _ _ _ => decide (c < 98)
  | .sth c _ _ _ => decide (c < 98)
  | .stw c _ _ _ => decide (c < 98)
  | .std c _ _ _ => decide (c < 98)
  | .amoadd c _ _ _ => decide (c < 98)
  | .amoswap c _ _ _ => decide (c < 98)
  | .amocas c _ _ _ => decide (c < 98)
  | .amoand c _ _ _ => decide (c < 98)
  | .amoor c _ _ _ => decide (c < 98)
  | .amomax c _ _ _ => decide (c < 98)
  | .amomin c _ _ _ => decide (c < 98)
  | .zline c _ => decide (c < 98)
  | .cwb c _ => decide (c < 98)
  | .cinv c _ => decide (c < 98)
  | .cwbi c _ => decide (c < 98)
  | .strm c _ _ => decide (c < 98)
  | .sync c => decide (c < 98)
  | .iinvall c => decide (c < 98)
  | .beq c _ _ _ => decide (c < 98)
  | .bne c _ _ _ => decide (c < 98)
  | .blt c _ _ _ => decide (c < 98)
  | .bge c _ _ _ => decide (c < 98)
  | .bltu c _ _ _ => decide (c < 98)
  | .bgeu c _ _ _ => decide (c < 98)
  | .jmp c _ => decide (c < 98)
  | .call c _ => decide (c < 98)
  | .jr c _ => decide (c < 98)
  | .callr c _ => decide (c < 98)
  | .loop c _ _ => decide (c < 98)
  | .loopi c _ _ => decide (c < 98)
  | .mfs c _ _ => decide (c < 98)
  | .mts c _ _ => decide (c < 98)
  | .cget c _ _ => decide (c < 98)
  | .cput c _ _ => decide (c < 98)
  | .gate c _ => decide (c < 98)
  | .gret c => decide (c < 98)
  | .waitIrq c => decide (c < 98)
  | .padd c _ _ _ _ => decide (c < 98)
  | .psub c _ _ _ _ => decide (c < 98)
  | .padds c _ _ _ _ => decide (c < 98)
  | .psubs c _ _ _ _ => decide (c < 98)
  | .paddus c _ _ _ _ => decide (c < 98)
  | .psubus c _ _ _ _ => decide (c < 98)
  | .pavgu c _ _ _ _ => decide (c < 98)
  | .pmins c _ _ _ _ => decide (c < 98)
  | .pmaxs c _ _ _ _ => decide (c < 98)
  | .pminu c _ _ _ _ => decide (c < 98)
  | .pmaxu c _ _ _ _ => decide (c < 98)
  | .pcmpeq c _ _ _ _ => decide (c < 98)
  | .pcmpgt c _ _ _ _ => decide (c < 98)
  | .pcmpgtu c _ _ _ _ => decide (c < 98)
  | .pmul c _ _ _ _ => decide (c < 98)
  | .pmulhrs c _ _ _ _ => decide (c < 98)
  | .pmadd c _ _ _ _ => decide (c < 98)
  | .pabs c _ _ _ => decide (c < 98)
  | .pshli c _ _ _ _ => decide (c < 98)
  | .pshri c _ _ _ _ => decide (c < 98)
  | .psari c _ _ _ _ => decide (c < 98)
  | .psrari c _ _ _ _ => decide (c < 98)
  | .ppacks c _ _ _ _ => decide (c < 98)
  | .ppackus c _ _ _ _ => decide (c < 98)
  | .punpklo c _ _ _ _ => decide (c < 98)
  | .punpkhi c _ _ _ _ => decide (c < 98)
  | .wadd c _ _ _ _ => decide (c < 98)
  | .wsub c _ _ _ _ => decide (c < 98)
  | .wand c _ _ _ _ => decide (c < 98)
  | .wor c _ _ _ _ => decide (c < 98)
  | .wxor c _ _ _ _ => decide (c < 98)
  | .wandn c _ _ _ _ => decide (c < 98)
  | .wmin c _ _ _ _ => decide (c < 98)
  | .wmax c _ _ _ _ => decide (c < 98)
  | .wminu c _ _ _ _ => decide (c < 98)
  | .wmaxu c _ _ _ _ => decide (c < 98)
  | .wmul c _ _ _ _ => decide (c < 98)
  | .wshl c _ _ _ _ => decide (c < 98)
  | .wshr c _ _ _ _ => decide (c < 98)
  | .wsar c _ _ _ _ => decide (c < 98)
  | .wmulw c _ _ _ _ => decide (c < 98)
  | .wmulwu c _ _ _ _ => decide (c < 98)
  | .wmacw c _ _ _ _ => decide (c < 98)
  | .wmacwu c _ _ _ _ => decide (c < 98)
  | .wdot c _ _ _ _ => decide (c < 98)
  | .wdotu c _ _ _ _ => decide (c < 98)
  | .wceq c _ _ _ _ => decide (c < 98)
  | .wcne c _ _ _ _ => decide (c < 98)
  | .wclt c _ _ _ _ => decide (c < 98)
  | .wcge c _ _ _ _ => decide (c < 98)
  | .wcltu c _ _ _ _ => decide (c < 98)
  | .wcgeu c _ _ _ _ => decide (c < 98)
  | .wcgt c _ _ _ _ => decide (c < 98)
  | .wcle c _ _ _ _ => decide (c < 98)
  | .wcgtu c _ _ _ _ => decide (c < 98)
  | .wcleu c _ _ _ _ => decide (c < 98)
  | .wband c _ _ _ => decide (c < 98)
  | .wbor c _ _ _ => decide (c < 98)
  | .wbandn c _ _ _ => decide (c < 98)
  | .wbcnt c _ _ => decide (c < 98)
  | .wcompress c _ _ _ _ _ => decide (c < 98)
  | .wiota c _ _ _ => decide (c < 98)
  | .wbcast c _ _ _ => decide (c < 98)
  | .wperm c _ _ _ _ => decide (c < 98)
  | .wscan c _ _ _ _ => decide (c < 98)
  | .wredadd c _ _ _ => decide (c < 98)
  | .wredaddu c _ _ _ => decide (c < 98)
  | .wredmin c _ _ _ => decide (c < 98)
  | .wredmax c _ _ _ => decide (c < 98)
  | .wredminu c _ _ _ => decide (c < 98)
  | .wredmaxu c _ _ _ => decide (c < 98)
  | .wredadd128 c _ _ _ => decide (c < 98)
  | .whash c _ _ _ _ => decide (c < 98)
  | .wfredadd c _ _ _ => decide (c < 98)
  | .wfadd c _ _ _ _ => decide (c < 98)
  | .wfsub c _ _ _ _ => decide (c < 98)
  | .wfmul c _ _ _ _ => decide (c < 98)
  | .wfmin c _ _ _ _ => decide (c < 98)
  | .wfmax c _ _ _ _ => decide (c < 98)
  | .wfclt c _ _ _ _ => decide (c < 98)
  | .wfcle c _ _ _ _ => decide (c < 98)
  | .wfceq c _ _ _ _ => decide (c < 98)
  | .wshli c _ _ _ _ => decide (c < 98)
  | .wshri c _ _ _ _ => decide (c < 98)
  | .wsari c _ _ _ _ => decide (c < 98)
  | .wtrans c _ _ _ _ => decide (c < 98)
  | .wbmrg c _ _ _ _ _ => decide (c < 98)
  | .wbmrgu c _ _ _ _ _ => decide (c < 98)
  | .wslide c _ _ _ _ _ => decide (c < 98)
  | .wld c _ _ _ => decide (c < 98)
  | .wst c _ _ _ => decide (c < 98)
  | .wlds c _ _ _ _ => decide (c < 98)
  | .wsts c _ _ _ _ => decide (c < 98)
  | .wldz c _ _ _ => decide (c < 98)
  | .wldx c _ _ _ => decide (c < 98)
  | .wgather c _ _ _ _ => decide (c < 98)
  | .wscatter c _ _ _ _ => decide (c < 98)
  | .wcstore c _ _ _ _ _ => decide (c < 98)
  | .wldb c _ _ => decide (c < 98)
  | .wstb c _ _ => decide (c < 98)
  | .wmovx c _ _ _ _ => decide (c < 98)
  | .wmovxs c _ _ _ _ => decide (c < 98)
  | .wins c _ _ _ _ => decide (c < 98)
  | .wdsend c _ _ => decide (c < 98)
  | .supervisorCoreFault c => decide (96 ≤ c) && decide (c < 98)
  | .hostLinkUp _ _ => true
  | .perstBRelease _ => true
  | .otherFrame p _ => decide (p < 576)
  | .reservedEncoding c _ => decide (c < 98)

end Sys2Proof
end

