-- ==== Sys2Proof/Certificates/Slice0/Obligations.lean ====
section
/-! DEFINITION. Statements about the YQ96 for the provers. Each docstring names the rules that the statement formalises. A clause about a core's instruction that completes
gives the whole next state (`stepped`, `steppedTo`, `entered` of Safety.lean), which is its frame. -/
section Statements
open Sys2Proof Sys2Proof.Machine

/-! ## The queue and the passing of time -/

/-- A step runs the command at the front of the queue with the queue's rest; the queue is the model's, not the spec's. With no command waiting one nanosecond passes: while
the clock runs the tick counter advances by the whole ticks that 1 ns at the slewed rate and what was left over make, by one at the rate of the module's own clock, and never steps
back; otherwise nothing changes (R424). No core, register or memory changes, but that an instance which a lost channel failed ends its work (R328). That a tick is what
an empty queue gives is the model's choice (log entry 33). -/
def Obligations.StepTakesTheFrontCommand : Prop :=
  (∀ (s : State) (i : Instr) (rest : List Instr), s.pending = i :: rest → step s = exec i { s with pending := rest }) ∧
  (∀ (s : State), s.pending = [] → ∃ t, step s = .next t ∧
     (s.clocked = true → s.pw.ratePpb = 0 → s.pw.frac = 0 → t.pw.tick = s.pw.tick + 1 ∧ t.pw.frac = 0) ∧
     (s.clocked = true → 0 ≤ s.pw.frac → -(10 ^ 9) ≤ s.pw.ratePpb → (t.pw.tick : Int) * 10 ^ 9 + t.pw.frac = s.pw.tick * 10 ^ 9 + s.pw.frac + 10 ^ 9 + s.pw.ratePpb) ∧
     s.pw.tick ≤ t.pw.tick ∧ (s.clocked = false → t = s) ∧ t.pending = [] ∧
     ((∀ e ∈ s.insts, e.2.failing = false) → t.cores = s.cores ∧ t.pools = s.pools ∧ t.mc = s.mc ∧ t.hi = s.hi ∧ t.flash = s.flash ∧ t.hg.items = s.hg.items))

/-- R129: g0 reads as zero and a write to it is discarded; a write to another register is read back and leaves every other register alone. R130, R160: MFS reads each
special register (ERA and EST in keeper mode only) and MTS writes it; the loop addresses drop bits [1:0], EST keeps its reserved bits at 0, a VLN value outside R160
is illegal and leaves VLN alone. CORE of a query core holds its number and, from bit 8, its cluster.
Completes: mfs, mts. -/
def Obligations.RegistersReadAndWritten : Prop :=
  (∀ (k : Core) (r q : GReg) (v : W64), k.rd 0 = 0 ∧ k.wr 0 v = k ∧ (r ≠ 0 → (k.wr r v).rd r = v) ∧ (q ≠ r → (k.wr r v).rd q = k.rd q)) ∧
  (∀ (s : State) (c : Nat) (rd : GReg),
     let k := s.core c
     let reads := fun (n : W16) (v : W64) => exec (.mfs c rd n) s = .next (stepped s c (k.wr rd v))
     (issues s c { regs := [rd] } = true →
       reads 0 k.vln ∧ reads 1 k.lpc ∧ reads 2 k.lps ∧ reads 3 k.lpe ∧ reads 6 (BitVec.ofNat 64 s.pw.tick) ∧
       (c < 96 → reads 7 (BitVec.ofNat 64 (c + c / 8 * 256))) ∧ (96 ≤ c → reads 7 (BitVec.ofNat 64 (c - 96 + 0x1F00)))) ∧
     (issues s c { regs := [rd], keeperOnly := true } = true → reads 4 k.era ∧ reads 5 k.est)) ∧
  (∀ (s : State) (c : Nat) (rs : GReg),
     let k := s.core c
     let v := k.rd rs
     let low2 : W64 := 0xFFFFFFFFFFFFFFFC
     (issues s c { regs := [rs], drains := true } = true →
       (v.toNat % 8 = 0 → 8 ≤ v.toNat → v.toNat ≤ 512 → exec (.mts c rs 0) s = .next (stepped s c { k with vln := v })) ∧
       (¬(v.toNat % 8 = 0 ∧ 8 ≤ v.toNat ∧ v.toNat ≤ 512) → stackGood k →
         exec (.mts c rs 0) s = .next (entered s c (enteredKeeper k 1 (insnWord (.mts c rs 0)).toNat k.pc 0 k.evec)))) ∧
     (issues s c { regs := [rs], notLoopEnd := true } = true →
       exec (.mts c rs 1) s = .next (steppedTo s c { k with lpc := v } (k.pc + 4)) ∧
       exec (.mts c rs 2) s = .next (stepped s c { k with lps := v &&& low2 }) ∧
       exec (.mts c rs 3) s = .next (stepped s c { k with lpe := v &&& low2 })) ∧
     (issues s c { regs := [rs], keeperOnly := true } = true →
       exec (.mts c rs 4) s = .next (stepped s c { k with era := v }) ∧
       exec (.mts c rs 5) s = .next (stepped s c { k with est := v &&& 0xFFFFFFFF03FF073F })))

/-! ## Scalar, packed and control instructions (spec/05) -/

/-- R138, the rows of two registers: each completes with its result in rd and changes nothing else but the pc.
Completes: add, sub, and, or, xor, andn, shl, shr, sar, ror, slt, sltu, min, max, minu, maxu, mul, mulh, mulhu, selnz. -/
def Obligations.ScalarRegisterResults : Prop :=
  ∀ (s : State) (c : Nat) (rd ra rb : GReg), issues s c { regs := [rd, ra, rb] } = true →
    let k := s.core c
    let x := k.rd ra
    let y := k.rd rb
    let n := y.toNat % 64
    exec (.add c rd ra rb) s = .next (stepped s c (k.wr rd (x + y))) ∧
    exec (.sub c rd ra rb) s = .next (stepped s c (k.wr rd (x - y))) ∧
    exec (.and c rd ra rb) s = .next (stepped s c (k.wr rd (x &&& y))) ∧
    exec (.or c rd ra rb) s = .next (stepped s c (k.wr rd (x ||| y))) ∧
    exec (.xor c rd ra rb) s = .next (stepped s c (k.wr rd (x ^^^ y))) ∧
    exec (.andn c rd ra rb) s = .next (stepped s c (k.wr rd (x &&& ~~~y))) ∧
    exec (.shl c rd ra rb) s = .next (stepped s c (k.wr rd (x <<< n))) ∧
    exec (.shr c rd ra rb) s = .next (stepped s c (k.wr rd (x >>> n))) ∧
    exec (.sar c rd ra rb) s = .next (stepped s c (k.wr rd (x.sshiftRight n))) ∧
    exec (.ror c rd ra rb) s = .next (stepped s c (k.wr rd ((x >>> n) ||| (x <<< (64 - n))))) ∧
    exec (.slt c rd ra rb) s = .next (stepped s c (k.wr rd (if x.toInt < y.toInt then 1 else 0))) ∧
    exec (.sltu c rd ra rb) s = .next (stepped s c (k.wr rd (if x.toNat < y.toNat then 1 else 0))) ∧
    exec (.min c rd ra rb) s = .next (stepped s c (k.wr rd (if x.toInt ≤ y.toInt then x else y))) ∧
    exec (.max c rd ra rb) s = .next (stepped s c (k.wr rd (if x.toInt ≤ y.toInt then y else x))) ∧
    exec (.minu c rd ra rb) s = .next (stepped s c (k.wr rd (if x.toNat ≤ y.toNat then x else y))) ∧
    exec (.maxu c rd ra rb) s = .next (stepped s c (k.wr rd (if x.toNat ≤ y.toNat then y else x))) ∧
    exec (.mul c rd ra rb) s = .next (stepped s c (k.wr rd (x * y))) ∧
    exec (.mulh c rd ra rb) s = .next (stepped s c (k.wr rd (((x.signExtend 128 * y.signExtend 128) >>> 64).setWidth 64))) ∧
    exec (.mulhu c rd ra rb) s = .next (stepped s c (k.wr rd (((x.setWidth 128 * y.setWidth 128) >>> 64).setWidth 64))) ∧
    exec (.selnz c rd ra rb) s = .next (stepped s c (if y = 0 then k else k.wr rd x))

/-- R139: division never faults; a zero divisor gives all ones and ra; DIV of -2^63 by -1 gives -2^63 and REM 0. R138, the unary rows: leading and trailing zero
bits (0 to 64), set bits, the eight bytes reversed.
Completes: div, divu, rem, remu, clz, ctz, popc, bswap. -/
def Obligations.DivisionAndBitCounts : Prop :=
  (∀ (s : State) (c : Nat) (rd ra rb : GReg), issues s c { regs := [rd, ra, rb] } = true →
     let k := s.core c
     let x := k.rd ra
     let y := k.rd rb
     exec (.div c rd ra rb) s = .next (stepped s c (k.wr rd (if y = 0 then BitVec.allOnes 64 else x.sdiv y))) ∧
     exec (.divu c rd ra rb) s = .next (stepped s c (k.wr rd (if y = 0 then BitVec.allOnes 64 else x / y))) ∧
     exec (.rem c rd ra rb) s = .next (stepped s c (k.wr rd (if y = 0 then x else x.srem y))) ∧
     exec (.remu c rd ra rb) s = .next (stepped s c (k.wr rd (if y = 0 then x else x % y))) ∧
     (x = BitVec.intMin 64 → y = BitVec.allOnes 64 →
       exec (.div c rd ra rb) s = .next (stepped s c (k.wr rd (BitVec.intMin 64))) ∧ exec (.rem c rd ra rb) s = .next (stepped s c (k.wr rd 0)))) ∧
  (∀ (s : State) (c : Nat) (rd ra : GReg), issues s c { regs := [rd, ra] } = true →
     let k := s.core c
     let x := k.rd ra
     (∃ z, z ≤ 64 ∧ (∀ i, 64 - z ≤ i → x.getLsbD i = false) ∧ (z < 64 → x.getLsbD (63 - z) = true) ∧
       exec (.clz c rd ra) s = .next (stepped s c (k.wr rd (BitVec.ofNat 64 z)))) ∧
     (∃ z, z ≤ 64 ∧ (∀ i, i < z → x.getLsbD i = false) ∧ (z < 64 → x.getLsbD z = true) ∧
       exec (.ctz c rd ra) s = .next (stepped s c (k.wr rd (BitVec.ofNat 64 z)))) ∧
     exec (.popc c rd ra) s = .next (stepped s c (k.wr rd (BitVec.ofNat 64 ((List.range 64).countP (fun i => x.getLsbD i))))) ∧
     (∃ v : W64, (∀ i, i < 8 → lane 8 v i = lane 8 x (7 - i)) ∧ exec (.bswap c rd ra) s = .next (stepped s c (k.wr rd v))))

/-- R140: the immediate operations, and the majors and immediate fields of their words.
Completes: addi, andi, ori, xori, slti, sltiu, shifti, movi, shori. -/
def Obligations.ImmediateResults : Prop :=
  ∀ (s : State) (c : Nat) (rd ra : GReg) (imm : W16) (n : BitVec 6), 
    let k := s.core c
    let x := k.rd ra
    let se : W64 := imm.signExtend 64
    let ze : W64 := imm.setWidth 64
    (issues s c { regs := [rd, ra] } = true →
      exec (.addi c rd ra imm) s = .next (stepped s c (k.wr rd (x + se))) ∧
      exec (.andi c rd ra imm) s = .next (stepped s c (k.wr rd (x &&& ze))) ∧
      exec (.ori c rd ra imm) s = .next (stepped s c (k.wr rd (x ||| ze))) ∧
      exec (.xori c rd ra imm) s = .next (stepped s c (k.wr rd (x ^^^ ze))) ∧
      exec (.slti c rd ra imm) s = .next (stepped s c (k.wr rd (if x.toInt < imm.toInt then 1 else 0))) ∧
      exec (.sltiu c rd ra imm) s = .next (stepped s c (k.wr rd (if x.toNat < se.toNat then 1 else 0))) ∧
      exec (.shifti c rd ra .shl n) s = .next (stepped s c (k.wr rd (x <<< n.toNat))) ∧
      exec (.shifti c rd ra .shr n) s = .next (stepped s c (k.wr rd (x >>> n.toNat))) ∧
      exec (.shifti c rd ra .sar n) s = .next (stepped s c (k.wr rd (x.sshiftRight n.toNat))) ∧
      exec (.shifti c rd ra .ror n) s = .next (stepped s c (k.wr rd ((x >>> n.toNat) ||| (x <<< (64 - n.toNat)))))) ∧
    (issues s c { regs := [rd] } = true →
      exec (.movi c rd imm) s = .next (stepped s c (k.wr rd se)) ∧
      exec (.shori c rd imm) s = .next (stepped s c (k.wr rd ((k.rd rd <<< 16) ||| ze)))) ∧
    insnWord (.addi c rd ra imm) = 0x03#6 ++ rd ++ ra ++ imm ∧ insnWord (.andi c rd ra imm) = 0x04#6 ++ rd ++ ra ++ imm ∧
    insnWord (.ori c rd ra imm) = 0x05#6 ++ rd ++ ra ++ imm ∧ insnWord (.xori c rd ra imm) = 0x06#6 ++ rd ++ ra ++ imm ∧
    insnWord (.slti c rd ra imm) = 0x07#6 ++ rd ++ ra ++ imm ∧ insnWord (.sltiu c rd ra imm) = 0x08#6 ++ rd ++ ra ++ imm ∧
    insnWord (.shifti c rd ra .shl n) = 0x09#6 ++ rd ++ ra ++ 0#8 ++ 0#2 ++ n ∧ insnWord (.shifti c rd ra .shr n) = 0x09#6 ++ rd ++ ra ++ 0#8 ++ 1#2 ++ n ∧
    insnWord (.shifti c rd ra .sar n) = 0x09#6 ++ rd ++ ra ++ 0#8 ++ 2#2 ++ n ∧ insnWord (.shifti c rd ra .ror n) = 0x09#6 ++ rd ++ ra ++ 0#8 ++ 3#2 ++ n ∧
    insnWord (.movi c rd imm) = 0x0A#6 ++ rd ++ 0#5 ++ imm ∧ insnWord (.shori c rd imm) = 0x0B#6 ++ rd ++ 0#5 ++ imm

/-- R154: the packed operations. Lane by lane, the result of each lane of rd is a function of the same lanes of ra and rb; PMADD sums neighbouring products,
PABS and the immediate shifts act on ra's lanes, the packs narrow with saturation, the unpacks interleave; a size that an operation does not list raises an
illegal-instruction fault, entered as R192 says.
Completes: padd, psub, padds, psubs, paddus, psubus, pavgu, pmins, pmaxs, pminu, pmaxu, pcmpeq, pcmpgt, pcmpgtu, pmul, pmulhrs, pmadd, pabs, pshli,
pshri, psari, psrari, ppacks, ppackus, punpklo, punpkhi. -/
def Obligations.PackedResults : Prop :=
  (∀ (s : State) (c : Nat) (sz : PSize) (rd ra rb : GReg), issues s c { regs := [rd, ra, rb] } = true →
     let k := s.core c
     let w := psizeBits sz
     let a := lane w (k.rd ra)
     let b := lane w (k.rd rb)
     let gives := fun (i : Instr) (f : Nat → BitVec w) =>
       ∃ v : W64, (∀ j, j < 64 / w → lane w v j = f j) ∧ exec i s = .next (stepped s c (k.wr rd v))
     gives (.padd c sz rd ra rb) (fun j => a j + b j) ∧
     gives (.psub c sz rd ra rb) (fun j => a j - b j) ∧
     gives (.padds c sz rd ra rb) (fun j => satSigned w ((a j).toInt + (b j).toInt)) ∧
     gives (.psubs c sz rd ra rb) (fun j => satSigned w ((a j).toInt - (b j).toInt)) ∧
     gives (.paddus c sz rd ra rb) (fun j => satUnsigned w ((a j).toNat + (b j).toNat)) ∧
     gives (.psubus c sz rd ra rb) (fun j => satUnsigned w ((a j).toNat - (b j).toNat)) ∧
     gives (.pavgu c sz rd ra rb) (fun j => BitVec.ofNat w (((a j).toNat + (b j).toNat + 1) / 2)) ∧
     gives (.pmins c sz rd ra rb) (fun j => if (a j).toInt ≤ (b j).toInt then a j else b j) ∧
     gives (.pmaxs c sz rd ra rb) (fun j => if (a j).toInt ≤ (b j).toInt then b j else a j) ∧
     gives (.pminu c sz rd ra rb) (fun j => if (a j).toNat ≤ (b j).toNat then a j else b j) ∧
     gives (.pmaxu c sz rd ra rb) (fun j => if (a j).toNat ≤ (b j).toNat then b j else a j) ∧
     gives (.pcmpeq c sz rd ra rb) (fun j => if a j = b j then BitVec.allOnes w else 0) ∧
     gives (.pcmpgt c sz rd ra rb) (fun j => if (b j).toInt < (a j).toInt then BitVec.allOnes w else 0) ∧
     gives (.pcmpgtu c sz rd ra rb) (fun j => if (b j).toNat < (a j).toNat then BitVec.allOnes w else 0) ∧
     gives (.pmul c sz rd ra rb) (fun j => a j * b j) ∧
     (sz ≠ .b → gives (.pmulhrs c sz rd ra rb)
       (fun j => satSigned w (((a j).toInt * (b j).toInt + (2 : Int) ^ (w - 2)) / (2 : Int) ^ (w - 1))))) ∧
  (∀ (s : State) (c : Nat) (sz : PSize) (rd ra rb : GReg) (n : BitVec 5),
     let k := s.core c
     let w := psizeBits sz
     let h := w / 2
     let m := 64 / w
     let a := lane w (k.rd ra)
     let b := lane w (k.rd rb)
     let gives := fun (i : Instr) (u : Nat) (f : Nat → BitVec u) =>
       ∃ v : W64, (∀ j, j < 64 / u → lane u v j = f j) ∧ exec i s = .next (stepped s c (k.wr rd v))
     (issues s c { regs := [rd, ra] } = true →
       gives (.pabs c sz rd ra) w (fun j => satSigned w (a j).toInt.natAbs) ∧
       gives (.pshli c sz rd ra n) w (fun j => a j <<< n.toNat) ∧
       gives (.pshri c sz rd ra n) w (fun j => a j >>> n.toNat) ∧
       gives (.psari c sz rd ra n) w (fun j => (a j).sshiftRight n.toNat) ∧
       gives (.psrari c sz rd ra n) w (fun j => if n = 0 then a j else BitVec.ofInt w (((a j).toInt + (2 : Int) ^ (n.toNat - 1)) / (2 : Int) ^ n.toNat))) ∧
     (issues s c { regs := [rd, ra, rb] } = true →
       (sz = .h → gives (.pmadd c sz rd ra rb) 32 (fun j => satSigned 32
         ((a (2 * j)).toInt * (b (2 * j)).toInt + (a (2 * j + 1)).toInt * (b (2 * j + 1)).toInt))) ∧
       (sz ≠ .b →
         gives (.ppacks c sz rd ra rb) h (fun j => satSigned h (if j < m then (a j).toInt else (b (j - m)).toInt)) ∧
         gives (.ppackus c sz rd ra rb) h (fun j => satUnsigned h (if j < m then (a j).toInt else (b (j - m)).toInt))) ∧
       gives (.punpklo c sz rd ra rb) w (fun j => if j % 2 = 0 then a (j / 2) else b (j / 2)) ∧
       gives (.punpkhi c sz rd ra rb) w (fun j => if j % 2 = 0 then a (m / 2 + j / 2) else b (m / 2 + j / 2)))) ∧
  (∀ (s : State) (c : Nat) (rd ra rb : GReg), reaches s c = true → stackGood (s.core c) →
     let k := s.core c
     ∀ i ∈ [Instr.pmulhrs c .b rd ra rb, .pmadd c .b rd ra rb, .pmadd c .w rd ra rb, .ppacks c .b rd ra rb, .ppackus c .b rd ra rb],
       exec i s = .next (entered s c (enteredKeeper k 1 (insnWord i).toNat k.pc 0 k.evec)))

/-- R141: branches, jumps and calls, where no loop ends at them; a target of JR or CALLR with bits [1:0] not zero raises an alignment fault on the jump. Their words are
those of major 0x28.
Completes: beq, bne, blt, bge, bltu, bgeu, jmp, call, jr, callr. -/
def Obligations.ControlTransfers : Prop :=
  ∀ (s : State) (c : Nat) (ra rb : GReg) (off : W16) (far : BitVec 26),
    let k := s.core c
    let x := k.rd ra
    let y := k.rd rb
    let there : W64 := k.pc + 4 * off.signExtend 64
    let away : W64 := k.pc + 4 * far.signExtend 64
    let branches := fun (i : Instr) (p : Prop) => (p → exec i s = .next (steppedTo s c k there)) ∧ (¬p → exec i s = .next (stepped s c k))
    (issues s c { regs := [ra, rb], notLoopEnd := true } = true →
      branches (.beq c ra rb off) (x = y) ∧ branches (.bne c ra rb off) (x ≠ y) ∧
      branches (.blt c ra rb off) (x.toInt < y.toInt) ∧ branches (.bge c ra rb off) (y.toInt ≤ x.toInt) ∧
      branches (.bltu c ra rb off) (x.toNat < y.toNat) ∧ branches (.bgeu c ra rb off) (y.toNat ≤ x.toNat)) ∧
    (issues s c { notLoopEnd := true } = true → exec (.jmp c far) s = .next (steppedTo s c k away)) ∧
    (issues s c { regs := [31], notLoopEnd := true } = true → exec (.call c far) s = .next (steppedTo s c (k.wr 31 (k.pc + 4)) away)) ∧
    (issues s c { regs := [ra], notLoopEnd := true } = true → x.toNat % 4 = 0 → exec (.jr c ra) s = .next (steppedTo s c k x)) ∧
    (issues s c { regs := [ra, 31], notLoopEnd := true } = true → x.toNat % 4 = 0 →
      exec (.callr c ra) s = .next (steppedTo s c (k.wr 31 (k.pc + 4)) x)) ∧
    (issues s c { regs := [ra, 31], notLoopEnd := true } = true → x.toNat % 4 ≠ 0 → stackGood k → ∀ i ∈ [Instr.jr c ra, .callr c ra],
      exec i s = .next (entered s c (enteredKeeper k 3 (x.toNat % 2 ^ 32) k.pc 0 k.evec))) ∧
    insnWord (.jr c ra) = 0x28#6 ++ 0#5 ++ ra ++ 0#5 ++ 0#11 ∧ insnWord (.callr c ra) = 0x28#6 ++ 0#5 ++ ra ++ 0#5 ++ 1#11

/-- R144: LOOP and LOOPI overwrite LPS, LPE and LPC; a count of 0 skips the body and a length of 0 is illegal. R145: when the instruction at LPE completes in an armed
loop, LPC falls by 1 and execution goes back to LPS, or past the loop when LPC is then 0; elsewhere the pc moves on by 4 and LPC keeps its value (shown for ADD);
at LPE of an armed loop a transfer, a loop set-up, a gate, a return, a WAIT, a TAKE, a DONE and an MTS to a loop register are illegal.
Completes: loop, loopi. -/
def Obligations.HardwareLoops : Prop :=
  (∀ (s : State) (c : Nat) (ra : GReg) (count : BitVec 10) (len : W16),
     let k := s.core c
     let lps : W64 := k.pc + 4
     let lpe : W64 := lps + 4 * (len.setWidth 64 - 1)
     let loops := fun (i : Instr) (n : W64) => len ≠ 0 →
       exec i s = .next (steppedTo s c { k with lps := lps, lpe := lpe, lpc := n } (if n = 0 then lpe + 4 else lps))
     (issues s c { regs := [ra], notLoopEnd := true } = true → loops (.loop c ra len) (k.rd ra)) ∧
     (issues s c { notLoopEnd := true } = true → loops (.loopi c count len) (count.setWidth 64)) ∧
     (len = 0 → reaches s c = true → stackGood k → ∀ i ∈ [Instr.loop c ra len, .loopi c count len],
       exec i s = .next (entered s c (enteredKeeper k 1 (insnWord i).toNat k.pc 0 k.evec))) ∧
     (insnWord (.loop c ra len)).extractLsb' 21 5 = ra ∧ (insnWord (.loopi c count len)).extractLsb' 16 10 = count) ∧
  (∀ (s : State) (c : Nat) (rd ra rb : GReg), issues s c { regs := [rd, ra, rb] } = true →
     let k := s.core c
     ∃ t, exec (.add c rd ra rb) s = .next t ∧
       (k.lpc ≠ 0 → k.pc = k.lpe → (t.core c).lpc = k.lpc - 1 ∧ (t.core c).pc = if k.lpc = 1 then k.lpe + 4 else k.lps) ∧
       (k.lpc = 0 ∨ k.pc ≠ k.lpe → (t.core c).lpc = k.lpc ∧ (t.core c).pc = k.pc + 4)) ∧
  (∀ (s : State) (c : Nat) (ra rb : GReg) (off len : W16) (far : BitVec 26) (count : BitVec 10) (n : Byte),
     reaches s c = true → stackGood (s.core c) → (s.core c).lpc ≠ 0 → (s.core c).pc = (s.core c).lpe →
     let k := s.core c
     ∀ i ∈ [Instr.beq c ra rb off, .bne c ra rb off, .blt c ra rb off, .bge c ra rb off, .bltu c ra rb off, .bgeu c ra rb off, .jmp c far, .call c far,
         .jr c ra, .callr c ra, .loop c ra len, .loopi c count len, .gate c n, .gret c, .waitIrq c, .mts c ra 1, .mts c ra 2, .mts c ra 3,
         .take c, .doneItem c ra rb],
       exec i s = .next (entered s c (enteredKeeper k 1 (insnWord i).toNat k.pc 0 k.evec)))

/-! ## Control registers, exceptions, gates and interrupts (spec/07) -/

/-- R150, R155, R208: CGET reads each listed control register, CPUT writes its fields and leaves its reserved bits 0; read-only and reserved controller indices ignore the
write. R205 to R208: a claim takes the lowest-numbered source pending and enabled while none is active; CR_IC_DONE ends the active one; CR_IC_SWSET raises the software
sources; CR_IC_TIMER sets the compare value and gives the edge at once where the tick counter has reached it.
Completes: crIcClaim, crIcDone, crIcSwset, crIcTimerWrite, cget, cput. -/
def Obligations.ControlAndInterruptRegisters : Prop :=
  (∀ (s : State) (c : Nat) (r : GReg), issues s c { regs := [r], keeperOnly := true } = true →
     let k := s.core c
     let v := k.rd r
     let low2 : W64 := 0xFFFFFFFFFFFFFFFC
     let reads := fun (n : W16) (x : W64) => exec (.cget c r n) s = .next (stepped s c (k.wr r x))
     let writes := fun (n : W16) (k' : Core) => exec (.cput c r n) s = .next (stepped s c k')
     (c < 96 → reads 0 (BitVec.ofNat 64 (c + c / 8 * 256))) ∧ (96 ≤ c → reads 0 (BitVec.ofNat 64 (c - 96 + 0x1F00))) ∧
     reads 0x08 k.winLo ∧ reads 0x09 k.winHi ∧ reads 0x10 k.ksp ∧ reads 0x11 k.spvec ∧ reads 0x12 k.spstk ∧ reads 0x13 k.gtbase ∧ reads 0x14 k.evec ∧
     reads 0x18 (k.waysS.setWidth 64) ∧ reads 0x19 (k.waysW.setWidth 64) ∧ reads 0x1A (k.waysP.setWidth 64) ∧
     reads 0x20 k.ic.pend ∧ reads 0x21 k.ic.en ∧ reads 0x22 (k.ic.act.setWidth 64) ∧ reads 0x25 (if k.ic.hold then 1 else 0) ∧ reads 0x26 k.ic.timer ∧
     (∀ n : W16, 0x28 ≤ n.toNat → n.toNat ≤ 0x3F → reads n 0 ∧ writes n k) ∧
     writes 0x08 { k with winLo := v &&& 0x1FFFFFFF800 } ∧ writes 0x09 { k with winHi := v &&& 0x1FFFFFFF800 } ∧
     writes 0x10 { k with ksp := v &&& 0x3FFFF } ∧ writes 0x11 { k with spvec := v &&& low2 } ∧ writes 0x12 { k with spstk := v &&& 0x3FC01 } ∧
     writes 0x13 { k with gtbase := v &&& 0x1FF03FFF0 } ∧ writes 0x14 { k with evec := v &&& low2 } ∧
     writes 0x18 { k with waysS := v.setWidth 8 } ∧ writes 0x19 { k with waysW := v.setWidth 8 } ∧ writes 0x1A { k with waysP := v.setWidth 8 } ∧
     writes 0x20 { k with ic := { k.ic with pend := k.ic.pend &&& ~~~v } } ∧ writes 0x21 { k with ic := { k.ic with en := v &&& ~~~(1 : W64) } } ∧
     writes 0x22 k ∧ writes 0x25 { k with ic := { k.ic with hold := v.getLsbD 0 } }) ∧
  (∀ (s : State) (c : Nat) (r : GReg), issues s c { regs := [r], keeperOnly := true } = true →
     let k := s.core c
     let v := k.rd r
     let timer : W64 := if c < 96 then 0x8 else 0x400
     let puts := fun (i : Instr) (x : ICtl) => exec i s = .next (stepped s c { k with ic := x })
     (∀ n, 0 < n → n < 64 → (k.ic.pend &&& k.ic.en).getLsbD n = true → (∀ m, 0 < m → m < n → (k.ic.pend &&& k.ic.en).getLsbD m = false) → k.ic.act = 0 →
       exec (.crIcClaim c r) s = .next (stepped s c
         (({ k with ic := { k.ic with pend := k.ic.pend &&& ~~~((1 : W64) <<< n), act := BitVec.ofNat 6 n } } : Core).wr r (BitVec.ofNat 64 n)))) ∧
     (k.ic.act ≠ 0 ∨ (∀ m, 0 < m → m < 64 → (k.ic.pend &&& k.ic.en).getLsbD m = false) →
       exec (.crIcClaim c r) s = .next (stepped s c (k.wr r 0))) ∧
     (v.setWidth 6 = k.ic.act → puts (.crIcDone c r) { k.ic with act := 0 }) ∧
     (v.setWidth 6 ≠ k.ic.act → puts (.crIcDone c r) k.ic) ∧
     puts (.crIcSwset c r) { k.ic with pend := k.ic.pend ||| (v &&& 0xFFFF000000000000) } ∧
     (v.toNat ≤ s.pw.tick → puts (.crIcTimerWrite c r) { k.ic with pend := k.ic.pend ||| timer, timer := v, fired := true }) ∧
     (s.pw.tick < v.toNat → puts (.crIcTimerWrite c r) { k.ic with timer := v, fired := false }))

/-- R188, R190, R192: an exception of an instruction saves the pc and the status word on the keeper stack and in ERA and EST, and continues at CR_EVEC in keeper mode with
interrupts off; CAUSE and INFO are those of R188 for a reserved word, a keeper-only instruction in stage mode, a misaligned access, an address in no region and one
outside the window. R193 to R195: with an unusable keeper stack the entry goes to the Spillway handler, CR_KSP standing as it was; without a Spillway region, or with
SPILL already 1, the core halts.
Rests on the model's readings in log entries 16 and 17.
Completes: reservedEncoding. -/
def Obligations.Exceptions : Prop :=
  (∀ (s : State) (c : Nat), reaches s c = true → stackGood (s.core c) →
     let k := s.core c
     (∀ w : W32, decodeInsn c w = none →
       exec (.reservedEncoding c w) s = .next (entered s c (enteredKeeper k 1 w.toNat k.pc 0 k.evec))) ∧
     (k.keeper = false → k.lpc = 0 → ∀ r : GReg,
       ∀ i ∈ [Instr.gret c, .waitIrq c, .take c, .iinvall c, .cget c r 0x10, .cput c r 0x10, .mfs c r 4, .mfs c r 5, .mts c r 4, .mts c r 5],
         exec i s = .next (entered s c (enteredKeeper k 2 (insnWord i).toNat k.pc 0 k.evec))) ∧
     (∀ (r base : GReg) (imm : W16), issues s c { regs := [r, base], isMem := true } = true →
       let a := (k.rd base + imm.signExtend 64).toNat
       (∀ e ∈ [(Instr.ldh c r base imm, 2), (.ldhu c r base imm, 2), (.ldw c r base imm, 4), (.ldwu c r base imm, 4), (.ldd c r base imm, 8),
           (.sth c r base imm, 2), (.stw c r base imm, 4), (.std c r base imm, 8)],
         a % e.2 ≠ 0 → exec e.1 s = .next (entered s c (enteredKeeper k 3 (a % 2 ^ 32) k.pc 0 k.evec))) ∧
       (∀ i ∈ [Instr.ldb c r base imm, .ldbu c r base imm, .stb c r base imm],
         (0x40000 ≤ a ∧ a < 0x10000000 ∨ devBase + 2 ^ 41 ≤ a) → exec i s = .next (entered s c (enteredKeeper k 4 (a % 2 ^ 32) k.pc 0 k.evec)) ) ∧
       (∀ i ∈ [Instr.ldb c r base imm, .ldbu c r base imm, .stb c r base imm],
         devBase ≤ a → a < devBase + 2 ^ 41 → (a - devBase < k.winLo.toNat ∨ k.winHi.toNat ≤ a - devBase) →
         exec i s = .next (entered s c (enteredKeeper k 5 (a % 2 ^ 32) k.pc 0 k.evec))))) ∧
  (∀ (s : State) (c : Nat) (w : W32), reaches s c = true → decodeInsn c w = none →
     let k := s.core c
     let base := bits k.spstk 10 8 * 1024
     let est : W64 := BitVec.ofNat 64 (1 + (if k.keeper then 256 else 0) + (if k.ie then 512 else 0) + 1024 + w.toNat * 2 ^ 32)
     (¬stackGood k → k.spill = false → k.spstk.getLsbD 0 = true →
       exec (.reservedEncoding c w) s = .next (entered s c { k.drainWide with
         ls := Cells.writeList (Cells.writeList k.ls (base + 1008) (leBytes 8 k.pc.toNat)) (base + 1016) (leBytes 8 est.toNat),
         era := k.pc, est := est, keeper := true, ie := false, vres := 0, spill := true, pc := k.spvec, wq := [], act := .running })) ∧
     (k.spill = true ∨ (¬stackGood k ∧ k.spstk.getLsbD 0 = false) →
       ∃ t, exec (.reservedEncoding c w) s = .next t ∧ (t.core c).act = .halted ∧ (t.core c).ls = k.ls ∧ (t.core c).ksp = k.ksp ∧ (t.core c).era = k.era))

/-- R199 to R201: GATE enters its handler once the entry is valid and every argument pair passes; a bad number raises GATENUM, the first failing pair GATEARG.
R197, R143: GRET restores mode, IE and VRES from EST, clears SPILL and continues at ERA, changing neither CR_KSP nor the stack; WAIT goes on where a source
is pending and enabled and not held, and blocks otherwise.
Completes: gate, gret, waitIrq. -/
def Obligations.GateCalls : Prop :=
  (∀ (s : State) (c : Nat) (n : Byte), issues s c { regs := [10, 11, 12, 13, 14, 15], notLoopEnd := true, drains := true } = true → stackGood (s.core c) →
    let k := s.core c
    let e := bits k.gtbase 4 14 * 16 + 16 * n.toNat
    let handler : W64 := BitVec.ofNat 64 (leNat (Cells.readList k.ls e 8))
    let w1 := leNat (Cells.readList k.ls (e + 8) 8)
    let usable := k.gtbase.getLsbD 32 = true ∧ n.toNat ≤ bits k.gtbase 24 8 ∧ e + 16 ≤ 0x40000 ∧ w1 % 2 = 1
    let passes := fun (p : Nat) =>
      let ptr := (k.rd (BitVec.ofNat 5 (10 + 2 * p))).toNat
      let len := (k.rd (BitVec.ofNat 5 (11 + 2 * p))).toNat
      len = 0 ∨ (ptr + len ≤ 2 ^ 64 ∧ (ptr + len ≤ 0x30000 ∨
        (∃ lo size, poolShare s.hi.n c = some (lo, size) ∧ 0x10000000 + lo ≤ ptr ∧ ptr + len ≤ 0x10000000 + lo + size) ∨
        (devBase + k.winLo.toNat ≤ ptr ∧ ptr + len ≤ devBase + k.winHi.toNat)))
    (usable → (∀ p, p < w1 / 2 % 4 → passes p) → exec (.gate c n) s = .next (entered s c (enteredKeeper k 8 n.toNat (k.pc + 4) 0 handler))) ∧
    (usable → ∀ p, p < w1 / 2 % 4 → ¬passes p → (∀ q, q < p → passes q) →
      exec (.gate c n) s = .next (entered s c (enteredKeeper k 6 p k.pc 0 k.evec))) ∧
    (¬usable → exec (.gate c n) s = .next (entered s c (enteredKeeper k 7 n.toNat k.pc 0 k.evec)))) ∧
  (∀ (s : State) (c : Nat), issues s c { keeperOnly := true, notLoopEnd := true, drains := true } = true →
    let k := s.core c
    (k.era.toNat % 4 = 0 → exec (.gret c) s = .next (s.setCore c { k with
      keeper := k.est.getLsbD 8, ie := k.est.getLsbD 9, vres := k.est.extractLsb' 16 10, spill := false, pc := k.era,
      act := .running, progress := s.pw.tick, icache := icacheAdd k.icache k.pc.toNat })) ∧
    (k.era.toNat % 4 ≠ 0 → stackGood k → exec (.gret c) s = .next (entered s c (enteredKeeper k 3 (k.era.toNat % 2 ^ 32) k.pc 0 k.evec))) ∧
    (k.ic.hold = false → k.ic.pend &&& k.ic.en ≠ 0 → exec (.waitIrq c) s = .next (steppedTo s c k (k.pc + 4))) ∧
    (k.ic.hold = true ∨ k.ic.pend &&& k.ic.en = 0 →
      exec (.waitIrq c) s = .next (s.setCore c { (steppedTo s c k (k.pc + 4)).core c with act := .waiting })))

/-- R203, R204, R206: a deliverable interrupt is taken with ERA at the pc (the next instruction, the TAKE, the stalled instruction, WAIT + 4), CAUSE 0x10, INFO 0 and the
live VRES; nothing is claimed. Where none is deliverable, or the core is in DONE or halted, nothing is taken. R207: the TIMER edge comes once, when the tick counter
reaches CR_IC_TIMER; source 3 of a query core, 10 of the supervisor.
Rests on the model's readings in log entry 16.
Completes: interrupt, icTimerExpiry. -/
def Obligations.Interrupts : Prop :=
  (∀ (s : State) (c : Nat), c < 98 → s.engineUp = true →
     let k := s.core c
     let due := k.ie = true ∧ k.ic.hold = false ∧ k.ic.act = 0 ∧ k.ic.pend &&& k.ic.en ≠ 0
     (due → k.act ≠ .inDone → k.act ≠ .halted → stackGood k →
       exec (.interrupt c) s = .next (entered s c (enteredKeeper k 0x10 0 k.pc k.vres.toNat k.evec))) ∧
     (¬due ∨ k.act = .inDone ∨ k.act = .halted → exec (.interrupt c) s = .next s)) ∧
  (∀ (s : State) (c : Nat), c < 98 →
     let k := s.core c
     (k.ic.timer.toNat ≤ s.pw.tick → k.ic.fired = false →
       ∃ t, exec (.icTimerExpiry c) s = .next t ∧
         (t.core c).ic = { k.ic with pend := k.ic.pend ||| (if c < 96 then 0x8 else 0x400), fired := true } ∧ (c < 96 → ∀ d, d ≠ c → t.core d = s.core d)) ∧
     (c < 96 → s.pw.tick < k.ic.timer.toNat ∨ k.ic.fired = true → exec (.icTimerExpiry c) s = .next s))

/-! ## Loads, stores, atomics and the data cache (spec/05, spec/07) -/

/-- R147: loads from local store, pool and a cached line complete with the value extended to 64 bits; a load of a line that is not cached becomes the
outstanding miss.
Completes: ldb, ldbu, ldh, ldhu, ldw, ldwu, ldd. -/
def Obligations.LoadResults : Prop :=
  ∀ (s : State) (c : Nat) (rd base : GReg) (imm : W16), issues s c { regs := [rd, base], isMem := true } = true →
    let k := s.core c
    let a := (k.rd base + imm.signExtend 64).toNat
    let da := a - devBase
    let loads := fun (i : Instr) (size : Nat) (sgn : Bool) (ext : BitVec (8 * size) → W64) => a % size = 0 →
      (a < 0x40000 → exec i s = .next (stepped s c (k.wr rd (ext (BitVec.ofNat (8 * size) (leNat (Cells.readList k.ls a size))))))) ∧
      (∀ lo len, poolShare s.hi.n c = some (lo, len) → 0x10000000 + lo ≤ a → a < 0x10000000 + lo + len → a < 0x10400000 →
        exec i s = .next (stepped s c (k.wr rd (ext (BitVec.ofNat (8 * size) (leNat (Cells.readList (s.pool (c / 8)) (a - 0x10000000) size))))))) ∧
      (devBase ≤ a → a < devBase + 2 ^ 41 → k.winLo.toNat ≤ da → da < k.winHi.toNat →
        (∀ w l, k.findWay (da / 64) = some w → SMap.find k.cache (wayKey (da / 64) w) = some l →
          exec i s = .next (stepped s c ((k.noteLoad (da / 64)).wr rd (ext (l.data.extractLsb' (8 * (da % 64)) (8 * size)))))) ∧
        (k.findWay (da / 64) = none → k.miss = none →
          exec i s = .next (stepped s c { k.noteLoad (da / 64) with miss := some { line := da / 64, use := .load rd da size sgn } })))
    loads (.ldb c rd base imm) 1 true (BitVec.signExtend 64) ∧ loads (.ldbu c rd base imm) 1 false (BitVec.setWidth 64) ∧
    loads (.ldh c rd base imm) 2 true (BitVec.signExtend 64) ∧ loads (.ldhu c rd base imm) 2 false (BitVec.setWidth 64) ∧
    loads (.ldw c rd base imm) 4 true (BitVec.signExtend 64) ∧ loads (.ldwu c rd base imm) 4 false (BitVec.setWidth 64) ∧
    loads (.ldd c rd base imm) 8 false (BitVec.setWidth 64)

/-- R147, R196: a store changes exactly the bytes at its address, in local store, pool or the cached line (which becomes dirty); a store into the locked
Spillway region writes no byte and raises no exception; a store to a line that is not cached becomes the outstanding miss.
Completes: stb, sth, stw, std. -/
def Obligations.StoreResults : Prop :=
  ∀ (s : State) (c : Nat) (rs base : GReg) (imm : W16), issues s c { regs := [rs, base], isMem := true } = true →
    let k := s.core c
    let a := (k.rd base + imm.signExtend 64).toNat
    let da := a - devBase
    let locked := k.spstk.getLsbD 0 = true ∧ k.spill = false ∧ bits k.spstk 10 8 * 1024 ≤ a ∧ a < bits k.spstk 10 8 * 1024 + 1024
    let stores := fun (i : Instr) (size : Nat) => a % size = 0 →
      let bytes := leBytes size (k.rd rs).toNat
      (a < 0x40000 → ¬locked → exec i s = .next (stepped s c { k with ls := Cells.writeList k.ls a bytes })) ∧
      (a < 0x40000 → locked → exec i s = .next (stepped s c k)) ∧
      (∀ lo len, poolShare s.hi.n c = some (lo, len) → 0x10000000 + lo ≤ a → a < 0x10000000 + lo + len → a < 0x10400000 →
        exec i s = .next (stepped (s.setPool (c / 8) (Cells.writeList (s.pool (c / 8)) (a - 0x10000000) bytes)) c k)) ∧
      (devBase ≤ a → a < devBase + 2 ^ 41 → k.winLo.toNat ≤ da → da < k.winHi.toNat →
        (∀ w l, k.findWay (da / 64) = some w → SMap.find k.cache (wayKey (da / 64) w) = some l →
          ∃ d : W512, exec i s = .next (stepped s c { k with cache := SMap.set k.cache (wayKey (da / 64) w) { l with dirty := true, data := d } }) ∧
            ∀ j, j < 64 → lane 8 d j = if da % 64 ≤ j ∧ j < da % 64 + size then lane 8 (k.rd rs) (j - da % 64) else lane 8 l.data j) ∧
        (k.findWay (da / 64) = none → k.miss = none →
          exec i s = .next (stepped s c { k with miss := some { line := da / 64, use := .store da size (k.rd rs) } })))
    stores (.stb c rs base imm) 1 ∧ stores (.sth c rs base imm) 2 ∧ stores (.stw c rs base imm) 4 ∧ stores (.std c rs base imm) 8

/-- R148: an atomic leaves the old pool word in rd and its result in the pool; a misaligned address raises an alignment fault and an address outside the pool an
invalid-address fault. The major and func codes are R148's.
Completes: amoadd, amoswap, amocas, amoand, amoor, amomax, amomin. -/
def Obligations.AtomicResults : Prop :=
  ∀ (s : State) (c : Nat) (rd ra rb : GReg), issues s c { regs := [rd, ra, rb], isMem := true } = true →
    let k := s.core c
    let a := (k.rd ra).toNat
    let b := k.rd rb
    let old : W64 := BitVec.ofNat 64 (leNat (Cells.readList (s.pool (c / 8)) (a - 0x10000000) 8))
    let swaps := fun (i : Instr) (new : W64) =>
      (∀ lo len, a % 8 = 0 → poolShare s.hi.n c = some (lo, len) → 0x10000000 + lo ≤ a → a < 0x10000000 + lo + len → a < 0x10400000 →
        exec i s = .next (stepped (s.setPool (c / 8) (Cells.writeList (s.pool (c / 8)) (a - 0x10000000) (leBytes 8 new.toNat))) c (k.wr rd old))) ∧
      (a % 8 = 0 → a < 0x10000000 ∨ 0x10400000 ≤ a → stackGood k → exec i s = .next (entered s c (enteredKeeper k 4 (a % 2 ^ 32) k.pc 0 k.evec))) ∧
      (a % 8 ≠ 0 → stackGood k → exec i s = .next (entered s c (enteredKeeper k 3 (a % 2 ^ 32) k.pc 0 k.evec)))
    swaps (.amoadd c rd ra rb) (old + b) ∧ swaps (.amoswap c rd ra rb) b ∧ swaps (.amocas c rd ra rb) (if old = k.rd rd then b else old) ∧
    swaps (.amoand c rd ra rb) (old &&& b) ∧ swaps (.amoor c rd ra rb) (old ||| b) ∧
    swaps (.amomax c rd ra rb) (if old.toInt < b.toInt then b else old) ∧ swaps (.amomin c rd ra rb) (if b.toInt < old.toInt then b else old) ∧
    insnWord (.amoadd c rd ra rb) = 0x1C#6 ++ rd ++ ra ++ rb ++ 0#11 ∧ insnWord (.amoswap c rd ra rb) = 0x1C#6 ++ rd ++ ra ++ rb ++ 1#11 ∧
    insnWord (.amocas c rd ra rb) = 0x1C#6 ++ rd ++ ra ++ rb ++ 2#11 ∧ insnWord (.amoand c rd ra rb) = 0x1C#6 ++ rd ++ ra ++ rb ++ 3#11 ∧
    insnWord (.amoor c rd ra rb) = 0x1C#6 ++ rd ++ ra ++ rb ++ 4#11 ∧ insnWord (.amomax c rd ra rb) = 0x1C#6 ++ rd ++ ra ++ rb ++ 5#11 ∧
    insnWord (.amomin c rd ra rb) = 0x1C#6 ++ rd ++ ra ++ rb ++ 6#11

/-- R149: what cache maintenance does to the line of an address. In local store ZLINE writes 64 zero bytes and the others have no effect; in device memory ZLINE leaves the
line zero and dirty, CWB clean, CINV and CWBI absent; CINV alone writes nothing to memory. STRM starts the streamer over its range, SYNC ends with the write-back
buffer empty, IINVALL empties the instruction cache. Device memory is reached outside a re-sweep (R325).
Rests on the model's readings in log entries 19 and 92.
Completes: zline, cwb, cinv, cwbi, strm, sync, iinvall. -/
def Obligations.CacheInstructions : Prop :=
  (∀ (s : State) (c : Nat) (ra : GReg), issues s c { regs := [ra], isMem := true } = true →
     let k := s.core c
     let a := (k.rd ra).toNat
     let line := (a - devBase) / 64
     (a < 0x40000 →
       (k.spstk.getLsbD 0 = false → exec (.zline c ra) s = .next (stepped s c { k with ls := Cells.writeList k.ls (a / 64 * 64) (List.replicate 64 0) })) ∧
       exec (.cwb c ra) s = .next (stepped s c k) ∧ exec (.cinv c ra) s = .next (stepped s c k) ∧ exec (.cwbi c ra) s = .next (stepped s c k)) ∧
     (devBase ≤ a → a < devBase + 2 ^ 41 → k.winLo.toNat ≤ a - devBase → a - devBase < k.winHi.toNat → k.miss = none →
       s.mc.sweep = false →
       ∀ w l, k.findWay line = some w → SMap.find k.cache (wayKey line w) = some l →
         exec (.zline c ra) s = .next (stepped s c { k with cache := SMap.set k.cache (wayKey line w) { l with dirty := true, data := 0 } }) ∧
         (∃ t, exec (.cwb c ra) s = .next t ∧ SMap.find (t.core c).cache (wayKey line w) = some { l with dirty := false } ∧ (t.core c).wbuf = none) ∧
         exec (.cinv c ra) s = .next (stepped s c { k with cache := SMap.erase k.cache (wayKey line w) }) ∧
         (∃ t, exec (.cwbi c ra) s = .next t ∧ SMap.find (t.core c).cache (wayKey line w) = none ∧ (t.core c).wbuf = none))) ∧
  (∀ (s : State) (c : Nat) (ra rb : GReg),
     let k := s.core c
     let a := (k.rd ra).toNat
     let n := (k.rd rb).toNat
     let da := a - devBase
     (issues s c { regs := [ra, rb], isMem := true } = true → 1 ≤ n → n ≤ 2 ^ 24 → devBase ≤ a → a < devBase + 2 ^ 41 → k.winLo.toNat ≤ da →
       da < k.winHi.toNat →
       exec (.strm c ra rb) s = .next (stepped s c { k with strm := some { next := da / 64, stop := (da + n - 1) / 64 + 1, used := da / 64 } })) ∧
     (issues s c { isMem := true } = true → k.miss = none → s.mc.sweep = false →
       ∃ t, exec (.sync c) s = .next t ∧ (t.core c).wbuf = none ∧ (t.core c).pc = ((stepped s c k).core c).pc ∧ (t.core c).cache = k.cache) ∧
     (issues s c { keeperOnly := true } = true →
       exec (.iinvall c) s = .next (s.setCore c { (stepped s c k).core c with icache := [] })))

/-- R211, R212, R149: a fill ends the outstanding miss and performs the load from the line's bytes; a streamer fetch moves one line on and never past its range. R164,
R165: the oldest instruction of a unit writes its scalar results and leaves the wide queue when the unit completes it, once the producers of its operands have;
the others keep their order.
Rests on the model's readings in log entry 43.
Completes: cacheMissFill, streamerFetch, wideUnitComplete. -/
def Obligations.FillsAndWideQueue : Prop :=
  (∀ (s : State) (c : Nat), c < 98 →
     let k := s.core c
     (∀ line rd da size bs, k.miss = some { line := line, use := .load rd da size false } → k.wbuf = none → s.mc.sweep = false →
       (s.readLine (tagOfCore s.hi.n c) line).1 = some bs →
       ∃ t, exec (.cacheMissFill c []) s = .next t ∧ (t.core c).miss = none ∧
         (rd ≠ 0 → (t.core c).rd rd = BitVec.ofNat 64 ((BitVec.ofNat 512 (leNat bs)).toNat / 2 ^ (8 * (da % 64)) % 2 ^ (8 * size)))) ∧
     (∀ x, k.strm = some x → x.next < x.stop → x.next ≤ x.used + 16 → k.miss = none → k.act ≠ .halted → s.mc.sweep = false → k.inWindow (64 * x.next) = true →
       (k.findWay x.next).isSome = true →
       exec (.streamerFetch c) s = .next (s.setCore c { k with strm := some { x with next := x.next + 1 } })) ∧
     (∀ x, k.strm = some x → x.stop ≤ x.next → exec (.streamerFetch c) s = .next (s.setCore c { k with strm := none }))) ∧
  (∀ (s : State) (c : Nat) (u : WUnit) (before after : List WEntry) (e : WEntry), c < 98 →
     (s.core c).wq = before ++ e :: after → e.unit = u → (∀ x ∈ before, x.unit ≠ u) →
     ((∀ x ∈ before, ∀ r ∈ x.writes, r ∉ e.reads) →
       exec (.wideUnitComplete c u) s = .next (s.setCore c { e.dst.foldl (fun (k : Core) d => k.wr d.1 d.2) (s.core c) with wq := before ++ after })) ∧
     ((∃ x ∈ before, ∃ r ∈ x.writes, r ∈ e.reads) → exec (.wideUnitComplete c u) s = .next s))

/-! ## Wide instructions (spec/06) -/

/-- R170, R175, R161: elementwise integer operations at each size, both forms of the second operand; elements at VLN and above keep their values. R175, R176, R179: immediate
shifts, the transpose, the slide, and the element moves, whose scalar result waits in the wide queue for the unit (R165).
Rests on the model's readings in log entry 43.
Completes: wadd, wsub, wand, wor, wxor, wandn, wmin, wmax, wminu, wmaxu, wmul, wshl, wshr, wsar, wshli, wshri, wsari, wtrans, wslide, wmovx, wmovxs,
wins. -/
def Obligations.WideElementwise : Prop :=
  (∀ (s : State) (c : Nat) (sz : WSize) (wd wa : WReg) (b : WSrc),
     let r := elemRegs wd wa b
     issues s c { regs := r.g, isWide := true } = true →
     let k := s.core c
     let n := k.vln.toNat
     let w := wsizeBits sz
     n ≤ 4096 / w →
     let x := lane w (k.rdw wa)
     let y := second k w b
     let gives := fun (i : Instr) (u : WUnit) (f : Nat → BitVec w) => ∃ v, elementsAre w n (k.rdw wd) v f ∧
       exec i s = .next (stepped s c { k.wrw wd v with wq := queued k u false r.rs [wd] [] })
     gives (.wadd c sz wd wa b) .al (fun i => x i + y i) ∧
     gives (.wsub c sz wd wa b) .al (fun i => x i - y i) ∧
     gives (.wand c sz wd wa b) .al (fun i => x i &&& y i) ∧
     gives (.wor c sz wd wa b) .al (fun i => x i ||| y i) ∧
     gives (.wxor c sz wd wa b) .al (fun i => x i ^^^ y i) ∧
     gives (.wandn c sz wd wa b) .al (fun i => x i &&& ~~~(y i)) ∧
     gives (.wmin c sz wd wa b) .al (fun i => if (x i).toInt ≤ (y i).toInt then x i else y i) ∧
     gives (.wmax c sz wd wa b) .al (fun i => if (x i).toInt ≤ (y i).toInt then y i else x i) ∧
     gives (.wminu c sz wd wa b) .al (fun i => if (x i).toNat ≤ (y i).toNat then x i else y i) ∧
     gives (.wmaxu c sz wd wa b) .al (fun i => if (x i).toNat ≤ (y i).toNat then y i else x i) ∧
     gives (.wmul c sz wd wa b) .mu (fun i => x i * y i) ∧
     gives (.wshl c sz wd wa b) .al (fun i => x i <<< (y i).toNat) ∧
     gives (.wshr c sz wd wa b) .al (fun i => x i >>> (y i).toNat) ∧
     gives (.wsar c sz wd wa b) .al (fun i => (x i).sshiftRight (y i).toNat)) ∧
  (∀ (s : State) (c : Nat) (sz : WSize) (wd wa wb : WReg) (m : Byte) (g : GReg) (e : BitVec 9),
     let k := s.core c
     let n := k.vln.toNat
     let w := wsizeBits sz
     n ≤ 4096 / w →
     let x := lane w (k.rdw wa)
     let y := lane w (k.rdw wb)
     let gives := fun (i : Instr) (u : WUnit) (rs : List WReg) (f : Nat → BitVec w) => ∃ v, elementsAre w n (k.rdw wd) v f ∧
       exec i s = .next (stepped s c { k.wrw wd v with wq := queued k u false rs [wd] [] })
     (issues s c { isWide := true } = true →
       gives (.wshli c sz wd wa m) .al [wa] (fun i => x i <<< m.toNat) ∧
       gives (.wshri c sz wd wa m) .al [wa] (fun i => x i >>> m.toNat) ∧
       gives (.wsari c sz wd wa m) .al [wa] (fun i => (x i).sshiftRight m.toNat) ∧
       (1 ≤ m.toNat → m.toNat ≤ 6 → n % 2 ^ m.toNat = 0 →
         gives (.wtrans c sz wd wa m) .px [wa] (fun i => x (i % (n / 2 ^ m.toNat) * 2 ^ m.toNat + i / (n / 2 ^ m.toNat)))) ∧
       (m.toNat < n → gives (.wslide c sz wd wa wb m) .px [wa, wb] (fun i => if i + m.toNat < n then x (i + m.toNat) else y (i + m.toNat - n)))) ∧
     (issues s c { regs := [g], isWide := true } = true → e.toNat < n →
       exec (.wmovx c sz wa g e) s = .next (stepped s c { k with wq := queued k .px false [wa] [] [(g, (x e.toNat).setWidth 64)] }) ∧
       exec (.wmovxs c sz wa g e) s = .next (stepped s c { k with wq := queued k .px false [wa] [] [(g, (x e.toNat).signExtend 64)] }) ∧
       (∃ v, (∀ i, lane w v i = if i = e.toNat then (k.rd g).setWidth w else x i) ∧
         exec (.wins c sz wa g e) s = .next (stepped s c { k.wrw wa v with wq := queued k .px false [wa] [wa] [] }))))

/-- R170, R171: widening products and accumulations at twice the width, dot products into lanes of four times the width; wd overlaps neither source.
Rests on the model's readings in log entry 43.
Completes: wmulw, wmulwu, wmacw, wmacwu, wdot, wdotu. -/
def Obligations.WideWidening : Prop :=
  ∀ (s : State) (c : Nat) (sz : WSize) (wd wa wb : WReg), issues s c { isWide := true } = true → wd ≠ wa → wd ≠ wb →
    let k := s.core c
    let n := k.vln.toNat
    let w := wsizeBits sz
    let x := lane w (k.rdw wa)
    let y := lane w (k.rdw wb)
    let d := lane (2 * w) (k.rdw wd)
    let gives := fun (i : Instr) (u m : Nat) (f : Nat → BitVec u) => ∃ v, elementsAre u m (k.rdw wd) v f ∧
      exec i s = .next (stepped s c { k.wrw wd v with wq := queued k .mu false [wd, wa, wb] [wd] [] })
    let dot := fun (sgn : Bool) (j : Nat) => lane (4 * w) (k.rdw wd) j + BitVec.ofInt (4 * w) (((List.range 4).map (fun h =>
      if sgn then (x (4 * j + h)).toInt * (y (4 * j + h)).toInt else (((x (4 * j + h)).toNat * (y (4 * j + h)).toNat : Nat) : Int))).sum)
    (sz ≠ .d → n ≤ 4096 / (2 * w) →
      gives (.wmulw c sz wd wa wb) (2 * w) n (fun i => (x i).signExtend (2 * w) * (y i).signExtend (2 * w)) ∧
      gives (.wmulwu c sz wd wa wb) (2 * w) n (fun i => (x i).setWidth (2 * w) * (y i).setWidth (2 * w)) ∧
      gives (.wmacw c sz wd wa wb) (2 * w) n (fun i => d i + (x i).signExtend (2 * w) * (y i).signExtend (2 * w)) ∧
      gives (.wmacwu c sz wd wa wb) (2 * w) n (fun i => d i + (x i).setWidth (2 * w) * (y i).setWidth (2 * w))) ∧
    ((sz = .b ∨ sz = .h) → n ≤ 4096 / w →
      gives (.wdot c sz wd wa wb) (4 * w) (n / 4) (dot true) ∧ gives (.wdotu c sz wd wa wb) (4 * w) (n / 4) (dot false))

/-- R170, R171: compares write a bitmap, bitmap logic its bits, below VLN; WBCNT counts them for its scalar
register, which the unit writes (R165).
Rests on the model's readings in log entry 43.
Completes: wceq, wcne, wclt, wcge, wcltu, wcgeu, wcgt, wcle, wcgtu, wcleu, wband, wbor, wbandn, wbcnt. -/
def Obligations.WideBitmaps : Prop :=
  ∀ (s : State) (c : Nat) (sz : WSize) (wd wa wb : WReg) (b : WSrc) (g : GReg),
    let k := s.core c
    let n := k.vln.toNat
    let w := wsizeBits sz
    let x := lane w (k.rdw wa)
    let y := second k w b
    let p := (k.rdw wa).getLsbD
    let q := (k.rdw wb).getLsbD
    let r := elemRegs wd wa b
    let marks := fun (i : Instr) (rs : List WReg) (f : Nat → Bool) => ∃ v, elementsAre 1 n (k.rdw wd) v (fun j => BitVec.ofBool (f j)) ∧
      exec i s = .next (stepped s c { k.wrw wd v with wq := queued k .al false rs [wd] [] })
    (issues s c { regs := r.g, isWide := true } = true → n ≤ 4096 / w →
      marks (.wceq c sz wd wa b) r.rs (fun i => x i == y i) ∧ marks (.wcne c sz wd wa b) r.rs (fun i => x i != y i) ∧
      marks (.wclt c sz wd wa b) r.rs (fun i => (x i).slt (y i)) ∧ marks (.wcge c sz wd wa b) r.rs (fun i => (y i).sle (x i)) ∧
      marks (.wcltu c sz wd wa b) r.rs (fun i => (x i).ult (y i)) ∧ marks (.wcgeu c sz wd wa b) r.rs (fun i => (y i).ule (x i)) ∧
      marks (.wcgt c sz wd wa b) r.rs (fun i => (y i).slt (x i)) ∧ marks (.wcle c sz wd wa b) r.rs (fun i => (x i).sle (y i)) ∧
      marks (.wcgtu c sz wd wa b) r.rs (fun i => (y i).ult (x i)) ∧ marks (.wcleu c sz wd wa b) r.rs (fun i => (x i).ule (y i))) ∧
    (issues s c { isWide := true } = true → n ≤ 512 →
      marks (.wband c wd wa wb) [wa, wb] (fun i => p i && q i) ∧ marks (.wbor c wd wa wb) [wa, wb] (fun i => p i || q i) ∧ marks (.wbandn c wd wa wb) [wa, wb] (fun i => p i && !q i)) ∧
    (issues s c { regs := [g], isWide := true } = true → n ≤ 512 →
      exec (.wbcnt c wa g) s = .next (stepped s c { k with wq := queued k .px false [wa] [] [(g, BitVec.ofNat 64 ((List.range n).countP p))] }))

/-- R170, R172, R173, R176: the operations that move elements. WCOMPRESS packs the selected elements and zeroes the rest up to VLN; WBMRG exchanges the keys of
each pair that stands out of its order, and the values with them.
Rests on the model's readings in log entry 43.
Completes: wcompress, wiota, wbcast, wperm, wscan, whash, wbmrg, wbmrgu. -/
def Obligations.WidePermutations : Prop :=
  ∀ (s : State) (c : Nat) (sz : WSize) (wd wa wb : WReg) (g : GReg) (d q : BitVec 4),
    let k := s.core c
    let n := k.vln.toNat
    let w := wsizeBits sz
    n ≤ 4096 / w →
    let x := lane w (k.rdw wa)
    let y := lane w (k.rdw wb)
    let key := lane w (k.rdw wd)
    let sel := (List.range n).filter (fun i => (k.rdw wb).getLsbD i)
    let gives := fun (i : Instr) (u : WUnit) (rs : List WReg) (f : Nat → BitVec w) => ∃ v, elementsAre w n (k.rdw wd) v f ∧
      exec i s = .next (stepped s c { k.wrw wd v with wq := queued k u false rs [wd] [] })
    let dist := 2 ^ d.toNat
    let from_ := fun (less : BitVec w → BitVec w → Bool) (i : Nat) =>
      let lo := if i / dist % 2 = 0 then i else i - dist
      let descending := q.toNat ≤ 9 ∧ lo / 2 ^ q.toNat % 2 = 1
      let swap := lo + dist < n ∧ (if descending then less (key lo) (key (lo + dist)) else less (key (lo + dist)) (key lo)) = true
      if swap then (if i / dist % 2 = 0 then i + dist else i - dist) else i
    let merges := fun (i alone : Instr) (less : BitVec w → BitVec w → Bool) =>
      (∃ v, elementsAre w n (k.rdw wd) v (fun j => key (from_ less j)) ∧
        exec alone s = .next (stepped s c { k.wrw wd v with wq := queued k .px false [wd, wd] [wd, wd] [] })) ∧
      (wa ≠ wd → ∃ v u, elementsAre w n (k.rdw wd) v (fun j => key (from_ less j)) ∧ elementsAre w n (k.rdw wa) u (fun j => x (from_ less j)) ∧
        exec i s = .next (stepped s c { (k.wrw wd v).wrw wa u with wq := queued k .px false [wd, wa] [wd, wa] [] }))
    (issues s c { isWide := true } = true →
      gives (.wperm c sz wd wa wb) .px [wa, wb] (fun i => x ((y i).toNat % n)) ∧
      (dist < n → (q.toNat ≤ 9 ∨ q.toNat = 15) → 
        merges (.wbmrg c sz wd wa d q) (.wbmrg c sz wd wd d q) BitVec.slt ∧ merges (.wbmrgu c sz wd wa d q) (.wbmrgu c sz wd wd d q) BitVec.ult)) ∧
    (issues s c { regs := [g], isWide := true } = true →
      gives (.wiota c sz wd g) .al [] (fun i => (k.rd g + BitVec.ofNat 64 i).setWidth w) ∧
      gives (.wbcast c sz wd g) .al [] (fun _ => (k.rd g).setWidth w) ∧
      gives (.wscan c sz wd wa g) .px [wa] (fun i => (k.rd g).setWidth w + ((List.range (i + 1)).map x).sum) ∧
      (∃ v, elementsAre w n (k.rdw wd) v (fun i => if i < sel.length then x (sel.getD i 0) else 0) ∧
        exec (.wcompress c sz wd wa wb g) s =
          .next (stepped s c { k.wrw wd v with wq := queued k .px false [wa, wb] [wd] [(g, BitVec.ofNat 64 sel.length)] })) ∧
      (sz = .d → n ≤ 64 → ∃ v, elementsAre 64 n (k.rdw wd) v (fun i =>
          let h := (lane 64 (k.rdw wa) i ^^^ k.rd g) * 0x9E3779B97F4A7C15
          let h := (h ^^^ (h >>> 31)) * 0x8F3A52C61B7DE4A9
          h ^^^ (h >>> 29)) ∧
        exec (.whash c sz wd wa g) s = .next (stepped s c { k.wrw wd v with wq := queued k .mu false [wa] [wd] [] })))

/-- R170, R165: the integer reductions write one scalar when their unit completes them; the extreme is an element that no other exceeds; WREDADD128 adds the elements, as signed numbers, to the 128-bit pair
g(s+1):g(s).
Rests on the model's readings in log entry 43.
Completes: wredadd, wredaddu, wredmin, wredmax, wredminu, wredmaxu, wredadd128. -/
def Obligations.WideReductions : Prop :=
  (∀ (s : State) (c : Nat) (sz : WSize) (wa : WReg) (g : GReg), issues s c { regs := [g], isWide := true } = true →
     let k := s.core c
     let n := k.vln.toNat
     let w := wsizeBits sz
     0 < n → n ≤ 4096 / w →
     let x := lane w (k.rdw wa)
     let reduces := fun (i : Instr) (v : W64) => exec i s = .next (stepped s c { k with wq := queued k .px false [wa] [] [(g, v)] })
     let extreme := fun (i : Instr) (le : BitVec w → BitVec w → Bool) (ext : BitVec w → W64) =>
       ∃ e, e < n ∧ (∀ j, j < n → le (x e) (x j) = true) ∧ reduces i (ext (x e))
     reduces (.wredadd c sz wa g) (BitVec.ofInt 64 (((List.range n).map (fun j => (x j).toInt)).sum)) ∧
     reduces (.wredaddu c sz wa g) (BitVec.ofNat 64 (((List.range n).map (fun j => (x j).toNat)).sum)) ∧
     extreme (.wredmin c sz wa g) BitVec.sle (BitVec.signExtend 64) ∧
     extreme (.wredmax c sz wa g) (fun p q => q.sle p) (BitVec.signExtend 64) ∧
     extreme (.wredminu c sz wa g) BitVec.ule (BitVec.setWidth 64) ∧
     extreme (.wredmaxu c sz wa g) (fun p q => q.ule p) (BitVec.setWidth 64)) ∧
  (∀ (s : State) (c : Nat) (wa : WReg) (g : GReg), g ≠ 31 → issues s c { regs := [g, g + 1], isWide := true } = true →
     let k := s.core c
     let n := k.vln.toNat
     n ≤ 64 →
     let sum : W128 := (k.rd (g + 1) ++ k.rd g) + ((List.range n).map (fun j => (lane 64 (k.rdw wa) j).signExtend 128)).sum
     exec (.wredadd128 c .d wa g) s = .next (stepped s c
       { k with wq := queued k .px false [wa] [] [(g, sum.setWidth 64), (g + 1, (sum >>> 64).setWidth 64)] }))

/-- R174: float elementwise operations and compares act on elements 0 to VLN - 1; a NaN operand of an addition, subtraction or multiplication gives the
canonical quiet NaN and no compare holds on it; WFMIN and WFMAX return the operand that is not a NaN; WFREDADD adds in ascending order into binary64.
Rests on the model's readings in log entry 43.
Completes: wfredadd, wfadd, wfsub, wfmul, wfmin, wfmax, wfclt, wfcle, wfceq. -/
def Obligations.WideFloat : Prop :=
  ∀ (s : State) (c : Nat) (sz : WSize) (wd wa : WReg) (b : WSrc) (g : GReg), sz = .w ∨ sz = .d →
    let k := s.core c
    let n := k.vln.toNat
    let w := wsizeBits sz
    n ≤ 4096 / w →
    let r := elemRegs wd wa b
    let x := fun i => (lane w (k.rdw wa) i).toNat
    let y := fun i => (second k w b i).toNat
    let nan := fun (z : Nat) => floatExpMax w * 2 ^ floatFrac w < z % 2 ^ (w - 1)
    let quiet := BitVec.ofNat w (floatExpMax w * 2 ^ floatFrac w + 2 ^ (floatFrac w - 1))
    let computes := fun (i : Instr) (u : WUnit) (f : Nat → Nat → Nat → Nat) => ∃ v,
      elementsAre w n (k.rdw wd) v (fun j => BitVec.ofNat w (f w (x j) (y j))) ∧
      (∀ j, j < n → (nan (x j) ∨ nan (y j)) → lane w v j = quiet) ∧
      exec i s = .next (stepped s c { k.wrw wd v with wq := queued k u false r.rs [wd] [] })
    let picks := fun (i : Instr) (f : Nat → Nat → Nat → Nat) => ∃ v,
      elementsAre w n (k.rdw wd) v (fun j => BitVec.ofNat w (f w (x j) (y j))) ∧
      (∀ j, j < n → (nan (x j) → nan (y j) → lane w v j = quiet) ∧ (nan (x j) → ¬nan (y j) → lane w v j = BitVec.ofNat w (y j)) ∧
        (¬nan (x j) → nan (y j) → lane w v j = BitVec.ofNat w (x j)) ∧
        (¬nan (x j) → ¬nan (y j) → lane w v j = BitVec.ofNat w (x j) ∨ lane w v j = BitVec.ofNat w (y j))) ∧
      exec i s = .next (stepped s c { k.wrw wd v with wq := queued k .al false r.rs [wd] [] })
    let compares := fun (i : Instr) (f : Nat → Nat → Nat → Bool) => ∃ v,
      elementsAre 1 n (k.rdw wd) v (fun j => BitVec.ofBool (f w (x j) (y j))) ∧
      (∀ j, j < n → (nan (x j) ∨ nan (y j)) → lane 1 v j = 0) ∧
      exec i s = .next (stepped s c { k.wrw wd v with wq := queued k .al false r.rs [wd] [] })
    (issues s c { regs := r.g, isWide := true } = true →
      computes (.wfadd c sz wd wa b) .al fltAdd ∧ computes (.wfsub c sz wd wa b) .al fltSub ∧ computes (.wfmul c sz wd wa b) .mu fltMul ∧
      picks (.wfmin c sz wd wa b) fltMin ∧ picks (.wfmax c sz wd wa b) fltMax ∧
      compares (.wfclt c sz wd wa b) fltLt ∧ compares (.wfcle c sz wd wa b) fltLe ∧ compares (.wfceq c sz wd wa b) fltEq) ∧
    (issues s c { regs := [g], isWide := true } = true →
      exec (.wfredadd c sz wa g) s = .next (stepped s c { k with wq := queued k .px false [wa] [] [(g, BitVec.ofNat 64
        ((List.range n).foldl (fun acc j => fltAdd 64 acc (fltWiden w (x j))) (k.rd g).toNat))] }))

/-- R177, R178, R185: wide loads from local store and the pool share: the elements from VRES on are loaded from their addresses, the others keep their values; each
element's address is aligned to its own width; WGATHER reads its indices as .W unsigned. R182, R183: a load that stops at element e has loaded the elements below it and
none from it on, and the exception has ERA at the instruction and EST.VRES equal to e (shown for WLDS with a misaligned element).
Rests on the model's readings in log entry 43.
Completes: wld, wlds, wldz, wldx, wgather, wldb. -/
def Obligations.WideLoads : Prop :=
  (∀ (s : State) (c : Nat) (sz : WSize) (wv wi : WReg) (ga gb : GReg),
     let k := s.core c
     let n := k.vln.toNat
     let w := wsizeBits sz
     let nearBytes := fun (a size : Nat) =>
       if a < 0x40000 then leNat (Cells.readList k.ls a size) else leNat (Cells.readList (s.pool (c / 8)) (a - 0x10000000) size)
     let near := fun (a size : Nat) => a % size = 0 ∧ (a < 0x40000 ∨
       (∃ lo len, poolShare s.hi.n c = some (lo, len) ∧ 0x10000000 + lo ≤ a ∧ a < 0x10000000 + lo + len ∧ a < 0x10400000))
     let loads := fun (i : Instr) (regs : List GReg) (rs : List WReg) (m u size : Nat) (addr : Nat → W64) (ext : Nat → BitVec u) =>
       issues s c { regs := regs, isWide := true, isMem := true, resumable := true } = true →
       (∀ j, k.vres.toNat ≤ j → j < m → near (addr j).toNat size) →
       ∃ v, (∀ j, lane u v j = if k.vres.toNat ≤ j ∧ j < m then ext (nearBytes (addr j).toNat size) else lane u (k.rdw wv) j) ∧
         exec i s = .next (stepped s c { k.wrw wv v with wq := queued k .ls true rs [wv] [] })
     (n ≤ 4096 / w →
       loads (.wld c sz wv ga) [ga] [] n w (w / 8) (fun j => k.rd ga + BitVec.ofNat 64 (j * (w / 8))) (BitVec.ofNat w) ∧
       loads (.wlds c sz wv ga gb) [ga, gb] [] n w (w / 8) (fun j => k.rd ga + BitVec.ofNat 64 j * k.rd gb) (BitVec.ofNat w) ∧
       (sz ≠ .b →
         loads (.wldz c sz wv ga) [ga] [] n w (w / 16) (fun j => k.rd ga + BitVec.ofNat 64 (j * (w / 16))) (BitVec.ofNat w) ∧
         loads (.wldx c sz wv ga) [ga] [] n w (w / 16) (fun j => k.rd ga + BitVec.ofNat 64 (j * (w / 16)))
           (fun z => (BitVec.ofNat (w / 2) z).signExtend w)) ∧
       (wi ≠ wv → n ≤ 128 →
         loads (.wgather c sz wv wi ga) [ga] [wi] n w (w / 8) (fun j => k.rd ga + BitVec.ofNat 64 ((lane 32 (k.rdw wi) j).toNat * (w / 8))) (BitVec.ofNat w))) ∧
     (n ≤ 512 → loads (.wldb c wv ga) [ga] [] (n / 8) 8 1 (fun j => k.rd ga + BitVec.ofNat 64 j) (BitVec.ofNat 8))) ∧
  (∀ (s : State) (c : Nat) (sz : WSize) (wv : WReg) (ga gb : GReg) (e : Nat),
     issues s c { regs := [ga, gb], isWide := true, isMem := true, resumable := true } = true → stackGood (s.core c) →
     let k := s.core c
     let n := k.vln.toNat
     let w := wsizeBits sz
     let addr := fun (j : Nat) => (k.rd ga + BitVec.ofNat 64 j * k.rd gb).toNat
     n ≤ 4096 / w → k.vres.toNat ≤ e → e < n → addr e % (w / 8) ≠ 0 →
     (∀ j, k.vres.toNat ≤ j → j < e → addr j % (w / 8) = 0 ∧ addr j < 0x40000) →
     ∃ v, (∀ j, lane w v j = if k.vres.toNat ≤ j ∧ j < e then BitVec.ofNat w (leNat (Cells.readList k.ls (addr j) (w / 8))) else lane w (k.rdw wv) j) ∧
       exec (.wlds c sz wv ga gb) s = .next (entered s c (enteredKeeper (k.wrw wv v) 3 (addr e % 2 ^ 32) k.pc e k.evec)))

/-- R177, R178, R185: wide stores to local store outside a locked Spillway region: the elements from VRES on, in ascending order, at their addresses; WCSTORE
packs the marked elements and leaves their count for gb, written when the unit completes it (R165).
Rests on the model's readings in log entries 43, 44 and 95.
Completes: wst, wsts, wscatter, wcstore, wstb. -/
def Obligations.WideStores : Prop :=
  ∀ (s : State) (c : Nat) (sz : WSize) (wv wi : WReg) (ga gb : GReg), (s.core c).spstk.getLsbD 0 = false →
    let k := s.core c
    let n := k.vln.toNat
    let w := wsizeBits sz
    let bit := (k.rdw wi).getLsbD
    let stores := fun (i : Instr) (regs : List GReg) (rs : List WReg) (dst : List (GReg × W64)) (elems : List Nat) (u size : Nat) (addr : Nat → W64) =>
      issues s c { regs := regs, isWide := true, isMem := true, resumable := true } = true →
      (∀ j ∈ elems, k.vres.toNat ≤ j → (addr j).toNat % size = 0 ∧ (addr j).toNat < 0x40000) →
      exec i s = .next (stepped s c { k with
        ls := (elems.filter (fun j => decide (k.vres.toNat ≤ j))).foldl
          (fun m j => Cells.writeList m (addr j).toNat (leBytes size (lane u (k.rdw wv) j).toNat)) k.ls,
        wq := queued k .ls true rs [] dst })
    (n ≤ 4096 / w →
      stores (.wst c sz wv ga) [ga] [wv] [] (List.range n) w (w / 8) (fun j => k.rd ga + BitVec.ofNat 64 (j * (w / 8))) ∧
      stores (.wsts c sz wv ga gb) [ga, gb] [wv] [] (List.range n) w (w / 8) (fun j => k.rd ga + BitVec.ofNat 64 j * k.rd gb) ∧
      (n ≤ 128 → stores (.wscatter c sz wv wi ga) [ga] [wi, wv] [] (List.range n) w (w / 8)
        (fun j => k.rd ga + BitVec.ofNat 64 ((lane 32 (k.rdw wi) j).toNat * (w / 8)))) ∧
      stores (.wcstore c sz wv wi ga gb) [ga, gb] [wv, wi] [(gb, BitVec.ofNat 64 ((List.range n).countP bit))] ((List.range n).filter bit) w (w / 8)
        (fun j => k.rd ga + BitVec.ofNat 64 ((List.range j).countP bit * (w / 8)))) ∧
    (n ≤ 512 → stores (.wstb c wv ga) [ga] [wv] [] (List.range (n / 8)) 8 1 (fun j => k.rd ga + BitVec.ofNat 64 j))

/-- R160, R169, R170, R174, R178: a VLN above an instruction's limit, a size it does not list, overlapping operands and an element at VLN or above raise an
illegal-instruction fault at issue, entered as R192 says. -/
def Obligations.IllegalForms : Prop :=
  ∀ (s : State) (c : Nat) (wd wa wb : WReg) (b : WSrc) (g : GReg) (e : BitVec 9), reaches s c = true → stackGood (s.core c) →
    let k := s.core c
    let traps := fun (i : Instr) => exec i s = .next (entered s c (enteredKeeper k 1 (insnWord i).toNat k.pc 0 k.evec))
    (64 < k.vln.toNat → traps (.wadd c .d wd wa b) ∧ traps (.wld c .d wd g) ∧ traps (.wmulw c .w wd wa wb) ∧ traps (.whash c .d wd wa g)) ∧
    (256 < k.vln.toNat → traps (.wceq c .h wd wa b) ∧ traps (.wmacwu c .b wd wa wb)) ∧
    (128 < k.vln.toNat → traps (.wscatter c .b wd wa g)) ∧
    traps (.wdot c .w wd wa wb) ∧ traps (.wmulw c .d wd wa wb) ∧ traps (.wfadd c .h wd wa b) ∧ traps (.wredadd128 c .w wa g) ∧
    traps (.wredadd128 c .d wa 31) ∧ traps (.wldz c .b wd g) ∧ traps (.wmulw c .b wd wd wb) ∧ traps (.wgather c .d wd wd g) ∧
    (k.vln.toNat ≤ e.toNat → traps (.wmovx c .d wa g e) ∧ traps (.wins c .d wa g e))

/-! ## Headgate (spec/04) and queries (spec/03) -/

/-- R114, R116, R109: TAKE blocks its core with the streamer ways empty; DISPATCH pairs a core blocked in TAKE with a ready item of its instance, writes the
descriptor to g16 to g23 and completes the TAKE, and changes no other core. With no pairing nothing changes.
Completes: take, dispatch. -/
def Obligations.TakeAndDispatch : Prop :=
  (∀ (s : State) (c : Nat), issues s c { regs := [16, 17, 18, 19, 20, 21, 22, 23], keeperOnly := true, notLoopEnd := true, drains := true } = true → s.mc.sweep = false →
    ∃ t, exec (.take c) s = .next t ∧ (t.core c).act = .taking s.now ∧ (t.core c).pc = (s.core c).pc ∧ (t.core c).item = none ∧ (t.core c).strm = none ∧
      (∀ line w, w < 8 → (s.core c).waysP.getLsbD w = true → SMap.find (t.core c).cache (wayKey line w) = none)) ∧
  (∀ (s : State), s.engineUp = true → (∀ i, i < s.hi.n → s.pumpIngest i = s) →
    let start := match s.hg.lastInst with
      | some l => l + 1
      | none => 0
    let turn := (List.range s.hi.n).map (fun k => (start + k) % s.hi.n)
    let first := turn.findSome? (fun i => (s.pairing i).map (fun p => (i, p)))
    (first = none → exec .dispatch s = .next s) ∧
    (∀ i c slot it, first = some (i, c, slot, it) → ∃ t, exec .dispatch s = .next t ∧
      (slot, it) ∈ s.hg.items ∧ it.inst = i ∧ it.ready = true ∧ c ∈ coresOf s.hi.n i ∧ (∃ since, (s.core c).act = .taking since) ∧
      (t.core c).act = .running ∧ (t.core c).pc = (s.core c).pc + 4 ∧ (t.core c).item = some (slot, it.nextRun) ∧
      (t.core c).rd 16 = it.word0 slot it.nextRun ∧ (t.core c).rd 17 = (if it.rmode then it.flags &&& it.mask else 0) ∧
      (t.core c).rd 18 = it.w2 ∧ (t.core c).rd 19 = it.w3 ∧ (t.core c).rd 20 = it.w4 ∧ (t.core c).rd 21 = it.w5 ∧
      (t.core c).rd 22 = leaseWord (it.run it.nextRun).lease ∧ (t.core c).rd 23 = BitVec.ofNat 64 it.stamp ∧
      (t.stat i).disp = (s.stat i).disp + 1 ∧ (∀ d, d ≠ c → t.core d = s.core d) ∧ t.pools = s.pools ∧ t.mc = s.mc))

/-- R116, R117, R119, R91, R152, R180: a POST stages its entry in a flume that has room and stalls its core otherwise, until POST_RESUME finds room; a SIGNAL is
staged; a send adds its tuple to the sender's open parcel of its buffer once the injection port accepts it, and stalls its core until then. The instruction then retires.
Rests on the model's readings in log entries 25, 26 and 96.
Completes: post, postResume, signal, dsend, dsendResume, wdsend. -/
def Obligations.PostsSignalsAndSends : Prop :=
  ∀ (s : State) (c slot : Nat) (twin : Bool) (it : Item), c < 98 → s.runOf c = some (slot, twin, it) →
    let k := s.core c
    let r := it.run twin
    let onward := ((stepped s c k).core c).pc
    let posted := fun (i : Instr) (f : Nat) (x : Flume) (sel : Bool) (w1 w2 : W64) => ∃ t, exec i s = .next t ∧
      t.flume? f = some { x with staged := x.staged + 1 } ∧
      t.item? slot = some (it.setRun twin { r with posts := r.posts ++ [{ flume := f, sel := sel, w1 := w1, w2 := w2 }] }) ∧
      (t.core c).pc = onward ∧ (t.core c).act = .running ∧ (∀ d, d ≠ c → t.core d = s.core d)
    (∀ sel f x, it.output sel = some f → s.doomed it = false → s.flume? f = some x →
      (∀ ra rb, issues s c { regs := [ra, rb] } = true →
        (x.full = false → posted (.post c sel ra rb) f x sel (k.rd ra) (k.rd rb)) ∧
        (x.full = true → exec (.post c sel ra rb) s = .next (s.setCore c { k with act := .stalled s.now (.post sel (k.rd ra) (k.rd rb)) }))) ∧
      (∀ since w1 w2, k.act = .stalled since (.post sel w1 w2) →
        (x.full = false → posted (.postResume c) f x sel w1 w2) ∧ (x.full = true → exec (.postResume c) s = .next s))) ∧
    (∀ ra rb, issues s c { regs := [ra, rb] } = true → ∃ t, exec (.signal c ra rb) s = .next t ∧
      t.item? slot = some (it.setRun twin { r with signals := r.signals ++ [{ slot := (k.rd ra).toNat, mask := k.rd rb }] }) ∧ (t.core c).pc = onward) ∧
    (∀ (q : Query) (x : Byte) (tuple : List Byte) (p : Parcel), s.query? it.ctx = some q → q.status = none → x ≠ 0xFF → bits it.w4 32 8 = x.toNat →
      let n := exTuple (exchEnt q.code x.toNat)
      let key := fieldLE tuple 0 2
      0 < n → n % 8 = 0 → tuple.length = n → p.spilled = false →
      q.parcels.find? (fun y => y.inBuf x.toNat (localCluster s.hi.n q.clusters.length key) (key % exBufs (exchEnt q.code x.toNat)) && y.slot == slot && y.state == 0
        && decide (y.tuples.length < 224 / n)) = some p → s.injects c n = true →
      let sends := fun (i : Instr) => ∃ t q', exec i s = .next t ∧ t.query? it.ctx = some q' ∧ { p with tuples := p.tuples ++ [tuple] } ∈ q'.parcels ∧
        (t.act it.inst).dist = (s.act it.inst).dist + n ∧ (t.core c).pc = onward
      (∀ ra : GReg, ra.toNat + n / 8 ≤ 32 → issues s c { regs := tupleRegs ra n } = true → tuple = ((tupleRegs ra n).map (fun g => bytesOf (k.rd g))).flatten →
        sends (.dsend c ra x)) ∧
      (∀ w : WReg, issues s c { isWide := true } = true → k.vln.toNat * 8 = n → tuple = leBytes n (k.rdw w).toNat → sends (.wdsend c w x)) ∧
      (∀ since wide, k.act = .stalled since (.send x.toNat wide tuple) → sends (.dsendResume c))) ∧
    (∀ (q : Query) (x : Byte), s.query? it.ctx = some q → x ≠ 0xFF → bits it.w4 32 8 = x.toNat →
      let n := exTuple (exchEnt q.code x.toNat)
      let bytes := fun (ra : GReg) => ((tupleRegs ra n).map (fun g => bytesOf (k.rd g))).flatten
      0 < n → n % 8 = 0 → s.injects c n = false →
      (∀ ra : GReg, ra.toNat + n / 8 ≤ 32 → issues s c { regs := tupleRegs ra n } = true →
        exec (.dsend c ra x) s = .next (s.setCore c { k with act := .stalled s.now (.send x.toNat false (bytes ra)) })) ∧
      (∀ since wide ra, ra.toNat + n / 8 ≤ 32 → k.act = .stalled since (.send x.toNat wide (bytes ra)) → exec (.dsendResume c) s = .next s))

/-- R84, R112, R116, R118: how an item ends. A failing DONE frees the slot and gives its status to the query; PARK sets MASK, WAITALL and the next phase and
requeues the item in its cluster; any other DONE waits for COMMIT, which frees the slot and publishes the posts. After each but the wait the core is in keeper
mode at the dispatch loop.
Rests on the model's readings in log entries 21 and 25.
Completes: doneItem, commit, park, doneFail. -/
def Obligations.ItemEnds : Prop :=
  let looped := fun (t : State) (c : Nat) => (t.core c).pc = Config.dispatchLoop ∧ (t.core c).keeper = true ∧ (t.core c).item = none ∧ (t.core c).act = .running
  (∀ (s : State) (c slot : Nat) (twin : Bool) (it : Item) (ra rb : GReg), s.runOf c = some (slot, twin, it) → it.append = none →
    issues s c { regs := [ra, rb], notLoopEnd := true, drains := true } = true → (s.core c).miss = none → s.mc.sweep = false →
    let a := (s.core c).rd ra
    let b := (s.core c).rd rb
    let st : W16 := a.setWidth 16
    (∀ q, st.toNat / 256 ≠ 0 → s.query? it.ctx = some q → q.status = none → q.fin = false → ∀ i ∈ [Instr.doneItem c ra rb, .doneFail c ra rb],
      ∃ t q', exec i s = .next t ∧ looped t c ∧ t.item? slot = none ∧ t.query? it.ctx = some q' ∧ q'.status = some st) ∧
    (st.toNat / 256 = 0 → a.getLsbD 16 = true → it.rmode = true → it.mirror = false → it.phase ≠ 15 → s.doomed it = false →
      ∀ i ∈ [Instr.doneItem c ra rb, .park c ra rb], ∃ t, exec i s = .next t ∧ looped t c ∧ t.item? slot = some
        { it with mask := b, waitall := a.getLsbD 17, phase := it.phase + 1, isParked := true, parked := some (c / 8), stamp := s.now,
                  prim := { it.prim with state := .waiting } }) ∧
    (st.toNat / 256 = 0 → a.getLsbD 16 = false → it.mirror = false → ∃ t, exec (.doneItem c ra rb) s = .next t ∧ (t.core c).act = .inDone ∧
      (t.core c).pc = (s.core c).pc ∧ t.item? slot = some (it.setRun twin { it.run twin with status := st, sig := b, state := .committing c }))) ∧
  (∀ (s : State) (slot c : Nat) (it : Item) (q : Query) (p : Post) (x : Flume), slot < 65536 → s.item? slot = some it → it.prim.state = .committing c →
    it.twin = none → it.append = none → s.mc.sweep = false → s.hasJobs slot = false → s.query? it.ctx = some q → q.status = none →
    it.prim.posts = [p] → p.w2.getLsbD 63 = false → s.flume? p.flume = some x → x.image ≠ imgResult q.code →
    ∃ t, exec (.commit slot) s = .next t ∧ looped t c ∧ t.item? slot = none ∧
      t.flume? p.flume = some { x with staged := x.staged - 1, posts := x.posts ++ [(p.w1, p.w2, none)] })

/-- R83, R88, R93, R108, R109, R120: the items that Headgate creates, each in the instance's lowest free slot with the words of R109; a flume entry is consumed by
its item; a full flume of a stalled instance with a core that waits on a full flume gains one arena page.
Rests on the model's readings in log entry 15.
Completes: rootItemCreate, flumeItemCreate, exchItemCreate, barrierItemCreate, flumeExtend. -/
def Obligations.ItemCreation : Prop :=
  ∀ (s : State) (ctx : Nat) (q : Query), ctx < 1536 → s.query? ctx = some q → q.status = none → q.fin = false →
    let ent := stageEnt q.code
    let room := fun (st : Nat) => (s.freeSlot q.inst).isSome = true ∧ (q.grantTwin (stPages (ent st)) (stMirror (ent st))).isSome = true
    let made := fun (i : Instr) (st : Nat) (w2 w3 : W64) (bound handed : Option Nat) (p : State → Prop) => ∃ t slot it, exec i s = .next t ∧
      s.freeSlot q.inst = some slot ∧ t.item? slot = some it ∧ it.inst = q.inst ∧ it.ctx = ctx ∧ it.stage = st ∧ it.prio = stPrio (ent st) ∧
      it.rmode = stRmode (ent st) ∧ it.w2 = w2 ∧ it.w3 = w3 ∧ it.w4 = outWord q (ent st) ∧ it.w5 = BitVec.ofNat 64 (devBase + q.paramDa) ∧ it.stamp = s.now ∧
      it.phase = 0 ∧ it.replays = 0 ∧ it.flags = 0 ∧ it.mask = 0 ∧ it.prim.state = .waiting ∧ it.bound = bound ∧ it.handed = handed ∧ p t
    (∀ st m ms, slotsPer s.hi.n ≤ 8 * (slotsPer s.hi.n - s.slotsUsed q.inst) → nextRoot q = some (st, m, ms) →
      s.morselLost q (scanEnt q.code (stIn (ent st))) m = false → s.morselReady q.inst m = true → room st →
      made (.rootItemCreate ctx) st (BitVec.ofNat 64 (devBase + m.da)) (BitVec.ofNat 64 (m.rows + m.no * 2 ^ 32)) none none
        (fun t => ∃ q', t.query? ctx = some q' ∧ q'.morsels = q.morsels.map (fun e => if e.1 = st then (st, ms) else e))) ∧
    (∀ f x w1 w2 h rest, f < 4096 → s.flume? f = some x → x.ctx = ctx → x.posts = (w1, w2, h) :: rest → x.image ≠ imgResult q.code →
      let st := fieldLE (flumeEnt q.code x.image) 1 1
      room st → made (.flumeItemCreate f) st w1 w2 none h (fun t => t.flume? f = some { x with posts := rest })) ∧
    (∀ st cl b, stagesOf q.code 2 = [st] → (∀ x ∈ inputsOf (ent st), ∀ y ∈ senders q.code x, s.drained ctx y = true) → partitions q (ent st) = [(cl, b)] →
      q.exchMade = [] → room st → made (.exchItemCreate ctx) st (BitVec.ofNat 64 (b + cl * 2 ^ 16)) 0 q.clusters[cl]? none (fun _ => True)) ∧
    (∀ st, stagesOf q.code 3 = [st] → (∀ y, y < 64 → (stWaits (ent st)).testBit y = true → s.drained ctx y = true) → q.barrierMade = [] → room st →
      made (.barrierItemCreate ctx) st 0 0 none none (fun _ => True)) ∧
    (∀ i f x l q1, i < 24 → s.liveCores i ≠ [] → (∀ c ∈ s.liveCores i, stalledSend (s.core c) = true) → (∃ c ∈ s.liveCores i, s.postBlocked c = true) →
      s.hg.flumes.filter (fun e => e.2.inst == i) = [(f, x)] → s.flume? f = some x → x.ctx = ctx → x.full = true → q.grant 1 = some (some l, q1) →
      ∃ t, exec (.flumeExtend i) s = .next t ∧ t.flume? f = some { x with pages := l.da :: x.pages } ∧ t.hg.flspill = satInc s.hg.flspill)

/-- R84, R103, R261, R350: a result range goes to the host buffer where it fits, whole and in order; a query whose stages have drained completes with OK and the
bytes written; a segment that a query waits for is read back into memory.
Rests on the model's readings in log entry 15.
Completes: resultWrite, queryComplete, segmentReadComplete. -/
def Obligations.QueryResults : Prop :=
  (∀ (s : State) (ctx : Nat) (q : Query) (links : List HostBuf) (x : Flume) (w1 w2 : W64) (h : Option Nat) (rest : List (W64 × W64 × Option Nat)) (bs : List Byte),
    ctx < 1536 → s.query? ctx = some q → q.status = none → q.fin = false → imgStreamOut q.code = false → s.mc.sweep = false →
    let f := q.flumes.getD (imgResult q.code) 0
    s.flume? f = some x → x.posts = (w1, w2, h) :: rest → (s.readMem q.inst w1.toNat (bits w2 0 32)).1 = some bs → bs ≠ [] → bs.length ≤ q.dest.2.1 →
    ∃ t q', exec (.resultWrite ctx links) s = .next t ∧ t.query? ctx = some q' ∧ q'.written = q.written + bs.length ∧
      q'.dest = (q.dest.1 + bs.length, q.dest.2.1 - bs.length, q.dest.2.2 + bs.length) ∧ t.flume? f = some { x with posts := rest } ∧
      Cells.readList t.hi.mem q.dest.1 bs.length = bs) ∧
  (∀ (s : State) (ctx : Nat) (q : Query) (c : Cmd), ctx < 1536 → s.query? ctx = some q → q.status = none → q.fin = false → s.resultsDone ctx q = true →
    (s.inst q.inst).cmds = [c] → c.no = q.cmd → c.src = .ring → c.batch = none → c.opc = 0x10 → c.work = .query ctx →
    ∃ t q', exec (.queryComplete ctx) s = .next t ∧ t.query? ctx = some q' ∧ q'.fin = true ∧ (t.inst q.inst).cmds = [] ∧
      (t.inst q.inst).done = (s.inst q.inst).done ++ [soloCqe c.cid 0 (BitVec.ofNat 64 q.written) [c.cid]]) ∧
  (∀ (s : State) (seq : Nat) (g : Segment) (o : Owner) (b : SegBlock) (tb : Table) (x : Block) (da : Nat) (s1 : State), s.isUp = true → s.mc.sweep = false →
    s.seg? seq = some g → s.owner? g.owner = some o → s.wanted o g = true → g.blocks = [b] → g.lostPages s.flash.dieFail = [] →
    s.slotKey (storeKeySlot g.owner) = some g.key →
    o.table? b.table = some tb → x ∈ tb.col b.col → x.isOf seq b = true → x.lost = false → x.da = none → s.alloc g.owner 64 b.bytes.length = some (da, s1) →
    ∃ t o' tb' y, exec (.segmentReadComplete { seq := seq, bad := [] }) s = .next t ∧ t.owner? g.owner = some o' ∧ tb' ∈ o'.tables ∧ y ∈ tb'.col b.col ∧ y.isOf seq b = true ∧
      y.da = some da)

/-- R121, R126, R189, R392, R128: a core fault, named or found after 4 µs without progress, takes the core out of service, halts it, tells the supervisor, and
discards what the run has staged; the requeue starts the item again from its first phase with the same words and lease. STATCLR clears the wait and dispatch
statistics and no others.
Rests on the model's readings in log entry 90.
Completes: coreFault, replayRequeue, progressMonitorExpiry, hgCtlStatclr. -/
def Obligations.FaultsAndReplay : Prop :=
  (∀ (s : State) (c d i slot : Nat) (twin : Bool) (it : Item) (q : Query), c < 96 → s.engineUp = true → s.hg.oos.contains c = false →
    instOfCore s.hi.n c = some i → d ∈ s.liveCores i → d ≠ c → clusterOf d = clusterOf c →
    (clustersOf s.hi.n i).any (fun e => e.1 == clusterOf c) = true → (s.core c).item = some (slot, twin) →
    s.item? slot = some it → it.append = none → s.query? it.ctx = some q → q.status = none → it.replays + it.draining.length < 2 → it.replayable = true →
    let faults := fun (e : Instr) => ∃ t it', exec e s = .next t ∧ t.hg.oos = c :: s.hg.oos ∧ (t.core c).act = .halted ∧ (t.core c).item = none ∧
      (t.core 96).ic.pend.getLsbD 3 = true ∧ t.item? slot = some it' ∧ it'.draining = it.draining ++ [twin] ∧ (it'.run twin).posts = [] ∧ (it'.run twin).signals = [] ∧
      (it'.run twin).state = .waiting
    faults (.coreFault c) ∧
    ((s.core c).act = .running → s.mc.sweep = false → (s.core c).progress + 4000 ≤ s.now → faults (.progressMonitorExpiry c))) ∧
  (∀ (s : State) (slot : Nat) (twin : Bool) (later : List Bool) (it : Item) (q : Query), slot < 65536 → s.item? slot = some it → it.draining = twin :: later → it.append = none →
    s.query? it.ctx = some q → q.status = none → s.hasJobs slot = false →
    ∃ t, exec (.replayRequeue slot) s = .next t ∧ t.item? slot = some (({ it with
      flags := 0, mask := 0, phase := 0, waitall := false, replays := it.replays + 1, stamp := s.now, isParked := false, parked := none,
      replay := some s.hg.nextReplay, draining := later.filter (· != twin) } : Item).setRun twin (Run.fresh (it.run twin).lease)) ∧
      (t.stat it.inst).replay = satInc (s.stat it.inst).replay ∧ t.cores = s.cores) ∧
  (∀ s : State, s.isUp = true → ∃ t, exec .hgCtlStatclr s = .next t ∧
    ∀ i, t.stat i = { s.stat i with waitMax := 0, waitSum := 0, disp := 0 })

/-! ## Codec, digest engines and keys (spec/02, spec/13) -/

/-- R52, R53, R358, R365: a submission joins the queue that its descriptor routes it to: the unit it names, or under UNIT 0xFF the in-service unit of its cluster that
has room and the least load, the lowest number winning a tie; where no such queue has room the store stalls, and its resumption places the job, under 0xFF on the first
unit that gained room. Completes: cdSubmit, dgSubmit, cdSubmitResume.
Rests on the model's readings in log entry 45. -/
def Obligations.Submissions : Prop :=
  ∀ (s : State) (c : Nat), c < 96 → s.codec.reissue = [] → s.dg.held = [] →
    let k := s.core c
    let u := s.clientOf c
    let desc := fun (v : W64) => (s.unitRead u (bits v 0 32) 64).1.getD []
    let accepted := fun (v : W64) => s.submitOk u (bits v 0 32) = true ∧ s.submitOk u (compOf (desc v)) = true
    let free := fun (v : Nat) => v / 4 = c / 8 ∧ (s.unit v).oos = false ∧ (s.unit v).queue.length < 64
    let onward := ((stepped s c k).core c).pc
    let placed := fun (i : Instr) (v : W64) (x : Nat) => ∃ t, exec i s = .next t ∧ (t.core c).pc = onward ∧ (t.core c).act = .running ∧
      (t.unit x).queue = (s.unit x).queue ++ [{ desc := desc v, by_ := s.submitter c, order := s.codec.nextOrder }]
    let digests := fun (i : Instr) (v : W64) (e : Nat) => ∃ t j, exec i s = .next t ∧ (t.core c).pc = onward ∧ (t.core c).act = .running ∧
      (t.engine e).queue = (s.engine e).queue ++ [j] ∧ j.desc = desc v ∧ j.by_ = s.submitter c ∧ j.started = false
    (∀ (rs base : GReg) (imm : W16), issues s c { regs := [rs, base], isMem := true } = true → accepted (k.rd rs) →
      let d := desc (k.rd rs)
      (k.rd base + imm.signExtend 64 = 0x40032000 →
        (jUnit d < 4 → (s.unit (4 * (c / 8) + jUnit d)).oos = false → (s.unit (4 * (c / 8) + jUnit d)).queue.length < 64 →
          placed (.cdSubmit c rs base imm) (k.rd rs) (4 * (c / 8) + jUnit d)) ∧
        (jUnit d < 4 → (s.unit (4 * (c / 8) + jUnit d)).oos = false → 64 ≤ (s.unit (4 * (c / 8) + jUnit d)).queue.length →
          exec (.cdSubmit c rs base imm) s = .next (s.setCore c { k with act := .stalled s.now (.codec (k.rd rs)) })) ∧
        (jUnit d = 0xFF → ∀ u, free u → (∀ v, free v → (s.unit u).load < (s.unit v).load ∨ ((s.unit u).load = (s.unit v).load ∧ u ≤ v)) →
          placed (.cdSubmit c rs base imm) (k.rd rs) u) ∧
        (jUnit d = 0xFF → (∃ v, v / 4 = c / 8 ∧ (s.unit v).oos = false) → (∀ v, ¬free v) →
          exec (.cdSubmit c rs base imm) s = .next (s.setCore c { k with act := .stalled s.now (.codec (k.rd rs)) }))) ∧
      (k.rd base + imm.signExtend 64 = 0x40061000 →
        (gEngine d < 8 → (s.engine (gEngine d)).oos = false → (s.engine (gEngine d)).queue.length < 32 →
          digests (.dgSubmit c rs base imm) (k.rd rs) (gEngine d)) ∧
        (gEngine d < 8 → (s.engine (gEngine d)).oos = false → 32 ≤ (s.engine (gEngine d)).queue.length →
          exec (.dgSubmit c rs base imm) s = .next (s.setCore c { k with act := .stalled s.now (.digest (k.rd rs)) })))) ∧
    (∀ since v, s.engineUp = true → accepted v →
      let d := desc v
      (k.act = .stalled since (.codec v) → jUnit d < 4 → (s.unit (4 * (c / 8) + jUnit d)).oos = false → (s.unit (4 * (c / 8) + jUnit d)).queue.length < 64 →
        placed (.cdSubmitResume c) v (4 * (c / 8) + jUnit d)) ∧
      (k.act = .stalled since (.codec v) → jUnit d = 0xFF → ∀ u rest, s.codec.gained = u :: rest → free u → placed (.cdSubmitResume c) v u) ∧
      (k.act = .stalled since (.digest v) → gEngine d < 8 → (s.engine (gEngine d)).oos = false → (s.engine (gEngine d)).queue.length < 32 →
        digests (.cdSubmitResume c) v (gEngine d)))

/-- R44, R47, R54, R56, R57, R58, R60, R64, R67, R70, R393: a free unit starts its next job; one with a bad descriptor ends with status 2 and one whose input lies outside
the window with status 6, both without output. A job of one block or frame: ENCODE writes the block that encodes its values, STREAM the frame of its bytes, SCAN in
forms 0 to 3 the passing rows' bitmap, indices, values or pairs, form AGG their least and greatest value and sum in the record, VERIFY nothing, with status 0 or
CHECK_FAIL; the record counts rows, bytes and blocks. Completion writes the output and after it the record, and frees the unit. A faulted unit, named or found 10 µs
after its work has stopped, leaves service and its jobs go to the reissue list, from which they enter a queue with room.
Completes: encodeJob, scanJob, streamJob, verifyJob, codecJobComplete, codecUnitFault, codecReissueEnqueue, unitWatchdogExpiry.
Rests on the model's readings in log entries 46, 98, 105 and 115. -/
def Obligations.CodecJobs : Prop :=
  ∀ (s : State) (u : Nat), u < 48 →
    let x := s.unit u
    let work := fun (d : List Byte) => if jKind d = 1 then Instr.encodeJob u else if jKind d = 2 then .scanJob u else if jKind d = 3 then .streamJob u else .verifyJob u
    (∀ j, x.oos = false → x.run = none → s.mc.sweep = false → x.next s.hi.n = some j →
      let d := j.desc
      let c := s.clientOf j.by_.core
      let runs := fun (e : Instr) (p : JobOut → Prop) => ∃ t o, exec e s = .next t ∧ (t.unit u).run = some (j, o) ∧
        (t.unit u).queue = x.queue.filter (fun y => y.order != j.order) ∧ (t.unit u).runTick = s.now ∧ p o
      let leaves := fun (st bytes rows sel blocks : Nat) (out : List Byte) (o : JobOut) => o.status = st ∧ fieldLE o.record 0 2 = st ∧ fieldLE o.record 4 4 = bytes ∧
        fieldLE o.record 8 8 = bytes ∧ fieldLE o.record 16 4 = rows ∧ fieldLE o.record 20 4 = sel ∧ fieldLE o.record 24 2 = blocks ∧
        o.writes = (if out = [] then [] else [(jOut d, out)])
      (jKind d ∈ [1, 2, 3, 4] → runs (work d) (fun o => (descOk d = false → o.status = 2 ∧ o.writes = []) ∧
        (descOk d = true → s.jobWindow c d = false → o.status = 6 ∧ o.writes = []))) ∧
      (∀ bs, descOk d = true → s.jobWindow c d = true → jKind d = 1 → jCount d ≤ 4096 → jXref d = 0 → (s.unitRead c (jIn d) (inLen d)).1 = some bs →
        let unit := encodeBlock (jType d) (jPmask d) none true (valuesOfBytes (colW (jType d)) (jCount d) bs)
        unit.length ≤ jCap d → runs (.encodeJob u) (leaves 0 unit.length (jCount d) 0 1 unit)) ∧
      (∀ bs, descOk d = true → s.jobWindow c d = true → jKind d = 3 → jCount d ≤ 32768 → (s.unitRead c (jIn d) (jCount d)).1 = some bs →
        let unit := encodeFrame (jPmask d) true bs
        unit.length ≤ jCap d → runs (.streamJob u) (leaves 0 unit.length (jCount d) 0 1 unit)) ∧
      (∀ hd h pay, descOk d = true → s.jobWindow c d = true → jKind d = 4 ∨ jKind d = 2 → jCount d = 1 → (s.unitRead c (jIn d) 64).1 = some hd → h = parseHdr hd →
        h.ok = true → h.xcol = false → devOk c (jIn d) (64 + h.plen) = true →
        ((s.unitRead c (jIn d) 64).2.unitRead c (jIn d + 64) h.plen).1 = some pay → payloadOk h pay = true →
        let vs := decodePayload h pay []
        let n := h.count
        (jKind d = 4 → (checkOk h vs = true → runs (.verifyJob u) (leaves 0 0 n 0 1 [])) ∧
          (checkOk h vs = false → runs (.verifyJob u) (fun o => o.status = 4 ∧ o.writes = []))) ∧
        (jKind d = 2 → jPreds d = 0 → jForm d < 4 → checkOk h vs = true →
          let out := scanUnit (jForm d) h.ty 0 (vs.map (fun v => (true, v)))
          out.length ≤ jCap d → runs (.scanJob u) (leaves 0 out.length n n 1 out)) ∧
        (jKind d = 2 → jPreds d ≠ 0 → jForm d ≤ 4 → checkOk h vs = true → boundsOf h.ty vs = (h.mn, h.mx, h.nan) → ∀ pbs pb, (s.unitRead c (jPreds d) 64).1 = some pbs →
          parsePreds pbs = some pb →
          let rows := vs.map (fun v => (rowPasses h.ty pb v, v))
          let hits := vs.filter (rowPasses h.ty pb)
          let out := scanUnit (jForm d) h.ty 0 rows
          (jForm d < 4 → out.length ≤ jCap d → runs (.scanJob u) (leaves 0 out.length n hits.length 1 out)) ∧
          (jForm d = 4 → jCnt d = false → colFloat h.ty = false → ∀ a b, minBy (boundKey h.ty) hits = some a → maxBy (boundKey h.ty) hits = some b →
            runs (.scanJob u) (fun o => leaves 0 0 n hits.length 1 [] o ∧ fieldLE o.record 32 8 = extend64 h.ty a ∧ fieldLE o.record 40 8 = extend64 h.ty b ∧
              fieldLE o.record 48 16 = wrapInt 128 ((hits.map (boundKey h.ty)).sum)))))) ∧
    (∀ j o, x.run = some (j, o) → s.mc.sweep = false → j.by_.core < 96 → o.record.length = 64 → compOf j.desc + 64 ≤ 0x40000 →
      ∃ t, exec (.codecJobComplete u) s = .next t ∧ (t.unit u).run = none ∧ (t.unit u).done = true ∧ (t.unit u).lastSt = o.status ∧
        (t.unit u).lastRec = o.record ∧ Cells.readList (t.core j.by_.core).ls (compOf j.desc) 64 = o.record ∧
        ∀ off bs, o.writes = [(0x10000000 + off, bs)] → off + bs.length ≤ 2 ^ 22 → Cells.readList (t.pool (clusterOf j.by_.core)) off bs.length = bs) ∧
    (x.oos = false →
      let faults := fun (i : Instr) => ∃ t, exec i s = .next t ∧ (t.unit u).oos = true ∧ (t.unit u).queue = [] ∧ (t.unit u).run = none ∧
        t.codec.reissue = s.codec.reissue ++ (x.run.map (fun r => r.1)).toList ++ x.queue ∧ (t.core 96).ic.pend.getLsbD 4 = true
      faults (.codecUnitFault u) ∧
      (∀ j o, x.run = some (j, o) → s.mc.sweep = false → x.runTick + Config.codecTime (inLen j.desc) + 10000 ≤ s.now → faults (.unitWatchdogExpiry .codec u))) ∧
    (∀ j cl, s.codec.reissue = [j] → s.codecCluster (clusterOf j.by_.core) = some cl →
      s.leastLoad ((s.unitsOf cl).filter s.unitRoom) = some u →
      ∃ t, exec .codecReissueEnqueue s = .next t ∧ t.codec.reissue = [] ∧ (t.unit u).queue = x.queue ++ [j])

/-- R34, R37, R38, R39, R42 to R46: what an encoded block holds. Its header passes every check and names the type, the count, LAST and the bounds, the block is a whole
number of 64 B, its payload passes the payload checks, and decoding it gives the values, under every predictor, with a reference or without. R47 to R49: a frame's
residues decode to its input.
R57: the bounds decide rightly: where a block's MIN, MAX and NAN are those of its values, a block that the decision rejects has no passing row and one that it
accepts has no other, for one predicate and for two under AND or OR. -/
def Obligations.EncodedBlocksDecode : Prop :=
  (∀ (ty pmask : Nat) (ref : Option RefBlock) (last : Bool) (vs : List Nat), (colWidth ty).isSome = true → 1 ≤ vs.length → vs.length ≤ 4096 →
     (∀ v ∈ vs, v < 2 ^ colW ty) → (∀ r, ref = some r → r.vals.length = vs.length ∧ ∀ v ∈ r.vals, v < 2 ^ colW ty) →
     let b := encodeBlock ty pmask ref last vs
     let h := parseHdr (b.take 64)
     let pay := slice b 64 h.plen
     h.ok = true ∧ h.ty = ty ∧ h.count = vs.length ∧ h.last = last ∧ (h.mn, h.mx, h.nan) = boundsOf ty vs ∧ b.length = h.extent ∧ b.length % 64 = 0 ∧
       payloadOk h pay = true ∧ decodePayload h pay ((ref.map (·.vals)).getD []) = vs ∧ checkOk h vs = true) ∧
  (∀ (pmask : Nat) (last : Bool) (bs : List Byte), bs ≠ [] → bs.length ≤ 32768 → streamCands pmask ≠ [] →
     let f := encodeFrame pmask last bs
     let n := fieldLE f 4 2
     let p := fieldLE f 6 2 % 16
     let tail := bs.length - 8 * (n - 1)
     let ws := ((slice f 16 32).map (·.toNat)).take (ceilDiv (n - 1) 128)
     n = ceilDiv bs.length 8 ∧ p ∈ streamCands pmask ∧ (fieldLE f 6 2).testBit 7 = last ∧ fieldLE f 6 2 / 512 = tail % 8 ∧ f.length = 64 + fieldLE f 8 4 ∧
       fieldLE f 12 4 = (crc32c bs).toNat ∧ f.drop (f.length - tail) = bs.drop (8 * (n - 1)) ∧
       ((invert p 64 (fieldLE f 48 8) 0 [] 0 [] (unpackAll (n - 1) ws (leNat ((f.drop 64).take (f.length - tail - 64))))).map (leBytes 8)).flatten = bs.take (8 * (n - 1))) ∧
  (∀ (ty : Nat) (vs : List Nat) (pbs : List Byte) (pb : PredBlock) (h : BlkHdr), (colWidth ty).isSome = true → vs ≠ [] → (∀ v ∈ vs, v < 2 ^ colW ty) →
    parsePreds pbs = some pb → boundsOf ty vs = (h.mn, h.mx, h.nan) →
    (blockDecide ty pb h = .reject → ∀ v ∈ vs, rowPasses ty pb v = false) ∧ (blockDecide ty pb h = .accept → ∀ v ∈ vs, rowPasses ty pb v = true))

/-- R360, R361, R363, R365, R366, R368, R370, R393: a free digest engine starts its next job, and the checks of R360 give their statuses; an urgent job preempts a running
one, which waits on die; completion leaves the status and, for a digest to memory, the hash in DG_RES; a faulted engine leaves service; DG_RES of a key-destined job
reads zero and sets NOREAD. R379, R386: KS_OEK_CTL with LOAD clears KS_OEK_DATA; it loads the key of a STOPPED instance whose owner has none, and is rejected
otherwise; the load's end stores the key with g = 1.
Completes: unitWatchdogExpiry, digestJob, digestPreempt, digestJobComplete, digestEngineFault, dgResRead, ksOekLoad, ksOekLoadDone. -/
def Obligations.DigestJobsAndKeyLoads : Prop :=
  (∀ (s : State) (e : Nat), e < 8 →
     let x := s.engine e
     (∀ j blocks, x.oos = false → x.run = none → s.mc.sweep = false → s.dg.held = [] → x.next s.hi.n = .fresh j →
       let d := j.desc
       let sup := decide (96 ≤ j.by_.core)
       ∃ t j', exec (.digestJob e blocks) s = .next t ∧ (t.engine e).run = some j' ∧ j'.desc = d ∧ j'.started = true ∧ j'.total = gLen d ∧
         (t.engine e).queue = x.queue.filter (fun y => y.order != j.order) ∧ (sup = false → slotNamed d = true → j'.fail = some 5) ∧
         (sup = true ∨ slotNamed d = false → (digestDescOk d sup = false → j'.fail = some 1) ∧
           (digestDescOk d sup = true → slotDenied d = true → j'.fail = some 5) ∧
           (digestDescOk d sup = true → slotDenied d = false → s.digestWindow (s.digestClient j) d = false → j'.fail = some 2))) ∧
     (∀ j, x.run = some j → s.mc.sweep = false → gUrgent j.desc = false → x.urgents ≠ 0 → gShmem j.desc = false → s.shadowUsed < 64 →
       ∃ t, exec (.digestPreempt e) s = .next t ∧ (t.engine e).run = none ∧
         (t.engine e).stack = { j with preempts := j.preempts + 1, onDie := true } :: x.stack ∧ t.dg.preempts = satInc s.dg.preempts) ∧
     (∀ j n, x.run = some j → s.mc.sweep = false → j.fail = some n → j.why = .core → ∃ t, exec (.digestJobComplete e) s = .next t ∧ (t.engine e).run = none ∧
       (t.engine e).done = true ∧ (t.engine e).lastSt = n) ∧
     (∀ j st, x.run = some j → s.mc.sweep = false → j.fail = none → j.st = some st → j.why = .core → j.absorbed = j.total → gFinal j.desc = true → gDest j.desc = 0 →
       algHmac (gAlg j.desc) = false → ∃ t, exec (.digestJobComplete e) s = .next t ∧ (t.engine e).run = none ∧ (t.engine e).lastSt = 0 ∧
         (t.engine e).res = slice ((algHash (gAlg j.desc)).finish st []) 0 64) ∧
     (x.oos = false → (∃ y, y < 8 ∧ y ≠ e ∧ (s.engine y).oos = false) →
       let faults := fun (i : Instr) => ∃ t, exec i s = .next t ∧ (t.engine e).oos = true ∧ (t.engine e).run = none ∧ (t.engine e).queue = [] ∧
         (t.engine e).stack = []
       faults (.digestEngineFault e) ∧ (x.run.isSome = true → s.mc.sweep = false → x.runTick + 10000 ≤ s.now → faults (.unitWatchdogExpiry .digest e))) ∧
     (∀ k, k < 8 → x.done = true →
       (x.keyDest = true → exec (.dgResRead e k) s = .next (s.setEngine e { x with noRead := true }) ∧ (readDgRes s e k).1 = 0) ∧
       (x.keyDest = false → exec (.dgResRead e k) s = .next s ∧ (readDgRes s e k).1 = fieldLE x.res (8 * k) 8))) ∧
  (∀ (s : State) (v : W32), 
     let i := bits v 0 5
     let data : W512 := BitVec.ofNat 512 (leNat s.keys.oekData)
     let clear := { s.keys with oekData := List.replicate 64 0 }
     let loads := s.keys.busy = none ∧ i < s.hi.n ∧ (s.inst i).state = .stopped ∧ ∃ o, s.owner? i = some o ∧ o.oek = none
     (v.getLsbD 8 = true → s.isUp = true → loads → ∃ t, exec (.ksOekLoad v) s = .next t ∧ t.keys.busy = some (i, data) ∧
       t.keys.oekData = List.replicate 64 0 ∧ t.keys.reject = s.keys.reject ∧ t.flash = s.flash) ∧
     (v.getLsbD 8 = true → s.isUp = true → ¬loads → exec (.ksOekLoad v) s = .next { s with keys := { clear with reject := true } }) ∧
     (v.getLsbD 8 = false → exec (.ksOekLoad v) s = .next s) ∧
     (∀ n k o, s.keys.busy = some (n, k) → s.owner? n = some o → ∃ t, exec .ksOekLoadDone s = .next t ∧ t.keys.busy = none ∧
       t.owner? n = some { o with oek := some k, gen := 1 }))

/-! ## Flash store and memory controllers (spec/12, spec/11) -/

/-- R336 to R341, R348, R349: a seal falls due 1 s after a block landed; a completed seal is a segment under the next SEQ; a checkpoint goes to the area not written
last, with the highest SEQ, the segment map, free slots, wear and allocation order, and starts its interval again; a scrub counts as a read, and a weak page has the segment rewritten;
garbage collection writes one segment that supersedes those it collects. R344, R345, R374: a die that fails is recorded once and its live pages are rebuilt into the
reserve where that has room, else its owners enter Dry; a cipher unit's failure takes its channel's dies; a failed block draws on the die's own pool, then on the reserve, then makes its owners Dry; a rebuild's end is logged.
Completes: sealIntervalExpiry, segmentSealed, checkpointTimer, flashReadScrub, garbageCollection, dieFail, rebuildDone.
Rests on the model's readings in log entries 54 and 101. -/
def Obligations.FlashStoreSteps : Prop :=
  (∀ (s : State), s.isUp = true →
     (∀ i o len b bs, i < 24 → s.owner? i = some o → o.dry = false → (∃ x ∈ o.allBlocks, x.isOpen = true ∧ x.landedTick + 10 ^ 9 ≤ s.now) →
       o.openSegs = [(len, b :: bs)] → 2 ^ 20 ≤ len → ∃ t, exec (.sealIntervalExpiry i) s = .next t ∧
         t.flash.jobs = s.flash.jobs ++ [{ owner := i, table := b.1, col := b.2.1, sup := [], blocks := b :: bs }]) ∧
     (∀ i o j tb x e, i < 24 → s.owner? i = some o → s.flash.jobs.find? (fun y => y.owner == i) = some j → j.blocks = [e] → o.table? e.1 = some tb →
       (tb.col e.2.1)[e.2.2]? = some x → s.mc.sweep = false → s.allocOrder 1 ≠ [] → s.liveCores i ≠ [] → (s.inst i).cmds = [] → ∃ t g, exec (.segmentSealed i) s = .next t ∧
         t.flash.sealSeq = s.flash.sealSeq + 1 ∧ g ∈ t.flash.segments ∧ g.seq = s.flash.sealSeq + 1 ∧ g.owner = i ∧ g.table = j.table ∧ g.col = j.col ∧
         t.flash.jobs = s.flash.jobs.erase j) ∧
     (s.flash.unusable = false → (s.flash.ckptTick + 30 * 10 ^ 9 ≤ s.now ∨ 8192 ≤ s.flash.sealsSince) → ∃ t, exec .checkpointTimer s = .next t ∧
       t.flash.ckpt.seq = s.flash.sealSeq ∧ t.flash.ckpt.segs = t.flash.segments.map Segment.seq ∧ t.flash.ckpt.free = t.flash.freeSlots ∧ t.flash.ckpt.wear = t.flash.erases ∧
       t.flash.ckpt.order = t.allocOrder 16384 ∧ t.flash.ckpt.octr = s.keys.octr ∧ (s.flash.turn = 0 → t.flash.areas.1 = s.flash.areas.1) ∧
       (s.flash.turn = 1 → t.flash.areas.2 = s.flash.areas.2) ∧ t.flash.ckptTick = s.now ∧ t.flash.sealsSince = 0 ∧ t.flash.owners = s.flash.owners) ∧
     (∀ seq g, s.flash.segments.find? (fun y => y.seq == seq) = some g → g.failed = [] → g.lostPages s.flash.dieFail = [] → g.reads + 1 < 50000 →
       ∃ t g', exec (.flashReadScrub { seq := seq, bad := [] } false) s = .next t ∧ g' ∈ t.flash.segments ∧
       g' = { g with reads := g.reads + 1, scrubTick := s.now }) ∧
     (∀ i seqs o, i < 24 → s.owner? i = some o → o.dry = false → seqs ≠ [] → seqs.length ≤ 64 → seqs.Nodup → s.allocOrder 1 ≠ [] →
       (∀ q ∈ seqs, ∃ g ∈ s.flash.segments, g.seq = q ∧ g.owner = i ∧ s.flash.dead g = false) → (∀ g ∈ s.flash.segments, g.seq ∈ seqs → g.lostPages s.flash.dieFail = []) →
       (∀ b ∈ o.allBlocks, ∀ q, b.seg = some q → q ∈ seqs → b.lsn ≤ o.dur) → s.liveBlocks o seqs ≠ [] →
       extentOf ((s.liveBlocks o seqs).map (fun b => b.bytes.length)).sum (s.liveBlocks o seqs).length ≤ 2 ^ 24 →
       let rewrites := fun (e : Instr) => ∃ t g, exec e s = .next t ∧ t.flash.sealSeq = s.flash.sealSeq + 1 ∧ g ∈ t.flash.segments ∧ g.seq = s.flash.sealSeq + 1 ∧
         g.owner = i ∧ g.sup = seqs ∧ g.blocks = s.liveBlocks o seqs ∧ t.cores = s.cores ∧ t.mc = s.mc
       rewrites (.garbageCollection i seqs) ∧ (∀ q g, seqs = [q] → s.flash.segments.find? (fun y => y.seq == q) = some g → g.owner = i → rewrites (.flashReadScrub { seq := q, bad := [] } true)))) ∧
  (∀ (s : State),
     (∀ d, s.hasDie d = true → s.engineUp = true →
       (s.flash.dieFail.contains d = false →
         let live := s.flash.liveBytes d
         ∃ t, exec (.dieFail (.whole d)) s = .next t ∧ t.flash.dieFail = d :: s.flash.dieFail ∧ (t.core 96).ic.pend.getLsbD 6 = true ∧
           (s.flash.reserveUsed + live ≤ s.reserveBytes → t.flash.rebuild = s.flash.rebuild ++ [(d, live)] ∧ t.flash.reserveUsed = s.flash.reserveUsed + live) ∧
           (s.reserveBytes < s.flash.reserveUsed + live → ∀ i ∈ s.flash.ownersOn d, ∀ o, s.owner? i = some o → ∃ o', t.owner? i = some o' ∧ o'.dry = true)) ∧
       (s.flash.dieFail.contains d = true → exec (.dieFail (.whole d)) s = .next s) ∧
       (s.keys.oosFlash.contains (d / 8) = false → ∃ t, exec (.dieFail (.cipher (d / 8))) s = .next t ∧ t.keys.oosFlash = d / 8 :: s.keys.oosFlash ∧
         ∀ e, s.hasDie e = true → e / 8 = d / 8 → e ∈ t.flash.dieFail) ∧
       (let n := SMap.get s.flash.spare 0 d
        ∃ t, exec (.dieFail (.block d)) s = .next t ∧ t.flash.dieFail = s.flash.dieFail ∧
          ((n + 1) * Config.nandBlock ≤ sparePool → SMap.get t.flash.spare 0 d = n + 1 ∧ t.flash.reserveUsed = s.flash.reserveUsed) ∧
          (sparePool < (n + 1) * Config.nandBlock → s.flash.reserveUsed + 17 * Config.nandBlock ≤ s.reserveBytes →
            t.flash.reserveUsed = s.flash.reserveUsed + 17 * Config.nandBlock) ∧
          (sparePool < (n + 1) * Config.nandBlock → s.reserveBytes < s.flash.reserveUsed + 17 * Config.nandBlock →
            ∀ i ∈ s.flash.ownersOn d, ∀ o, s.owner? i = some o → ∃ o', t.owner? i = some o' ∧ o'.dry = true))) ∧
     (∀ d n rest, s.isUp = true → s.flash.rebuild = (d, n) :: rest → ∃ t e es, exec .rebuildDone s = .next t ∧ t.flash.rebuild = rest ∧
       t.tl.log = e :: es ∧ e.code = 0x0A ∧ e.arg = BitVec.ofNat 32 d))

/-- R311, R321, R322: refresh, readout, ZQ latch and the power states of a rank, each when it falls due; a warm or hot readout halves the interval, a hot one
throttles the channel and the second cool one in a row ends that.
Rests on the model's readings in log entry 57.
Completes: refresh, tempReadout, zqLatch, powerDownEntry, selfRefreshEntry. -/
def Obligations.RankSteps : Prop :=
  ∀ (s : State) (ch rank : Nat), ch < 96 → rank < 2 → s.chanRuns ch = true →
    let x := s.rank ch rank
    let h := s.chan ch
    let becomes := fun (i : Instr) (y : Rank) => exec i s = .next (s.setRank ch rank y)
    (x.power ≠ .selfRefresh → x.refTick + (if x.half then 1953 else 3906) ≤ s.now →
      becomes (.refresh ch rank) { x with refs := x.refs + 1, refTick := s.now }) ∧
    (x.power = .selfRefresh → exec (.refresh ch rank) s = .next s) ∧
    (s.isUp = true → x.power = .awake → x.zqTick + 1000000 ≤ s.now → becomes (.zqLatch ch rank) { x with zqTick := s.now }) ∧
    (x.power = .awake → s.mc.pdn ≠ 0 → x.idle + s.mc.pdn.toNat ≤ s.now → becomes (.powerDownEntry ch rank) { x with power := .powerDown }) ∧
    (x.power ≠ .selfRefresh → s.mc.sref ≠ 0 → x.idle + 1000 * s.mc.sref.toNat ≤ s.now → becomes (.selfRefreshEntry ch rank) { x with power := .selfRefresh }) ∧
    (s.mc.pdn = 0 → exec (.powerDownEntry ch rank) s = .next s) ∧ (s.mc.sref = 0 → exec (.selfRefreshEntry ch rank) s = .next s) ∧
    (x.power = .awake → x.mrTick + 16000000 ≤ s.now →
      (∀ cls, cls ≠ .hot → exec (.tempReadout ch rank cls) s = .next ((s.setRank ch rank { x with cls := cls, half := cls != .cool, mrTick := s.now }).setChan ch
        { h with cools := h.cools + 1, throttle := h.throttle && decide (h.cools = 0) })) ∧
      (∃ t, exec (.tempReadout ch rank .hot) s = .next t ∧ (t.chan ch).throttle = true ∧ (t.chan ch).cools = 0 ∧
        t.rank ch rank = { x with cls := .hot, half := true, mrTick := s.now } ∧ (t.ctl (ch / 4)).throt = (if h.throttle then (s.ctl (ch / 4)).throt else satInc (s.ctl (ch / 4)).throt)))

/-- R314, R324 to R326, R328, R374: the scrub goes on to the channel's next row and corrects a single symbol in error; sweeps end with the controllers serving, the
channel of a lane that does not pass lost and each other as it was; a re-sweep is rejected unless every instance is NONE or STOPPED and no test or activation runs; a
lost channel stops and every RUNNING instance becomes FAILED; with a cipher unit all four channels of its controller are lost.
Completes: patrolScrub, memorySweepDone, resweep, resweepDone, channelLost.
Rests on the model's readings in log entries 28, 41 and 58. -/
def Obligations.ScrubSweepAndLoss : Prop :=
  ∀ (s : State),
    let ends := fun (i : Instr) (eyes : List Eye) => ∃ t, exec i s = .next t ∧ t.mc.trained = true ∧ t.mc.sweep = false ∧
      (∀ c, c < 24 → c ≠ s.mc.exclNow → (t.ctl c).inserv = true) ∧
      (∀ ch, ch < 96 → ch / 4 ≠ s.mc.exclNow →
        let lane := fun (k : Nat) => eyes.find? (fun e => e.ctl == ch / 4 && e.k == k)
        (∀ k, k / 4 = ch % 4 → (∀ e, lane k = some e → (eyeWord e).getLsbD 31 = false) → (t.chan ch).lost = true) ∧
        ((∀ k, k / 4 = ch % 4 → ∃ e, lane k = some e ∧ (eyeWord e).getLsbD 31 = true) → (t.chan ch).lost = (s.chan ch).lost))
    let quiet := (∀ i, i < s.hi.n → (s.inst i).state = .none ∨ (s.inst i).state = .stopped) ∧ s.sl.act = false ∧ s.sl.test = .idle
    (∀ ch, ch < 96 → s.isUp = true → s.chanRuns ch = true →
      let r := (s.chan ch).scrubRow
      (s.rank ch (s.rankOf r)).power ≠ .selfRefresh → (s.chan ch).buf = none →
      (SMap.get s.mc.errs [] (rowKey ch r) = [] → ∃ t, exec (.patrolScrub ch []) s = .next t ∧
        (t.chan ch).scrubRow = (if r + 1 = 2 ^ 23 then 0 else r + 1) ∧ (t.chan ch).passes = (s.chan ch).passes + (if r + 1 = 2 ^ 23 then 1 else 0) ∧
        t.mc.cells = s.mc.cells) ∧
      (∀ line v, line < 30 → v ≠ 0 → SMap.get s.mc.errs [] (rowKey ch r) = [{ line := line, pos := 0, err := v }] → ∃ t, exec (.patrolScrub ch []) s = .next t ∧
        SMap.get t.mc.errs [] (rowKey ch r) = [] ∧ (t.ctl (ch / 4)).ce = satAdd (s.ctl (ch / 4)).ce 1 ∧ (t.ctl (ch / 4)).ue = (s.ctl (ch / 4)).ue)) ∧
    (∀ eyes, s.pw.state = .train → s.mc.sweep = true → ends (.memorySweepDone eyes) eyes) ∧
    (∀ eyes, s.isUp = true → s.mc.sweep = true → ends (.resweepDone eyes) eyes) ∧
    (s.isUp = true →
      (quiet → exec .resweep s = .next { s with mc := { s.mc with sweep := true, sweepStart := s.now } }) ∧
      (¬quiet → exec .resweep s = .next { s with mc := { s.mc with reject := true } })) ∧
    (∀ ch, ch < 96 → s.engineUp = true → (∃ t, exec (.channelLost (.chan ch)) s = .next t ∧ (t.chan ch).lost = true ∧
      ((s.chan ch).lost = false → (∀ i, (s.inst i).failing = false) →
        ∀ i, i < s.hi.n → (t.inst i).state = if (s.inst i).state = .running then .failedHard else (s.inst i).state)) ∧
      (s.keys.oosMem.contains (ch / 4) = false → ∃ t, exec (.channelLost (.cipher (ch / 4))) s = .next t ∧ t.keys.oosMem = ch / 4 :: s.keys.oosMem ∧
        ∀ b, b / 4 = ch / 4 → (t.chan b).lost = true))

/-! ## Lantern (spec/14) -/

/-- R397 to R402, R427: at a sample the registers change together and the energy of the four measured rails is attributed to the instances and the remainder, nothing
lost; the idle estimate is shown with the sample; between samples the part reads the cold plate and no more; TL_PACE keeps its 24 enable bits; a hold counts for its
instance until the next sample, where the instance is paced, and is no stall of its cores.
Completes: lanternSample, tlPaceWrite, paceRelease.
Rests on the model's readings in log entries 52, 53, 116 and 118. -/
def Obligations.LanternSamples : Prop :=
  ∀ (s : State),
    (∀ m, s.isUp = true → s.tl.mark + 1000000 ≤ s.now →
      let e := (m.railUJ.take 4).sum
      let share := s.energyShare e (min e (s.tl.idleEst.toNat * (s.now - s.tl.mark) / 1000000))
      ∃ t, exec (.lanternSample m) s = .next t ∧ t.tl.sample = s.now ∧ t.tl.mark = s.now ∧ t.tl.idle = t.tl.idleEst ∧ t.tl.evShown = s.tl.evSeq ∧ t.tl.energyMod = s.tl.energyMod + e ∧
        (∀ i, i < s.hi.n → SMap.get t.tl.energy 0 i = SMap.get s.tl.energy 0 i + share i) ∧
        t.tl.energyUnattr = s.tl.energyUnattr + (e - ((List.range s.hi.n).map share).sum) ∧ t.tl.acts = [] ∧
        (∀ k, k < 5 → t.tl.rail.getD k 0 = s.tl.rail.getD k 0 + m.railUJ.getD k 0)) ∧
    (∀ m, s.pw.state ≠ .off → s.isUp = false ∨ s.now < s.tl.mark + 1000000 →
      exec (.lanternSample m) s = .next { s with pw := { s.pw with plate := (m.temps[1]?).or s.pw.plate } }) ∧
    (∀ m, s.pw.state = .off → exec (.lanternSample m) s = .next s) ∧
    (∀ v, s.isUp = true → exec (.tlPaceWrite v) s = .next { s with tl := { s.tl with pace := v &&& 0xFFFFFF } }) ∧
    (∀ i ns, i < 24 → i < s.hi.n → s.isUp = true → (s.tl.pace.getLsbD i = true → ∃ t, exec (.paceRelease i ns) s = .next t ∧
        SMap.get t.tl.held 0 i = SMap.get s.tl.held 0 i + ns.toNat ∧ t.hg = s.hg ∧ t.mc = s.mc ∧
        (∀ c ∈ coresOf s.hi.n i, t.core c = { s.core c with progress := min s.now ((s.core c).progress + ns.toNat) }) ∧
        ∀ c, c ∉ coresOf s.hi.n i → t.core c = s.core c) ∧
      (s.tl.pace.getLsbD i = false → exec (.paceRelease i ns) s = .next s))

/-! ## The PW island (spec/15) and the supervisor pair (spec/14) -/

/-- R413 to R415, R417, R418: rails rise, become stable and fall; VCORE_IN stable after the others starts PREP with the tick counter at 0; a rail that rises before
an earlier one is stable, or leaves its limits while the engine runs, latches its bit of PW_SEQ_FAULT and holds the module until every rail is down; a loss of
VAUX turns the module off. Completes: vauxLoss, vauxStable, railRise, railStable, railFall, holdRelease.
Rests on the model's readings in log entry 61. -/
def Obligations.RailSequencing : Prop :=
  ∀ (s : State),
    (∃ t, exec .vauxLoss s = .next t ∧ t.pw.state = .off ∧ t.pw.boot = s.pw.boot ∧ t.flash.owners = s.flash.owners) ∧
    (s.pw.state = .off → ∃ t, exec .vauxStable s = .next t ∧ t.pw.state = .standby ∧ t.pw.req = s.pw.boot ∧ t.pw.seqFault = 0) ∧
    (∀ r, r ≠ .vaux → s.pw.state ≠ .off →
      let set := fun (x : RailSt) => { s with pw := s.pw.setRail r x }
      ((∀ e ∈ earlier r, (s.pw.rail e).stable = true) → exec (.railRise r) s = .next (set { s.pw.rail r with up := true })) ∧
      ((∃ e ∈ earlier r, (s.pw.rail e).stable = false) → ∃ t, exec (.railRise r) s = .next t ∧ t.pw.state = .hold ∧
        t.pw.seqFault.getLsbD (railNo r - 1) = true ∧ (s.pw.state ≠ .hold → t.pw.lastRst = 3) ∧ (s.pw.seqFault = 0 → t.pw.alert.getLsbD 1 = true)) ∧
      ((s.pw.rail r).up = true → r ≠ .vcore ∨ s.pw.state ≠ .standby → exec (.railStable r) s = .next (set ⟨true, true⟩)) ∧
      (s.engineUp = true → r ≠ .vcore ∨ s.pw.state ≠ .quiesced → ∃ t, exec (.railFall r .limits) s = .next t ∧ t.pw.state = .hold ∧
        t.pw.seqFault.getLsbD (7 + railNo r) = true ∧ (t.pw.rail r).stable = false ∧ t.cores = []) ∧
      (s.engineUp = false → exec (.railFall r (.below false)) s = .next (set ⟨false, false⟩))) ∧
    (s.pw.state = .quiesced → ∃ t, exec (.railFall .vcore (.below false)) s = .next t ∧ t.pw.state = .standby ∧ t.pw.seqFault = s.pw.seqFault) ∧
    (s.pw.state = .standby → s.pw.vcore.up = true → s.pw.vaux.stable = true → s.pw.vana.stable = true → s.pw.vio.stable = true →
      ∃ t, exec (.railStable .vcore) s = .next t ∧ t.pw.state = .prep ∧ t.pw.tick = 0 ∧ t.pw.lastRst = 1 ∧ t.pw.req = s.pw.boot ∧
        t.flash.owners = s.flash.owners) ∧
    (s.pw.state = .hold → s.pw.vana.up = false → s.pw.vio.up = false → s.pw.vcore.up = false → ∃ t, exec .holdRelease s = .next t ∧
      t.pw.state = .standby ∧ t.pw.seqFault = s.pw.seqFault ∧ t.pw.alert.getLsbD 0 = true)

/-- R410, R418, R342, R343, R375, R247: the start-up states in order, PERST# back to PREP with the tick counter going on, and QUIESCE in and out; recovery takes the
valid checkpoint area, or finds the store unusable, keeps segments that the checkpoint or its allocation order names, and gives each owner what its header records, with a
durable frontier not below the checkpoint's; at READY every instance is STOPPED.
Completes: prepDone, perst, perstRelease, trainDone, recoverDone, pwCtlQuiesce, pwCtlUnquiesce, quiesceComplete, svreset, lockstepMismatch, supervisorCoreFault,
supervisorResetDone. R189, R395, R420, R228: a supervisor-only reset, a lockstep mismatch or a fault of a supervisor core stops both cores of the pair and leaves the query cores,
the items and the instances; both return together.
Rests on the model's readings in log entries 37, 39, 59, 69 and 97. -/
def Obligations.StartupStates : Prop :=
  (∀ (s : State),
     (s.pw.state = .prep → s.pw.perstA = true → exec .prepDone s = .next { s with pw := { s.pw with prepDone := true } }) ∧
     (s.pw.state = .prep → s.pw.perstA = false → ∃ t, exec .prepDone s = .next t ∧ t.pw.state = .train ∧ t.mc.sweep = true ∧
       t.slotKey 0 = some (BitVec.ofNat 512 (leNat (bytesOf Config.rootKey)))) ∧
     (s.pw.state = .prep → s.pw.prepDone = true → ∃ t, exec .perstRelease s = .next t ∧ t.pw.state = .train ∧ t.pw.perstA = false ∧ t.mc.sweep = true ∧ t.mc.sweepStart = s.now) ∧
     (s.engineUp = true → ∃ t, exec .perst s = .next t ∧ t.pw.state = .prep ∧ t.pw.perstA = true ∧ t.pw.tick = s.pw.tick ∧ t.pw.lastRst = 2 ∧ t.cores = [] ∧
       t.pools = [] ∧ t.mc.cells = [] ∧ t.hg.items = [] ∧ t.flash.owners = s.flash.owners ∧ t.flash.segments = s.flash.segments) ∧
     (∀ a b areas d, s.pw.state = .train → s.mc.trained = true → s.sl.test = .idle → (∀ e ∈ s.flash.owners, e.1 < 24) → ∃ t, exec (.trainDone a b areas d) s = .next t ∧ t.pw.state = .recover ∧
       t.hi.linkA = s.hi.linkA.or (some a) ∧
       (let f := { s with flash := s.flash.damage areas d }
        (f.pickCkpt = none → t.flash.unusable = true ∧ t.flash.segments = f.flash.segments) ∧
        (∀ turn c, f.pickCkpt = some (turn, c) → t.flash.unusable = s.flash.unusable ∧ t.flash.turn = turn ∧ t.flash.erases = c.wear ∧
          (∀ g ∈ t.flash.segments, ∃ h ∈ f.flash.segments, g = { h with reads := g.reads, scrubTick := g.scrubTick } ∧ (h.seq ≤ c.seq → h.seq ∈ c.segs) ∧
            (c.seq < h.seq → h.slot ∈ c.order)) ∧
          (∀ i o, t.owner? i = some o → ∃ h, f.headerOf i = some h ∧ o.nonce = h.nonce ∧ o.oek = h.oek ∧ o.gen = h.keyGen ∧ o.dry = h.dry ∧
            SMap.get c.durs 0 h.no ≤ o.dur ∧ o.nextLsn = o.dur + 1)))) ∧
     (s.pw.state = .recover → ∃ t, exec .recoverDone s = .next t ∧ t.pw.state = .ready ∧ t.flash.ready = true ∧ (∀ i, i < s.hi.n → (t.inst i).state = .stopped)) ∧
     (s.pw.state = .ready → s.pw.quiescing = false → ∃ t, exec .pwCtlQuiesce s = .next t ∧ t.pw.quiesce = true ∧ t.pw.quiescing = true ∧ t.pw.state = .ready ∧
       ∀ i, (t.inst i).state = (s.inst i).state ∧ (t.inst i).cmds = (s.inst i).cmds) ∧
     (s.pw.state = .quiesced → ∃ t, exec .pwCtlUnquiesce s = .next t ∧ t.pw.state = .ready ∧ t.pw.quiesce = false ∧ t.pw.quiescing = false ∧ t.insts = s.insts) ∧
     (s.pw.state = .ready → s.pw.quiescing = true → (∀ i, i < s.hi.n → ∀ c ∈ (s.inst i).cmds, c.phase ≠ .started) →
       (∀ e ∈ s.flash.owners, e.2.unsettled = false) → ∃ t, exec .quiesceComplete s = .next t ∧ t.pw.state = .quiesced ∧ t.flash.ckpt.seq = s.flash.sealSeq ∧
         t.insts = s.insts)) ∧
  (∀ (s : State), s.engineUp = true →
     let stops := fun (i : Instr) => ∃ t, exec i s = .next t ∧ (t.core 96).act = .halted ∧ (t.core 97).act = .halted ∧ t.hg = s.hg ∧
       (∀ c, c < 96 → t.core c = s.core c) ∧ t.mc = s.mc ∧ t.flash = s.flash ∧ t.pw = s.pw
     stops .svreset ∧ stops .lockstepMismatch ∧ stops (.supervisorCoreFault 96) ∧ stops (.supervisorCoreFault 97) ∧
     ((s.core 96).act = .halted → (s.core 97).act = .halted → (∀ i, i < s.hi.n → (s.inst i).cmds = []) →
       exec .supervisorResetDone s = .next ((s.setCore 96 Core.reset).setCore 97 Core.reset)))

/-- R30, R421, R422: the setpoint called for is the lowest of the request, FORCE_STILL and the thermal caps; a request that differs from the setpoint in force
begins a change, whose end puts it in force and starts the idle estimate anew; a cap falls once the samples have shown a junction above 100 °C for 10 ms or the cold plate
above 70 °C for 1 s, and rises after a junction at or below 90 °C for 1 s or the plate at or below 67 °C for 10 s, and not before; a thermal trip holds the module.
Completes: pwSetptWrite, forceStillEdge, thermalCap, thermalCapRelease, thermalTrip, setpointChangeDone.
Rests on the model's readings in log entries 60 and 117. -/
def Obligations.SetpointsAndThermal : Prop :=
  ∀ (s : State),
    let wanted := fun (p : Power) (sp : Setpoint) => (p.req = .still ∨ p.forced = true ∨ p.plateCap = true ∨ p.junctionCap = .still → sp = .still) ∧
      (p.req ≠ .still → p.forced = false → p.plateCap = false → p.junctionCap ≠ .still → (p.req = .flow ∨ p.junctionCap = .flow → sp = .flow) ∧
        (p.req = .spate → p.junctionCap = .spate → sp = .spate))
    let requests := fun (i : Instr) (p : Power) => ∃ t sp, exec i s = .next t ∧ wanted p sp ∧ t.pw.req = p.req ∧ t.pw.boot = p.boot ∧ t.pw.forced = p.forced ∧
      t.pw.plateCap = p.plateCap ∧ t.pw.junctionCap = p.junctionCap ∧ t.pw.cur = s.pw.cur ∧
      (s.engineUp = true → s.pw.changing = false → (sp = s.pw.cur → t.pw.changing = false) ∧
        (sp ≠ s.pw.cur → t.pw.changing = true ∧ t.pw.target = sp ∧ ∀ c, c < 96 → (t.core c).ic.pend.getLsbD 5 = true))
    (∀ v : W32, s.pw.state ≠ .off → requests (.pwSetptWrite v) { s.pw with req := spOf (v.toNat % 4), boot := spOf (v.toNat / 16 % 4) }) ∧
    (∀ low, requests (.forceStillEdge low) { s.pw with forced := low }) ∧
    (s.engineUp = true →
      (let held := fun (x : Option Nat) (ns : Nat) => ∃ t0, x = some t0 ∧ t0 + ns ≤ s.now
       let acts := fun (i : Instr) (due : Prop) (p : Power) => (due → requests i p) ∧ (¬due → exec i s = .next s)
       acts (.thermalCap true) (s.pw.plateCap = false ∧ held s.pw.plateHot 1000000000) { s.pw with plateCap := true } ∧
       acts (.thermalCap false) (s.pw.junctionCap ≠ .still ∧ held s.pw.hot 10000000) { s.pw with junctionCap := spOf (spNo s.pw.junctionCap - 1) } ∧
       acts (.thermalCapRelease true) (s.pw.plateCap = true ∧ held s.pw.plateCool 10000000000) { s.pw with plateCap := false } ∧
       acts (.thermalCapRelease false) (s.pw.junctionCap ≠ .spate ∧ held s.pw.cool 1000000000) { s.pw with junctionCap := spOf (spNo s.pw.junctionCap + 1) }) ∧
      (∃ t, exec .thermalTrip s = .next t ∧ t.pw.state = .hold ∧ t.pw.trip = true ∧ t.pw.alert.getLsbD 3 = true ∧ t.pw.lastRst = 4) ∧
      (s.pw.changing = true → ∃ t, exec .setpointChangeDone s = .next t ∧ t.pw.cur = s.pw.target ∧ t.pw.alert.getLsbD 4 = true ∧ t.tl.idleEst = 45000 ∧
        ∀ c, c < 96 → (t.core c).ic.pend.getLsbD 5 = true))

/-- R424 to R426: a time of day is loaded at once, or at the next PPS edge while locked, and then reads as the tick counter plus its offset; a missed edge ends the
lock; both go on in HOLD while VCORE_IN is up; I²C writes with a good PEC act byte by byte and others only count, reads answer the register bytes, and an alert answers
with the address. Completes: timePpsEdge, ppsMissed, pwTodSet, i2cWrite, i2cRead, alertResponse.
Rests on the model's readings in log entries 27, 62 and 73. -/
def Obligations.TimeAndManagementBus : Prop :=
  ∀ (s : State),
    (∀ v : W64, s.engineUp = true → s.pw.ppsLock = false → ∃ t, exec (.pwTodSet v) s = .next t ∧ t.tod = v.toNat ∧ t.pw.tick = s.pw.tick) ∧
    (∀ v : W64, s.engineUp = true → s.pw.ppsLock = true → exec (.pwTodSet v) s = .next { s with pw := { s.pw with todPend := some v } }) ∧
    (s.clocked = true → ∃ t, exec .timePpsEdge s = .next t ∧ t.pw.todPend = none ∧ t.pw.ppsLast = some s.now ∧ (∀ v, s.pw.todPend = some v → t.tod = v.toNat) ∧
      (s.pw.todPend = none → t.pw.todOff = s.pw.todOff)) ∧
    (s.clocked = true → ∃ t, exec .ppsMissed s = .next t ∧ t.pw.ppsLock = false ∧ t.pw.alert.getLsbD 5 = true ∧ t.pw.tick = s.pw.tick) ∧
    (s.pw.state ≠ .off → ∀ (a : BitVec 7) (index : Byte), a.toNat = s.pw.address →
      (∀ b : Byte, index = 0x14 → exec (.i2cWrite a index [b] (some (pec [BitVec.ofNat 8 (2 * a.toNat), index, b]))) s =
        .next { s with pw := { s.pw with alertMask := b.setWidth 32 &&& 0x3F } }) ∧
      (∀ data x, x ≠ some (pec (BitVec.ofNat 8 (2 * a.toNat) :: index :: data)) →
        exec (.i2cWrite a index data x) s = .next { s with pw := { s.pw with i2cErr := satInc s.pw.i2cErr } }) ∧
      (∀ n, ∃ t, exec (.i2cRead a index n false) s = .next t ∧ t.out = .i2c ((List.range n).map (fun k => s.pwRead ((index.toNat + k) % 256))) :: s.out ∧
        t.pw = s.pw)) ∧
    (s.pw.state ≠ .off → s.pw.alert &&& s.pw.alertMask ≠ 0 → exec .alertResponse s = .next (s.emit (.alertAddr (BitVec.ofNat 8 s.pw.address)))) ∧
    (s.pw.alert &&& s.pw.alertMask = 0 → exec .alertResponse s = .next s)

/-! ## The host interface (spec/08) -/

/-- R247, R248, R410, R244: a link down fails the RUNNING instances on it; an FLR resets an instance and discards its commands, items and completions; the reset's
end leaves it STOPPED with its ring settings cleared; a retrain at a lower width or rate raises LINK. Completes: hostLinkUp, hostLinkDown, linkRetrain, vfFlr, pfFlr,
perstB, perstBRelease, resetComplete.
Rests on the model's readings in log entries 30 and 82. -/
def Obligations.LinksAndResets : Prop :=
  ∀ (s : State),
    let wiped := fun (t : State) (i : Nat) => (t.inst i).state = .resetting ∧ (t.inst i).done = [] ∧ (t.inst i).culvert = [] ∧ (t.inst i).images = [] ∧
      (t.inst i).reads = 0
    (∀ p, (s.link p).isSome = true → ∃ t, exec (.hostLinkDown p) s = .next t ∧ t.link p = none ∧
      ∀ i, i < s.hi.n → (t.inst i).state = if s.portOf i = p ∧ (s.inst i).state = .running then .failedLink else (s.inst i).state) ∧
    (∀ p l, s.linksOn = true → s.portUsed p = true → (p = .b → s.pw.perstB = false) → ∃ t, exec (.hostLinkUp p l) s = .next t ∧
      t.link p = some l ∧ t.insts = s.insts) ∧
    (∀ p l o, s.link p = some o → ∃ t, exec (.linkRetrain p l) s = .next t ∧ t.link p = some l ∧
      ∀ i, i < s.hi.n → s.portOf i = p → (s.inst i).state = .running → (l.rate.toNat < o.rate.toNat ∨ l.width.toNat < o.width.toNat) →
        (t.inst i).events.getLsbD 6 = true) ∧
    (∀ i, i < 24 → i < s.hi.n → s.isUp = true → (s.inst i).state = .stopped ∨ (s.inst i).state = .running → ∃ t, exec (.vfFlr i) s = .next t ∧ wiped t i ∧
      (∀ e ∈ t.hg.items, e.2.inst ≠ i) ∧ (t.core 96).ic.pend.getLsbD 2 = true) ∧
    (∀ p, s.linksOn = true → s.portUsed p = true → ∃ t, exec (.pfFlr p) s = .next t ∧
      (∀ i, i < s.hi.n → s.portOf i = p → (s.inst i).state = .stopped ∨ (s.inst i).state = .running → wiped t i) ∧
      (p = .a → t.hi.mbBusy = false ∧ t.hi.mbDone = false ∧ t.hi.mbCur = none)) ∧
    (s.linksOn = true → s.hi.split = true → ∃ t, exec .perstB s = .next t ∧ t.pw.perstB = true ∧ t.hi.linkB = none ∧
      (∀ i, i < s.hi.n → s.portOf i = .b → (s.inst i).state = .stopped ∨ (s.inst i).state = .running → wiped t i)) ∧
    (∀ l, s.linksOn = true → s.hi.split = true → ∃ t, exec (.perstBRelease l) s = .next t ∧ t.pw.perstB = false ∧ t.hi.linkB = some l) ∧
    (∀ i, i < 24 → s.isUp = true → (s.inst i).state = .resetting → s.liveCores i ≠ [] → ∃ t, exec (.resetComplete i) s = .next t ∧ (t.inst i).state = .stopped ∧
      (t.inst i).sqLog = 0 ∧ (t.inst i).sqCi = 0 ∧ (t.inst i).evSeq = 0 ∧ (t.inst i).events = 0)

/-- R215, R221, R225, R227, R246, R329, R378, R382: GO takes the request, a second GO only sets OVERRUN; each request has the status of R227 and its effect; the
response shows the MOPC and the status, sets DONE and clears BUSY; new moderation values hold from the response on; a MOPC that R227 does not list is answered
with one of the codes of R281. Completes: hiMbGo, mbInstanceCreate, mbInstanceDestroy, mbRingSet, mbModerate, mbHostmode, mbMemExclude, mbResponse.
Rests on the model's readings in log entries 71 and 83. -/
def Obligations.MailboxRequests : Prop :=
  ∀ (s : State),
    (s.linksOn = true → s.hi.mbBusy = true → exec .hiMbGo s = .next { s with hi := { s.hi with mbOver := true } }) ∧
    (s.linksOn = true → s.hi.mbBusy = false → ∃ t, exec .hiMbGo s = .next t ∧ t.hi.mbBusy = true ∧ t.hi.mbDone = false ∧
      t.hi.mbCur = some { bytes := s.hi.mbReq, fin := none } ∧ (t.core 96).ic.pend.getLsbD 8 = true) ∧
    (∀ r : MbReq, s.hi.mbCur = some r → r.fin = none → s.isUp = true → s.svUp = true → s.sl.act = false →
      let i := fieldLE r.bytes 4 1
      let n := fieldLE r.bytes 8 1
      let answers := fun (e : Instr) (st : W16) (p : State → Prop) => ∃ t, exec e s = .next t ∧ t.hi.mbCur = some { r with fin := some st } ∧ p t
      let modOk := 1 ≤ fieldLE r.bytes 18 2 ∧ fieldLE r.bytes 18 2 ≤ 256 ∧ fieldLE r.bytes 20 4 ≤ 1000 ∧ ¬(1 < fieldLE r.bytes 18 2 ∧ fieldLE r.bytes 20 4 = 0)
      (fieldLE r.bytes 0 2 = 1 →
        (n ∈ [1, 2, 3, 4, 6, 8, 12, 24] → (s.hi.split = true → n % 2 = 0) → s.hi.n = 0 → answers .mbInstanceCreate 0 (fun t => t.hi.n = n ∧
          t.keys.octr = s.keys.octr + n ∧ (s.flash.headers = [] → ∀ j, j < n → (SMap.get t.flash.headers [] j).length = 2) ∧
          ∀ j, j < n → (t.inst j).state = .stopped ∧ (t.owner? j).any (fun o => o.oek.isNone && o.tables.isEmpty && o.dur == 0) = true)) ∧
        (n ∉ [1, 2, 3, 4, 6, 8, 12, 24] → answers .mbInstanceCreate 0x0110 (fun t => t.hi.n = s.hi.n ∧ t.insts = s.insts)) ∧
        (n ∈ [1, 2, 3, 4, 6, 8, 12, 24] → s.hi.split = false → s.hi.n ≠ 0 → answers .mbInstanceCreate 0x0200 (fun t => t.hi.n = s.hi.n))) ∧
      (fieldLE r.bytes 0 2 = 2 →
        ((∀ j, j < s.hi.n → (s.inst j).state = .stopped) → answers .mbInstanceDestroy 0 (fun t => t.hi.n = 0 ∧ t.flash.owners = [] ∧ t.flash.headers = [] ∧
          ∀ j, (t.inst j).state = .none)) ∧
        ((∃ j, j < s.hi.n ∧ (s.inst j).state ≠ .stopped) → answers .mbInstanceDestroy 0x0200 (fun t => t.hi.n = s.hi.n ∧ t.flash = s.flash))) ∧
      (fieldLE r.bytes 0 2 = 3 → i < s.hi.n → (s.inst i).state = .stopped → s.flash.unusable = false → (∀ e ∈ s.mc.chans, e.2.lost = false) →
        6 ≤ fieldLE r.bytes 16 1 → fieldLE r.bytes 16 1 ≤ 16 → 6 ≤ fieldLE r.bytes 17 1 → fieldLE r.bytes 17 1 ≤ 16 → fieldLE r.bytes 8 8 % 4096 = 0 →
        fieldLE r.bytes 24 8 % 4096 = 0 → fieldLE r.bytes 32 8 % 64 = 0 →
        (modOk → answers .mbRingSet 0 (fun t => (t.inst i).state = .running ∧ (t.inst i).sqBase = fieldLE r.bytes 8 8 ∧ (t.inst i).cqBase = fieldLE r.bytes 24 8 ∧
          (t.inst i).idxAddr = fieldLE r.bytes 32 8 ∧ (t.inst i).sqLog = fieldLE r.bytes 16 1 ∧ (t.inst i).cqLog = fieldLE r.bytes 17 1 ∧ (t.inst i).sqCi = 0 ∧
          (t.inst i).cqPi = 0)) ∧
        (¬modOk → answers .mbRingSet 0x0112 (fun t => t.insts = s.insts))) ∧
      (fieldLE r.bytes 0 2 = 4 → i < s.hi.n → (s.inst i).state = .running →
        (modOk → answers .mbModerate 0 (fun t => t.insts = s.insts)) ∧
        (¬modOk → answers .mbModerate 0x0112 (fun t => t.insts = s.insts))) ∧
      (fieldLE r.bytes 0 2 = 5 → s.hi.n = 0 →
        (n ≤ 1 → answers .mbHostmode 0 (fun t => t.hi.splitNext = (n == 1) ∧ t.hi.split = s.hi.split)) ∧
        (1 < n → answers .mbHostmode 0x0113 (fun t => t.hi.splitNext = s.hi.splitNext))) ∧
      (fieldLE r.bytes 0 2 = 6 → s.hi.n = 0 →
        (n < 24 → answers .mbMemExclude 0 (fun t => t.mc.exclNext = n ∧ t.mc.exclNow = s.mc.exclNow)) ∧
        (n = 0xFF → answers .mbMemExclude 0 (fun t => t.mc.exclNext = 0x1F)) ∧
        (24 ≤ n → n ≠ 0xFF → answers .mbMemExclude 0x0114 (fun t => t.mc = s.mc)))) ∧
    (∀ r st, s.hi.mbCur = some r → r.fin = some st → s.isUp = true → s.svUp = true → ∃ t, exec .mbResponse s = .next t ∧ t.hi.mbBusy = false ∧
      t.hi.mbDone = true ∧ t.hi.mbCur = none ∧ t.hi.mbRsp = slice r.bytes 0 2 ++ bytesOf st ++ List.replicate 12 0 ∧
      (fieldLE r.bytes 0 2 = 4 → st = 0 → ∀ i, i = fieldLE r.bytes 4 1 → (s.inst i).state = .running →
        (t.inst i).modCount = fieldLE r.bytes 18 2 ∧ (t.inst i).modTime = fieldLE r.bytes 20 4) ∧ (fieldLE r.bytes 0 2 ≠ 4 ∨ st ≠ 0 → t.insts = s.insts)) ∧
    (∀ r, s.hi.mbCur = some r → r.fin = none → s.isUp = true → s.svUp = true → fieldLE r.bytes 0 2 ∉ [1, 2, 3, 4, 5, 6] → ∃ t st, exec .mbResponse s = .next t ∧
      st ∈ statusCodes ∧ t.hi.mbRsp = slice r.bytes 0 2 ++ bytesOf st ++ List.replicate 12 0 ∧ t.hi.mbDone = true ∧ t.hi.mbBusy = false ∧ t.insts = s.insts)

/-- R234 to R241: a doorbell asks for a read of the index block, two at most to come; the block's SQ_PI becomes the fetch limit, or raises INDEX_LAP where it is more
than a ring ahead, and its CQ_CI frees entries, or raises CQ_INDEX_BAD; where it makes room the culvert's oldest entry is written, then CQ_PI; entries are fetched up to
the limit in order and SQ_CI is written, in the engine and in the index block.
Completes: vfDbSq, vfDbCq, indexBlockRead, cqFullRecheck, sqFetch. -/
def Obligations.DoorbellsAndFetching : Prop :=
  ∀ (s : State) (i : Nat), i < 24 →
    let x := s.inst i
    (x.state = .running → ∀ hint : W32, ∀ e ∈ [Instr.vfDbSq i hint, .vfDbCq i hint], exec e s = .next (s.setInst i { x with reads := min 2 (x.reads + 1) })) ∧
    (x.state ≠ .running → ∀ hint : W32, ∀ e ∈ [Instr.vfDbSq i hint, .vfDbCq i hint], exec e s = .next s) ∧
    (∀ sqPi cqCi : W32, x.state = .running → x.reads ≠ 0 → x.culvert = [] → s.liveCores i ≠ [] → ∃ t, exec (.indexBlockRead i sqPi cqCi) s = .next t ∧
      (t.inst i).reads = x.reads - 1 ∧ (t.inst i).sqPi = sqPi ∧ (t.inst i).cqCi = cqCi ∧
      ((sqPi - x.sqCi).toNat ≤ 2 ^ x.sqLog → (t.inst i).limit = sqPi ∧ (t.inst i).lapped = false) ∧
      (2 ^ x.sqLog < (sqPi - x.sqCi).toNat → (t.inst i).limit = x.limit ∧ (t.inst i).lapped = true ∧ (t.inst i).events.getLsbD 0 = true) ∧
      ((x.cqPi - cqCi).toNat ≤ 2 ^ x.cqLog → (t.inst i).cqBad = false) ∧
      (2 ^ x.cqLog < (x.cqPi - cqCi).toNat → (t.inst i).cqBad = true ∧ (t.inst i).events.getLsbD 1 = true)) ∧
    (∀ (sqPi cqCi : W32) (c : Cqe), x.state = .running → x.reads ≠ 0 → x.culvert = [c] → x.done = [] → x.stall = false → s.liveCores i ≠ [] →
      (x.cqPi - cqCi).toNat < 2 ^ x.cqLog → x.idxAddr + 12 ≤ x.cqBase → ∃ t, exec (.indexBlockRead i sqPi cqCi) s = .next t ∧ (t.inst i).culvert = [] ∧
        (t.inst i).cqPi = x.cqPi + 1 ∧ Cells.readList t.hi.mem (x.cqBase + 16 * (x.cqPi.toNat % 2 ^ x.cqLog)) 16 = bytesOf c.entry ∧
        Cells.readList t.hi.mem (x.idxAddr + 8) 4 = bytesOf (x.cqPi + 1)) ∧
    (∀ sqPi cqCi : W32, x.state = .running → x.cqFull = true → x.culvert = [] → x.done ≠ [] → x.readTick + 10000 ≤ s.now → s.liveCores i ≠ [] →
      ∃ t, exec (.cqFullRecheck i sqPi cqCi) s = .next t ∧ (t.inst i).cqCi = cqCi ∧ (t.inst i).sqPi = x.sqPi ∧ (t.inst i).limit = x.limit ∧ (t.inst i).readTick = s.now) ∧
    (∀ entries : List W512, s.canFetch i entries.length = true → ∃ t, exec (.sqFetch i entries) s = .next t ∧
      (t.inst i).sqCi = x.sqCi + BitVec.ofNat 32 entries.length ∧ (t.inst i).nextNo = x.nextNo + entries.length ∧
      Cells.readList t.hi.mem (x.idxAddr + 4) 4 = bytesOf (t.inst i).sqCi) ∧
    (∀ e : W512, s.canFetch i 1 = true → x.openBatch = none → entryCheck x (bytesOf e) = none → fieldLE (bytesOf e) 5 1 % 4 = 0 → fieldLE (bytesOf e) 0 2 ≠ 3 →
      (∀ c ∈ x.cmds, ∀ n st, c.phase ≠ .abortWait n st) → ∃ t c, exec (.sqFetch i [e]) s = .next t ∧ (t.inst i).cmds = x.cmds ++ [c] ∧ c.no = x.nextNo ∧ c.src = .ring ∧
        c.cid = BitVec.ofNat 16 (fieldLE (bytesOf e) 2 2) ∧ c.opc = fieldLE (bytesOf e) 0 2 ∧ c.cls = fieldLE (bytesOf e) 4 1 ∧ c.phase = .queued)

/-- R239, R240, R245, R224: the oldest completion is written to the CQ, then CQ_PI to the index block; where the ring is full it goes to the culvert, and a full culvert stops
the instance, counts and raises CQ_STALL; a moderated vector is sent when its timer runs out; a pending vector is sent when it is unmasked; VF_EVENT is cleared by its
read. Completes: completionWrite, msixModTimer, msixUnmask, vfEventRead.
R13, R14, R245, R250, R282, R309, R331, R386, R407, R419, R427: a host write of a register through PF0 sets the fields it may set, each clamped as its rule says,
clears the bits written as one of a W1C field, starts what a control bit starts, and leaves the rest of the machine alone; a read-only or reserved offset ignores it; before
READY the blocks beyond GLB, PW and HI are closed. Completes: registerWrite. -/
def Obligations.CompletionsAndMessages : Prop :=
  (∀ (s : State),
    (∀ i c rest, i < 24 → (s.inst i).state = .running → (s.inst i).done = c :: rest →
      let x := s.inst i
      (x.culvert = [] → x.cqFull = false → s.liveCores i ≠ [] → ∃ t, exec (.completionWrite i) s = .next t ∧ (t.inst i).done = rest ∧
        (t.inst i).cqPi = x.cqPi + 1 ∧ (t.inst i).cmds = x.cmds ∧ Cells.readList t.hi.mem (x.idxAddr + 8) 4 = bytesOf (x.cqPi + 1) ∧
        (x.idxAddr + 12 ≤ x.cqBase ∨ x.cqBase + 16 * 2 ^ x.cqLog ≤ x.idxAddr + 8 →
          Cells.readList t.hi.mem (x.cqBase + 16 * (x.cqPi.toNat % 2 ^ x.cqLog)) 16 = bytesOf c.entry)) ∧
      (x.cqFull = true → x.culvert.length < 511 → exec (.completionWrite i) s = .next (s.setInst i { x with done := rest, culvert := x.culvert ++ [c] })) ∧
      (x.cqFull = true → x.culvert.length = 511 → x.stall = false → ∃ t, exec (.completionWrite i) s = .next t ∧ (t.inst i).stall = true ∧
        (t.inst i).culvert = x.culvert ++ [c] ∧ (t.inst i).events.getLsbD 2 = true ∧ (t.inst i).cqStall = satInc x.cqStall)) ∧
    (∀ i t0, i < 24 → (s.inst i).unsigTick = some t0 → t0 + 1000 * (s.inst i).modTime ≤ s.now → ∃ t, exec (.msixModTimer i) s = .next t ∧
      (t.inst i).unsig = 0 ∧ (t.inst i).unsigTick = none ∧
      ((s.vec (.vf i) 0).mask = false → t.out = .msix (s.vec (.vf i) 0).addr (s.vec (.vf i) 0).data :: s.out) ∧
      ((s.vec (.vf i) 0).mask = true → t.out = s.out ∧ (t.vec (.vf i) 0).pend = true)) ∧
    (∀ f v, v < vecCount f → ∃ t, exec (.msixUnmask f v) s = .next t ∧ (t.vec f v).mask = false ∧ (t.vec f v).pend = false ∧
      t.out = (if (s.vec f v).pend then [Output.msix (s.vec f v).addr (s.vec f v).data] else []) ++ s.out) ∧
    (∀ i, i < 24 → i < s.hi.n → s.isUp = true → exec (.vfEventRead i) s = .next (s.setInst i { s.inst i with events := 0 }))) ∧
  (∀ (s : State) (v : W32), s.linksOn = true →
    let gives := fun (off : Nat) (t : State) => exec (.registerWrite .pf0 off v) s = .next t
    let near := fun (lo hi x : Nat) => BitVec.ofNat 32 (if x < lo then lo else if hi < x then hi else x)
    let some1 := fun (x : Nat) => if x = 0 then 1 else x
    (∀ k, k < 16 → s.hi.mbReq.length = 64 → ∃ t, gives (0x2040 + 4 * k) t ∧ slice t.hi.mbReq (4 * k) 4 = bytesOf v ∧ t = { s with hi := { s.hi with mbReq := t.hi.mbReq } } ∧
      ∀ j, j < 64 → j / 4 ≠ k → t.hi.mbReq.getD j 0 = s.hi.mbReq.getD j 0) ∧
    (v.getLsbD 0 = true → exec (.registerWrite .pf0 0x2090 v) s = exec .hiMbGo s) ∧ (v.getLsbD 0 = false → gives 0x2090 s) ∧
    gives 0x2094 { s with hi := { s.hi with mbDone := s.hi.mbDone && !v.getLsbD 1, mbOver := s.hi.mbOver && !v.getLsbD 2 } } ∧
    gives 0x1010 { s with pw := { s.pw with alert := s.pw.alert &&& ~~~(v &&& 0xFF) } } ∧
    gives 0x1014 { s with pw := { s.pw with alertMask := v &&& 0x3F } } ∧
    (∀ (f : Fn) (base n : Nat), (f = .pf0 ∧ base = 0x3000 ∧ n < 32) ∨ (∃ i, i < 24 ∧ f = .vf i ∧ base = 0x8000 ∧ n < 2) →
      let x := s.vec f n
      let stores := fun (k : Nat) (y : Vec) => exec (.registerWrite f (base + 16 * n + k) v) s = .next (s.setVec f n y)
      stores 0 { x with addr := BitVec.ofNat 64 (x.addr.toNat / 2 ^ 32 % 2 ^ 32 * 2 ^ 32 + v.toNat) } ∧
      stores 4 { x with addr := BitVec.ofNat 64 (v.toNat * 2 ^ 32 + x.addr.toNat % 2 ^ 32) } ∧ stores 8 { x with data := v } ∧
      (v.getLsbD 0 = true → stores 12 { x with mask := true }) ∧ (v.getLsbD 0 = false → x.pend = false → stores 12 { x with mask := false })) ∧
    (s.isUp = true →
      (∃ t, gives 0x10000 t ∧ t = { s with sl := { s.sl with classw := t.sl.classw } } ∧ bits t.sl.classw 16 16 = 0 ∧
        ∀ k, k < 4 → bits t.sl.classw (4 * k) 4 = some1 (bits v (4 * k) 4)) ∧
      gives 0x10004 { s with sl := { s.sl with urgcap := BitVec.ofNat 32 (some1 (bits v 0 4)) } } ∧
      gives 0x40008 { s with mc := { s.mc with pdn := if bits v 0 16 = 0 then 0 else near 100 60000 (bits v 0 16) } } ∧
      gives 0x4000C { s with mc := { s.mc with sref := if bits v 0 20 = 0 then 0 else near 10 1000000 (bits v 0 20) } } ∧
      gives 0x40004 { s with mc := { s.mc with reject := s.mc.reject && !v.getLsbD 2 } } ∧
      (v.getLsbD 0 = true → exec (.registerWrite .pf0 0x40000 v) s = exec .resweep s) ∧
      (∀ k, k < 6 → (s.hi.n ≠ 0 → gives (0x40010 + 4 * k) { s with mc := { s.mc with reject := true } }) ∧
        (s.hi.n = 0 → s.mc.bankx.length = 6 → ∃ t, gives (0x40010 + 4 * k) t ∧ t = { s with mc := { s.mc with bankx := t.mc.bankx } } ∧
          t.mc.bankx.getD k 0 = ((v &&& 0x7FFFC0) ||| BitVec.ofNat 32 (2 ^ k)) ∧ ∀ j, j ≠ k → t.mc.bankx.getD j 0 = s.mc.bankx.getD j 0)) ∧
      exec (.registerWrite .pf0 0x70004 v) s = exec (.ksOekLoad v) s ∧
      gives 0x70000 { s with keys := { s.keys with reject := s.keys.reject && !v.getLsbD 1 } } ∧
      (∀ k, k < 16 → s.keys.oekData.length = 64 → ∃ t, gives (0x70040 + 4 * k) t ∧ slice t.keys.oekData (4 * k) 4 = bytesOf v ∧
        t = { s with keys := { s.keys with oekData := t.keys.oekData } } ∧ ∀ j, j < 64 → j / 4 ≠ k → t.keys.oekData.getD j 0 = s.keys.oekData.getD j 0) ∧
      (s.part.variant ≠ .b → gives 0x80000 { s with fp := { s.fp with tmo := near 100 1000000 (bits v 0 24) } } ∧
        gives 0x80004 { s with fp := { s.fp with ka := near 10 10000 (bits v 0 16) } } ∧
        gives 0x80008 { s with fp := { s.fp with quar := BitVec.ofNat 32 (some1 (bits v 0 8)) } } ∧
        gives 0x8000C { s with fp := { s.fp with inflight := near 16 1024 (bits v 0 12) } }) ∧
      (s.part.variant = .b → ∀ o, o < 0x10000 → gives (0x80000 + o) s) ∧
      gives 0x90000 { s with tl := { s.tl with pace := v &&& 0xFFFFFF } } ∧
      (v.getLsbD 0 = true → exec (.registerWrite .pf0 0x22014 v) s = exec .hgCtlStatclr s) ∧
      (∀ off ∈ [0x10008, 0x10100, 0x20000, 0x30000, 0x31800, 0x40028, 0x40030, 0x41000, 0x50000, 0x50008, 0x60000, 0x68000, 0x70100, 0x80010, 0x81000, 0x90004, 0x90010, 0xB0000],
        gives off s)) ∧
    (∀ off ∈ [0, 4, 0x1000, 0x1018, 0x1020, 0x1080, 0x2000, 0x2004, 0x2080, 0x2100], gives off s) ∧
    (∀ off, off % 4 ≠ 0 → gives off s) ∧
    (s.isUp = false → ∀ off, 0x10000 ≤ off → gives off s))

/-! ## The Sluice and its commands (spec/09) -/

/-- R81, R82, R260 to R264, R267, R270: a command that starts with nothing else in its instance. APPEND reserves its room and waits for its bytes, QUERY_RUN makes
its query, IMAGE_LOAD makes the copy and waits for its check; the others complete with their status and result. A command of the administering instance
completes with 0x0503 elsewhere. Completes: append, flush, queryRun, imageLoad, imageUnload, tableCreate, tableDrop, blockExport, logRead.
Rests on the model's readings in log entries 15 and 74. -/
def Obligations.CommandStarts : Prop :=
  ∀ (s t : State) (i : Nat) (c : Cmd), s.nextStart = some (i, c, t) → (t.inst i).cmds = [c] → c.src = .ring → c.batch = none →
    let completes := fun (e : Instr) (st : W16) (res : W64) (p : State → Prop) => ∃ u, exec e s = .next u ∧
      (u.inst i).done = (t.inst i).done ++ [soloCqe c.cid st res [c.cid]] ∧ (u.inst i).cmds = [] ∧ p u
    (c.opc = 0x01 → ∀ descs,
      (∀ o tb buf blk t1, hostAppendBad c descs = none → t.owner? i = some o → o.table? c.handle = some tb → o.dry = false → c.op 16 4 % tb.stride = 0 →
        t.flashRoom i o (c.op 16 4) = true → t.reserveAppend i (c.op 16 4) tb.cols.length tb.stride = some (buf, blk, t1) →
        ∃ u c', exec (.append descs) s = .next u ∧ (u.inst i).cmds = [c'] ∧ c'.no = c.no ∧ c'.work = .append
          { table := tb.id, len := c.op 16 4, bufDa := buf, roomDa := some blk, got := 0, charges := 0, full := false, made := 0, committed := 0 }) ∧
      (∀ st, c.work = .none → hostAppendBad c descs = some st → completes (.append descs) st 0 (fun _ => True))) ∧
    (c.opc = 0x02 → ∀ o, t.owner? i = some o → o.origins = [] → o.bad = [] → completes .flush 0x0002 (BitVec.ofNat 64 o.dur) (fun _ => True)) ∧
    (c.opc = 0x10 → s.mc.sweep = false → ∀ params m o ctx pools fl arena t1, queryAddrs c = true → (t.inst i).image? c.handle = some m → t.owner? i = some o →
      c.op 24 4 = imgParamLen m.bytes → t.freeCtx i = some ctx →
      (t.liveClusters i).mapM (fun cl => (t.freePool i cl (imgPoolNeed m.bytes)).map (fun b => (cl, b))) = some pools →
      t.freeFlumes i (imgFlumes m.bytes) = some fl → scansBad o m.bytes = none →
      t.alloc i 4096 (max (allMorsels o m.bytes (o.nextLsn - 1) (roundUp (imgLeaseNeed m.bytes) 64 + roundUp (imgParamLen m.bytes) 64)).2 64) = some (arena, t1) →
      ∃ u q, exec (.queryRun params) s = .next u ∧ u.query? ctx = some q ∧ q.inst = i ∧ q.cmd = c.no ∧ q.cid = c.cid ∧ q.image = m.id ∧
        q.snapshot = o.nextLsn - 1 ∧ q.flumes = fl ∧ q.poolBase = pools ∧ q.arenaDa = arena ∧ q.written = 0 ∧ q.status = none ∧ q.fin = false) ∧
    (c.opc = 0x11 → s.mc.sweep = false → ∀ image da t1,
      let b := slice image 0 (c.op 24 4)
      addrOk (c.op 16 8) = true → fieldLE b 4 4 = c.op 24 4 → 32 ≤ c.op 24 4 → (∀ m ∈ (t.inst i).images, m.id ≠ BitVec.ofNat 64 (fieldLE b 8 8)) →
      (t.inst i).images.length < 64 → t.alloc i 64 (c.op 24 4) = some (da, t1) → (∃ e, e < 8 ∧ (t.engine e).oos = false) →
      ∃ u m, exec (.imageLoad image) s = .next u ∧ m ∈ (u.inst i).images ∧ m = { id := BitVec.ofNat 64 (fieldLE b 8 8), da := da, bytes := b, loading := true }) ∧
    (c.opc = 0x12 → c.work = .none → ∀ m, (t.inst i).image? c.handle = some m → (∀ e ∈ t.hg.queries, e.2.inst ≠ i) →
      completes .imageUnload 0 0 (fun u => (u.inst i).images = (t.inst i).images.filter (fun z => z.id != m.id))) ∧
    (c.opc = 0x20 → c.work = .none → ∀ schema o,
      let b := slice schema 0 (c.op 24 2)
      addrOk (c.op 16 8) = true → schemaOk b (c.op 24 2) = true → t.owner? i = some o → o.dry = false → o.tables.length < 1024 → o.nextTable ≠ 0xFFFFFFFF →
      completes (.tableCreate schema) 0 (BitVec.ofNat 64 o.nextTable) (fun u => u.owner? i = some { o with
        nextTable := o.nextTable + 1, tables := o.tables ++ [{ id := o.nextTable, cols := schemaCols b, rows := 0, blocks := (schemaCols b).map (fun _ => []) }] })) ∧
    (c.opc = 0x21 → c.work = .none → ∀ o tb, t.owner? i = some o → o.table? c.handle = some tb → t.tableBusy i tb.id = false →
      completes .tableDrop 0 0 (fun u => ∃ o', u.owner? i = some o' ∧ o'.tables = o.tables.filter (fun y => y.id != tb.id) ∧ o.dur ≤ o'.dur)) ∧
    (c.opc = 0x22 → c.work = .none → s.mc.sweep = false → ∀ o tb b da bs, c.op 40 8 ≠ 0 → c.op 40 8 % 4096 = 0 → t.owner? i = some o → o.table? c.handle = some tb →
      c.op 16 1 < tb.cols.length → c.op 32 4 = 1 → (tb.col (c.op 16 1))[c.op 24 8]? = some b → b.lost = false → b.da = some da → b.len ≤ c.op 36 4 →
      (t.readMem i da b.len).1 = some bs → completes .blockExport 0 (BitVec.ofNat 64 (b.len + 2 ^ 32)) (fun u => Cells.readList u.hi.mem (c.op 40 8) bs.length = bs)) ∧
    (c.opc = 0x30 → c.work = .none → ∀ page t1, addrOk (c.op 32 8) = true → t.logPage i (c.op 16 1) = some (page, t1) → c.op 24 4 % 64 = 0 → 64 ≤ c.op 24 4 →
      c.op 24 4 ≤ 2 ^ 20 → completes .logRead 0 (BitVec.ofNat 64 (c.op 24 4))
        (fun u => Cells.readList u.hi.mem (c.op 32 8) (c.op 24 4) = slice page (c.op 20 4) (c.op 24 4))) ∧
    (c.opc ∈ [0x40, 0x41, 0x42, 0x43] → c.work = .none → i ≠ 0 →
      (c.opc = 0x40 → completes .selftestStart 0x0503 0 (fun u => u.sl = t.sl)) ∧ (c.opc = 0x41 → completes .selftestAbort 0x0503 0 (fun u => u.sl = t.sl)) ∧
      (c.opc = 0x42 → ∀ bs, completes (.fwDownload bs) 0x0503 0 (fun u => u.sl = t.sl)) ∧
      (c.opc = 0x43 → completes .fwActivate 0x0503 0 (fun u => u.sl = t.sl)))

/-- R266, R274, R275, R277 to R279, R307, R380: ports disabled, enabled and released; a rekey's new image key and generation; the self-test from start to end, its
pause over after 10 ms; firmware staged, activated and switched.
Completes: portCtlDisable, portCtlEnable, portCtlRelease, ownerRekey, selftestStart, selftestAbort, selftestEnd, selftestResume, fwDownload, fwActivate, fwSwitch.
Rests on the model's readings in log entries 74 and 89. -/
def Obligations.AdministeringCommands : Prop :=
  (∀ (s t : State) (i : Nat) (c : Cmd), s.nextStart = some (i, c, t) → (t.inst i).cmds = [c] → c.src = .ring → c.batch = none → c.work = .none →
    let completes := fun (e : Instr) (res : W64) (p : State → Prop) => ∃ u, exec e s = .next u ∧
      (u.inst i).done = (t.inst i).done ++ [soloCqe c.cid 0 res [c.cid]] ∧ (u.inst i).cmds = [] ∧ p u
    (c.opc = 0x31 →
      let p := c.op 16 2
      p < 576 → instOfPort t.hi.n p = some i →
      t.part.variant ≠ .b →
      (c.op 18 1 = 0 → (t.portFlags p).1 = false → (∀ x, (t.port p).sess = some x → x.tags = []) →
        completes .portCtlDisable 0 (fun u => (u.portFlags p).1 = true ∧ (u.port p).sess = none ∧ (u.port p).pend = none)) ∧
      (c.op 18 1 = 1 → (t.portFlags p).1 = true → completes .portCtlEnable 0 (fun u => (u.portFlags p).1 = false ∧ (u.port p).lock = false)) ∧
      (c.op 18 1 = 2 → completes .portCtlRelease 0 (fun u => (u.portFlags p).2 = false ∧ (u.portFlags p).1 = (t.portFlags p).1))) ∧
    (c.opc = 0x32 → s.waitingRekey = none → c.op 16 1 = 1 → ∀ o k, t.owner? i = some o → o.oek = some k → o.gen ≠ BitVec.allOnes 32 →
      t.keyedFrom (imageKeySlot i) = false → completes .ownerRekey ((o.gen + 1).setWidth 64) (fun u => u.owner? i = some { o with gen := o.gen + 1 } ∧
        u.slotKey (imageKeySlot i) = some (BitVec.ofNat 512 (leNat (imageKey (bytesOf k) (o.gen + 1).toNat))))) ∧
    (i = 0 →
      (c.opc = 0x40 → c.op 16 1 = 1 ∨ c.op 16 1 = 2 → t.sl.test = .idle → t.sl.act = false →
        completes .selftestStart 0 (fun u => u.sl.test = .running ∧ u.sl.testKind = c.op 16 1 ∧ u.sl.testStart = t.now)) ∧
      (c.opc = 0x41 → t.sl.test ≠ .idle → completes .selftestAbort 0 (fun u => u.sl.test = .idle ∧ (u.sl.log.head?).any (fun e => e.result == 2) = true)) ∧
      (c.opc = 0x42 → ∀ bs, addrOk (c.op 24 8) = true → c.op 16 4 = 0 → c.op 20 4 % 4096 = 0 → 4096 ≤ c.op 20 4 → c.op 20 4 ≤ 2 ^ 20 → t.sl.act = false →
        completes (.fwDownload bs) (BitVec.ofNat 64 (slice bs 0 (c.op 20 4)).length) (fun u => u.sl.staged = slice bs 0 (c.op 20 4))) ∧
      (c.opc = 0x43 → t.sl.staged ≠ [] → t.sl.test = .idle → t.sl.act = false → (t.fwCheck t.sl.staged).1 = true → ∃ u, exec .fwActivate s = .next u ∧
        u.sl.act = true ∧ u.sl.actNo = c.no ∧ u.hg.paused = true))) ∧
  (∀ (s : State) (c : Cmd), s.sl.act = true → s.svUp = true → (∀ i, i < s.hi.n → (s.inst i).runsOn = false) → (s.inst 0).cmds = [c] → c.no = s.sl.actNo →
    c.src = .ring → c.batch = none → c.opc = 0x43 → c.work = .activate →
    (∃ u, exec (.fwSwitch true) s = .next u ∧ u.sl.act = false ∧ u.hg.paused = false ∧ u.sl.revision = Config.freeWord s.fresh ∧
      (u.inst 0).done = (s.inst 0).done ++ [soloCqe c.cid 0 (Config.freeWord s.fresh) [c.cid]]) ∧
    (∃ u, exec (.fwSwitch false) s = .next u ∧ u.sl.act = false ∧ u.hg.paused = false ∧ u.sl.revision = s.sl.revision ∧
      (u.inst 0).done = (s.inst 0).done ++ [soloCqe c.cid 0x0706 s.sl.revision [c.cid]])) ∧
  (∀ (s : State), s.sl.test = .running → s.isUp = true → s.svUp = true →
    let ends := fun (f : Option TestFail) (result element index : Nat) (p : State → Prop) => ∃ u e es, exec (.selftestEnd f) s = .next u ∧ u.sl.test = .idle ∧
      u.sl.log = e :: es ∧ e.result = result ∧ e.element = element ∧ e.index = index ∧ e.kind = s.sl.testKind ∧ e.start = s.sl.testStart ∧ p u
    ends none 0 0 0 (fun _ => True) ∧
    (∀ f, ends (some f) 1 f.element.toNat f.index.toNat (fun u => (f.element.toNat = 1 → f.index.toNat < 96 → u.hg.oos.contains f.index.toNat = true) ∧
      (f.element.toNat = 2 → f.index.toNat < 48 → (u.unit f.index.toNat).oos = true) ∧ (f.element.toNat = 3 → f.index.toNat < 8 → (u.engine f.index.toNat).oos = true) ∧
      (f.element.toNat = 4 → f.index.toNat < 24 → u.keys.oosMem.contains f.index.toNat = true)))) ∧
  (∀ (s : State), s.sl.test = .paused → s.svUp = true → s.sl.lastCmd + 10000000 ≤ s.now →
    exec .selftestResume s = .next { s with sl := { s.sl with test := .running, testTick := s.now } })

/-- R20, R260, R272: a piece of a host APPEND is read in order and charged; an ABORT of a queued command completes it with ABORTED and then completes with 0x0003, or
with 0x010C where it names itself. Completes: hostAppendPieceRead, abort.
Rests on the model's readings in log entries 65 and 75. -/
def Obligations.AppendPiecesAndAborts : Prop :=
  ∀ (s : State) (i : Nat), i < 24 →
    (∀ c a bs, (s.inst i).cmds = [c] → c.src = .ring → c.work = .append a → bs ≠ [] → bs.length ≤ 262144 → a.got + bs.length < a.len → s.withheld i = false → s.mc.sweep = false →
      ∃ u c', exec (.hostAppendPieceRead i bs) s = .next u ∧ (u.inst i).cmds = [c'] ∧
        c'.work = .append { a with got := a.got + bs.length, charges := a.charges + s.chargeFor i a.table bs.length, full := false }) ∧
    (∀ d c, (s.inst i).cmds = [d, c] → (s.inst i).batches = [] → d.no < c.no → d.src = .ring → d.batch = none → d.phase = .queued → d.work = .none → d.opc ≠ 3 →
      c.src = .ring → c.batch = none → c.phase = .abortHeld → c.work = .none → c.opc = 3 → BitVec.ofNat 16 (c.op 16 2) = d.cid → d.cid ≠ c.cid →
      (s.inst i).abortCids.contains d.cid = false →
      ∃ u, exec (.abort i) s = .next u ∧ (u.inst i).cmds = [] ∧ (u.inst i).done.map Cqe.entry =
        (s.inst i).done.map Cqe.entry ++ [cqEntry d.cid 0x0600 1 0 0, cqEntry c.cid 0x0003 1 0xFFFF 0]) ∧
    (∀ c, (s.inst i).cmds = [c] → c.src = .ring → c.batch = none → c.phase = .abortHeld → c.work = .none → c.opc = 3 →
      BitVec.ofNat 16 (c.op 16 2) = c.cid → ∃ u, exec (.abort i) s = .next u ∧ (u.inst i).cmds = [] ∧
        (u.inst i).done.map Cqe.entry = (s.inst i).done.map Cqe.entry ++ [cqEntry c.cid 0x010C 1 0 0])

/-! ## Field ports (spec/10) -/

/-- R284, R286, R292, R295: an accepted OPEN derives its port key and waits; OPEN_ACK makes the pending session with the next identifier and goes out from the port's own address; a pending session that no frame
follows for 1 s lapses with its key; sessions end without a frame on a lane fault, which raises FPEVENT, or a lost link. On YQ96-B, without optics, nothing arrives (R2).
Completes: openFrame, openAck, pendingSessionLapse, laneFault, fieldLinkUp, fieldLinkDown, keepaliveTimeout.
Rests on the model's readings in log entry 15. -/
def Obligations.SessionsOpenAndClose : Prop :=
  ∀ (s : State) (p : Nat), p < 576 →
    let z := s.port p
    let ended := fun (t : State) => (t.port p).sess = none ∧ (t.port p).pend = none ∧ (t.port p).opens = []
    (∀ f i o k, s.part.variant ≠ .b → s.isUp = true → z.laneFault = false → f.fcsOk = true → 64 ≤ f.size → f.size ≤ 9216 → f.etherType = 0x88B5 → 48 ≤ f.payload.length →
      fVersion f.payload = 1 → fLen f.payload = f.payload.length - 48 → s.portFlags p = (false, false) → fType f.payload = 1 → instOfPort s.hi.n p = some i →
      i < s.hi.n → (s.inst i).state.closed = false → earlyBad f.payload false = none → middleBad f.payload p = none → s.owner? i = some o → o.gen ≠ 0 →
      fieldLE (fPay f.payload) 24 4 = o.gen.toNat → authOk (s.portKey i p ++ List.replicate 32 0) f.payload = true → fixedOk f.payload = true →
      s.generalSlot = some k → ∃ t, exec (.openFrame p f) s = .next t ∧ (t.port p).rxOk = satInc z.rxOk ∧
        (t.port p).opens = z.opens ++ [{ unonce := slice (fPay f.payload) 0 16, mac := f.src, slot := k }] ∧
        t.slotKey k = some (BitVec.ofNat 512 (leNat (s.portKey i p)))) ∧
    (∀ r rest, s.isUp = true → s.svUp = true → z.opens = r :: rest → ∃ t x pl, exec (.openAck p) s = .next t ∧ (t.port p).opens = rest ∧
      (t.port p).pend = some x ∧ x.id = z.nextId ∧ x.mac = r.mac ∧ x.rx = 0 ∧ x.tx = 0 ∧ x.tags = [] ∧ (t.port p).sess = z.sess ∧
      t.out = .frame p r.mac (portMac p) pl :: s.out) ∧
    (∀ x, z.pend = some x → x.rxTick + 10 ^ 9 ≤ s.now → ∃ t, exec (.pendingSessionLapse p) s = .next t ∧ (t.port p).pend = none ∧ t.slotKey x.slot = none ∧
      t.out = s.out) ∧
    (s.part.variant ≠ .b → s.engineUp = true → z.laneFault = false → ∃ t, exec (.laneFault p) s = .next t ∧ ended t ∧ (t.port p).laneFault = true ∧ (t.port p).lock = false ∧
      (t.core 96).ic.pend.getLsbD 7 = true) ∧
    (s.part.variant ≠ .b → s.engineUp = true → z.laneFault = false → exec (.fieldLinkUp p) s = .next (s.setPort p { z with lock := true })) ∧
    (s.part.variant = .b → ∀ f, ∀ e ∈ [Instr.openFrame p f, .otherFrame p f, .fieldLinkUp p, .laneFault p], exec e s = .next s) ∧
    (z.lock = true → ∃ t, exec (.fieldLinkDown p) s = .next t ∧ ended t ∧ (t.port p).lock = false) ∧
    (∀ x, z.sess = some x → x.rxTick + 4000000 * s.fp.ka.toNat ≤ s.now → ∃ t, exec (.keepaliveTimeout p) s = .next t ∧ (t.port p).sess = none)

/-- R290, R295, R297, R298, R301 to R303: frames on an open session. Each accepted frame raises the last accepted SEQ; APPEND and FLUSH take their tag and queue
their command; DATA fills its window; an ABORT of a free tag and a status query are answered; a frame with a bad FCS is only counted.
Completes: otherFrame, appendFrame, flushFrame, keepalive, abortFrame, statusQuery, dataFrame.
Rests on the model's readings in log entries 77 and 88. -/
def Obligations.SessionFrames : Prop :=
  ∀ (s : State) (p i : Nat) (x : Session) (f : Frame), p < 576 → s.part.variant ≠ .b →
    let z := s.port p
    let b := f.payload
    (f.fcsOk = false → s.isUp = true → z.laneFault = false → exec (.otherFrame p f) s = .next (s.setPort p { z with fcsErr := satInc z.fcsErr })) ∧
    (f.fcsOk = true → f.etherType ≠ 0x88B5 → s.isUp = true → z.laneFault = false →
      exec (.otherFrame p f) s = .next (s.setPort p { z with drop := satInc z.drop })) ∧
    (s.isUp = true → z.laneFault = false → f.fcsOk = true → 64 ≤ f.size → f.size ≤ 9216 → f.etherType = 0x88B5 → 48 ≤ b.length → fVersion b = 1 →
      fLen b = b.length - 48 → s.portFlags p = (false, false) → instOfPort s.hi.n p = some i → z.sess = some x → x.id.toNat = fSession b →
      authOk (s.slotBytes x.slot) b = true → x.rx.toNat < fSeq b → fSeq b ≠ 0xFFFFFFFF → earlyBad b (SMap.find x.tags (fTag b)).isSome = none →
      middleBad b p = none → lateBad b = none → x.tx.toNat + 1 < 0xFFFFFFFF →
      let y := { x with rx := BitVec.ofNat 32 (fSeq b), rxTick := s.now }
      let heard := { z with sess := some y, rxOk := satInc z.rxOk }
      let head := fun (ty a0 a1 : Nat) => wfpHead ty p x.id.toNat (x.tx.toNat + 1) (fTag b) 0 0 a0 a1
      let answer := fun (h : List Byte) => Output.frame p x.mac (portMac p) (h ++ wfpAuth (s.slotBytes x.slot) h [])
      let queues := fun (e : Instr) (opc len : Nat) (st : TagState) => ∃ t c, exec e s = .next t ∧ (t.inst i).cmds = (s.inst i).cmds ++ [c] ∧
        c.no = (s.inst i).nextNo ∧ c.src = .field p (fTag b) x.id ∧ c.opc = opc ∧ c.cls = 1 ∧ c.fence = (fFlags b).testBit 0 ∧ c.phase = .queued ∧
        (t.port p).sess = some { y with tags := SMap.set x.tags (fTag b) { state := st, cmd := c.no, len := len, next := 0, windows := [], order := 0 } }
      (fType b = 0x10 → s.sl.act = false → queues (.appendFrame p f) 1 (fArg0 b) .queued) ∧
      (fType b = 0x16 → s.sl.act = false → queues (.flushFrame p f) 2 0 .flush) ∧
      (fType b = 0x21 → exec (.keepalive p f) s = .next (s.setPort p heard)) ∧
      (fType b = 0x14 → SMap.find x.tags (fTag b) = none → ∃ t, exec (.abortFrame p f) s = .next t ∧ t.out = answer (head 0x15 0x0602 0) :: s.out) ∧
      (fType b = 0x20 → fArg0 b % 256 = 1 → SMap.find x.tags (fTag b) = none → ∀ o, s.owner? i = some o → ∃ t, exec (.statusQuery p f) s = .next t ∧
        t.out = answer (head 0x20 (2 + 0xFFFFFFFF * 2 ^ 32) o.dur) :: s.out) ∧
      (fType b = 0x12 → ∀ tg w c a, SMap.find x.tags (fTag b) = some tg → tg.state = .granted → tg.windows = [w] → w.got = [] → fArg0 b = w.off →
        (fPay b).length < w.len → (s.inst i).cmd? tg.cmd = some c → c.work = .append a → ∃ t, exec (.dataFrame p f) s = .next t ∧
          (t.port p).dataBytes = z.dataBytes + BitVec.ofNat 64 (fPay b).length ∧ (t.port p).sess = some { y with
            tags := SMap.set x.tags (fTag b) { tg with windows := [{ w with got := [(w.off, w.off + (fPay b).length)] }] } }))

/-- R295, R301, R302, R304: the tag whose turn it is gets a window of at most 256 KiB, charged, and its GRANT frame; a window unfilled for the time-out ends its append
with 0x0801 and frees the tag; a keepalive is due when nothing has been sent for the interval.
Completes: grant, grantTimerExpiry, keepaliveSend. -/
def Obligations.GrantsAndTimers : Prop :=
  ∀ (s : State) (p tag i : Nat) (x : Session) (tg : Tag) (c : Cmd) (a : AppendWork), p < 576 → (s.port p).sess = some x → x.tx.toNat + 1 < 0xFFFFFFFF →
    let sends := fun (t : State) (ty a0 a1 tag : Nat) =>
      let h := wfpHead ty p x.id.toNat (x.tx.toNat + 1) tag 0 0 a0 a1
      t.out = Output.frame p x.mac (portMac p) (h ++ wfpAuth (s.slotBytes x.slot) h []) :: s.out
    (x.txTick + 1000000 * s.fp.ka.toNat ≤ s.now → ∃ t, exec (.keepaliveSend p) s = .next t ∧ sends t 0x21 0 0 0xFF ∧
      (t.port p).sess = some { x with tx := x.tx + 1, txTick := s.now }) ∧
    (s.now < x.txTick + 1000000 * s.fp.ka.toNat → exec (.keepaliveSend p) s = .next s) ∧
    (let first := match s.sl.lastGrantInst with
        | some l => l + 1
        | none => 0
      s.isUp = true → s.inflight < s.fp.inflight.toNat * 2 ^ 20 →
      ((List.range s.hi.n).map (fun k => (first + k) % s.hi.n)).findSome? (fun i => (s.grantTurn i).map (fun r => (i, r))) = some (i, p, tag, tg) →
      (s.inst i).cmds = [c] → c.no = tg.cmd → c.work = .append a →
      let n := min 262144 (tg.len - tg.next)
      ∃ t c', exec .grant s = .next t ∧ sends t 0x11 tg.next n tag ∧ (t.inst i).cmds = [c'] ∧ (t.port p).lastTurn = tg.order ∧
        c'.work = .append { a with charges := a.charges + s.chargeFor i a.table n } ∧ (t.port p).sess = some { x with
          tx := x.tx + 1, txTick := s.now, tags := SMap.set x.tags tag { tg with
            state := .granted, next := tg.next + n, windows := tg.windows ++ [{ off := tg.next, len := n, got := [], tick := s.now }] } }) ∧
    (instOfPort s.hi.n p = some i → SMap.find x.tags tag = some tg → (∃ w ∈ tg.windows, w.tick + 1000 * s.fp.tmo.toNat ≤ s.now) → (s.inst i).cmds = [c] →
      c.no = tg.cmd → c.src = .field p tag x.id → c.work = .append a → ∃ t x', exec (.grantTimerExpiry p tag) s = .next t ∧ (t.inst i).cmds = [] ∧
        (t.port p).sess = some x' ∧ SMap.find x'.tags tag = none ∧ (t.port p).underrun = satInc (s.port p).underrun ∧ sends t 0x13 0x0801 0 tag)

/-- R129, R132, R159: registers and local stores are the cores' own, and an event of the block's other parts leaves them as they are: what the power island, the links, the
rings and the Sluice's commands, the field ports, the flash store, the memory controllers and the engines' own schedules do writes no register and no byte of local store;
and where the event is not one that lands, discards or hands over data, it writes no byte of working memory or of a pool either; a digest
job's progress likewise, where no job is held back, and the completion of a wide instruction, which writes scalar results of its own core only (R165).
Rests on the model's readings in log entries 37 and 38. -/
def Obligations.EventsKeepCores : Prop :=
  ∀ (s t : State) (i : Instr), exec i s = .next t →
    let still : Instr → Prop := fun i => match i with
      | .vauxStable .. | .prepDone .. | .memorySweepDone .. | .trainDone .. | .perstRelease .. | .pwCtlQuiesce .. | .pwCtlUnquiesce .. | .quiesceComplete ..
      | .pwSetptWrite .. | .setpointChangeDone .. | .forceStillEdge .. | .thermalCap .. | .thermalCapRelease .. | .timePpsEdge .. | .ppsMissed ..
      | .pwTodSet .. | .i2cRead .. | .alertResponse .. | .linkRetrain .. | .hiMbGo .. | .mbRingSet .. | .mbModerate .. | .mbHostmode .. | .mbMemExclude ..
      | .mbResponse .. | .vfDbSq .. | .vfDbCq .. | .msixModTimer .. | .msixUnmask .. | .vfEventRead .. | .selftestResume .. | .openAck ..
      | .pendingSessionLapse .. | .fieldLinkUp .. | .flumeItemCreate .. | .exchItemCreate .. | .barrierItemCreate .. | .hgCtlStatclr .. | .encodeJob ..
      | .scanJob .. | .streamJob .. | .verifyJob .. | .codecUnitFault .. | .dgResRead .. | .ksOekLoad .. | .ksOekLoadDone ..
      | .sealIntervalExpiry .. | .checkpointTimer .. | .rebuildDone .. | .flashReadScrub .. | .garbageCollection .. | .patrolScrub .. | .refresh ..
      | .tempReadout .. | .zqLatch .. | .powerDownEntry .. | .selfRefreshEntry .. | .resweep .. | .resweepDone .. | .icTimerExpiry ..
      | .lanternSample .. | .tlPaceWrite .. | .paceRelease .. | .hostLinkUp .. | .perstBRelease .. => True
      | _ => False
    let quiet : Instr → Prop := fun i => match i with
      | .perstB .. | .hostLinkDown .. | .vfFlr .. | .pfFlr .. | .resetComplete .. | .mbInstanceDestroy .. | .indexBlockRead .. | .sqFetch ..
      | .cqFullRecheck .. | .completionWrite .. | .append .. | .hostAppendPieceRead .. | .flush .. | .abort .. | .queryRun .. | .imageUnload ..
      | .tableCreate .. | .tableDrop .. | .blockExport .. | .logRead .. | .portCtlDisable .. | .portCtlEnable .. | .portCtlRelease .. | .ownerRekey ..
      | .selftestStart .. | .selftestAbort .. | .fwDownload .. | .fwActivate .. | .fwSwitch .. | .openFrame .. | .appendFrame .. | .flushFrame ..
      | .abortFrame .. | .dataFrame .. | .statusQuery .. | .keepalive .. | .grant .. | .grantTimerExpiry .. | .keepaliveSend .. | .keepaliveTimeout ..
      | .laneFault .. | .fieldLinkDown .. | .commit .. | .rootItemCreate .. | .flumeExtend .. | .resultWrite .. | .queryComplete .. | .segmentReadComplete ..
      | .coreFault .. | .replayRequeue .. | .progressMonitorExpiry .. | .segmentSealed .. | .dieFail .. | .channelLost .. | .streamerFetch ..
      | .otherFrame .. => True
      | _ => still i
    (quiet i → ∀ c, (t.core c).g = (s.core c).g ∧ (t.core c).w = (s.core c).w ∧ (t.core c).ls = (s.core c).ls) ∧
    (still i → t.mc.cells = s.mc.cells ∧ t.pools = s.pools) ∧
    (∀ e n, i = .digestJob e n → s.dg.held = [] →
      t.mc.cells = s.mc.cells ∧ t.pools = s.pools ∧ ∀ c, (t.core c).g = (s.core c).g ∧ (t.core c).w = (s.core c).w ∧ (t.core c).ls = (s.core c).ls) ∧
    (∀ d u, i = .wideUnitComplete d u →
      t.mc.cells = s.mc.cells ∧ t.pools = s.pools ∧ ∀ c, (c ≠ d → (t.core c).g = (s.core c).g) ∧ (t.core c).w = (s.core c).w ∧ (t.core c).ls = (s.core c).ls)

/-! ## The whole machine -/

/-- The instruction words of R136 to R187 both ways: the word of an instruction decodes to it on every core and for every operand, and a word that the decoder
accepts is the word of the instruction it stands for, so no bit of it is dropped. -/
def Obligations.InstructionWords : Prop :=
  (∀ (c : Nat) (w : W32) (i : Instr), decodeInsn c w = some i → insnWord i = w) ∧
  (∀ (c : Nat) (rd ra rb : GReg) (wd wa wb : WReg) (b : WSrc) (p : PSize) (z : WSize) (sh : ShiftKind) (sel : Bool) (m n : Byte) (n5 : BitVec 5)
      (n6 : BitVec 6) (e : BitVec 9) (n10 : BitVec 10) (imm : W16) (far : BitVec 26) (x d : BitVec 4),
    let back := fun (l : List Instr) => ∀ i ∈ l, decodeInsn c (insnWord i) = some i
    back [.add c rd ra rb, .sub c rd ra rb, .and c rd ra rb, .or c rd ra rb, .xor c rd ra rb, .andn c rd ra rb, .shl c rd ra rb, .shr c rd ra rb,
      .sar c rd ra rb, .ror c rd ra rb, .slt c rd ra rb, .sltu c rd ra rb, .min c rd ra rb, .max c rd ra rb, .minu c rd ra rb, .maxu c rd ra rb,
      .mul c rd ra rb, .mulh c rd ra rb, .mulhu c rd ra rb, .div c rd ra rb, .divu c rd ra rb, .rem c rd ra rb, .remu c rd ra rb, .clz c rd ra,
      .ctz c rd ra, .popc c rd ra, .bswap c rd ra, .selnz c rd ra rb] ∧
    back [.addi c rd ra imm, .andi c rd ra imm, .ori c rd ra imm, .xori c rd ra imm, .slti c rd ra imm, .sltiu c rd ra imm, .shifti c rd ra sh n6,
      .movi c rd imm, .shori c rd imm, .ldb c rd ra imm, .ldbu c rd ra imm, .ldh c rd ra imm, .ldhu c rd ra imm, .ldw c rd ra imm, .ldwu c rd ra imm,
      .ldd c rd ra imm, .stb c rd ra imm, .sth c rd ra imm, .stw c rd ra imm, .std c rd ra imm] ∧
    back [.amoadd c rd ra rb, .amoswap c rd ra rb, .amocas c rd ra rb, .amoand c rd ra rb, .amoor c rd ra rb, .amomax c rd ra rb, .amomin c rd ra rb,
      .zline c ra, .cwb c ra, .cinv c ra, .cwbi c ra, .strm c ra rb, .sync c, .iinvall c] ∧
    back [.beq c ra rb imm, .bne c ra rb imm, .blt c ra rb imm, .bge c ra rb imm, .bltu c ra rb imm, .bgeu c ra rb imm, .jmp c far, .call c far, .jr c ra,
      .callr c ra, .loop c ra imm, .loopi c n10 imm, .mfs c rd imm, .mts c rd imm, .cget c rd imm, .cput c rd imm, .gate c n, .gret c, .waitIrq c,
      .take c, .post c sel ra rb, .signal c ra rb, .doneItem c ra rb, .dsend c ra n] ∧
    back [.padd c p rd ra rb, .psub c p rd ra rb, .padds c p rd ra rb, .psubs c p rd ra rb, .paddus c p rd ra rb, .psubus c p rd ra rb, .pavgu c p rd ra rb,
      .pmins c p rd ra rb, .pmaxs c p rd ra rb, .pminu c p rd ra rb, .pmaxu c p rd ra rb, .pcmpeq c p rd ra rb, .pcmpgt c p rd ra rb, .pcmpgtu c p rd ra rb,
      .pmul c p rd ra rb, .pmulhrs c p rd ra rb, .pmadd c p rd ra rb, .pabs c p rd ra, .pshli c p rd ra n5, .pshri c p rd ra n5, .psari c p rd ra n5,
      .psrari c p rd ra n5, .ppacks c p rd ra rb, .ppackus c p rd ra rb, .punpklo c p rd ra rb, .punpkhi c p rd ra rb] ∧
    back [.wadd c z wd wa b, .wsub c z wd wa b, .wand c z wd wa b, .wor c z wd wa b, .wxor c z wd wa b, .wandn c z wd wa b, .wmin c z wd wa b,
      .wmax c z wd wa b, .wminu c z wd wa b, .wmaxu c z wd wa b, .wmul c z wd wa b, .wshl c z wd wa b, .wshr c z wd wa b, .wsar c z wd wa b,
      .wceq c z wd wa b, .wcne c z wd wa b, .wclt c z wd wa b, .wcge c z wd wa b, .wcltu c z wd wa b, .wcgeu c z wd wa b, .wcgt c z wd wa b,
      .wcle c z wd wa b, .wcgtu c z wd wa b, .wcleu c z wd wa b, .wfadd c z wd wa b, .wfsub c z wd wa b, .wfmul c z wd wa b, .wfmin c z wd wa b,
      .wfmax c z wd wa b, .wfclt c z wd wa b, .wfcle c z wd wa b, .wfceq c z wd wa b] ∧
    back [.wmulw c z wd wa wb, .wmulwu c z wd wa wb, .wmacw c z wd wa wb, .wmacwu c z wd wa wb, .wdot c z wd wa wb, .wdotu c z wd wa wb,
      .wperm c z wd wa wb, .wband c wd wa wb, .wbor c wd wa wb, .wbandn c wd wa wb, .wbcnt c wa ra, .wcompress c z wd wa wb ra, .wiota c z wd ra,
      .wbcast c z wd ra, .wscan c z wd wa ra, .whash c z wd wa ra, .wredadd c z wa ra, .wredaddu c z wa ra, .wredmin c z wa ra, .wredmax c z wa ra,
      .wredminu c z wa ra, .wredmaxu c z wa ra, .wredadd128 c z wa ra, .wfredadd c z wa ra] ∧
    back [.wshli c z wd wa m, .wshri c z wd wa m, .wsari c z wd wa m, .wtrans c z wd wa m, .wbmrg c z wd wa d x, .wbmrgu c z wd wa d x,
      .wslide c z wd wa wb m, .wld c z wd ra, .wst c z wd ra, .wldz c z wd ra, .wldx c z wd ra, .wlds c z wd ra rb, .wsts c z wd ra rb,
      .wgather c z wd wa ra, .wscatter c z wd wa ra, .wcstore c z wd wa ra rb, .wldb c wd ra, .wstb c wd ra, .wmovx c z wd ra e, .wmovxs c z wd ra e,
      .wins c z wd ra e, .wdsend c wd n])

/-- R427, R282, R309, R331, R407, R208, R160, R211, R155: what VAUX becoming stable leaves, where the spec gives a value: STANDBY with no rail but VAUX up, the
registers at their reset values, no instance, no owner and no session, and every byte memory in canonical form.
The form of the memories is the model's choice of log entry 4. -/
def Obligations.ResetState : Prop :=
  let s := State.reset
  let k := s.core 0
  s.memsWf ∧ s.pending = [] ∧
  s.pw.state = .standby ∧ s.pw.vaux = ⟨true, true⟩ ∧ s.pw.vana = ⟨false, false⟩ ∧ s.pw.vio = ⟨false, false⟩ ∧ s.pw.vcore = ⟨false, false⟩ ∧
  s.pw.perstA = true ∧ s.pw.req = .flow ∧ s.pw.boot = .flow ∧ s.pw.cur = .flow ∧ s.pw.alert = 0 ∧ s.pw.alertMask = 0xE ∧ s.pw.seqFault = 0 ∧
  s.pw.tick = 0 ∧ s.tod = 0 ∧ s.hi.n = 0 ∧ s.hi.mbBusy = false ∧ s.hi.mbDone = false ∧ s.hi.mbOver = false ∧
  s.sl.classw = 0x1248 ∧ s.sl.urgcap = 4 ∧ s.fp.tmo = 5000 ∧ s.fp.ka = 100 ∧ s.fp.quar = 16 ∧ s.fp.inflight = 64 ∧
  s.mc.pdn = 1000 ∧ s.mc.sref = 200 ∧ s.mc.trained = false ∧ s.mc.ce = 0 ∧ s.mc.ue = 0 ∧ s.tl.idle = 45000 ∧ s.tl.pace = 0 ∧
  s.flash.owners = [] ∧ s.flash.segments = [] ∧ s.flash.sealSeq = 0 ∧ s.hg.items = [] ∧ s.hg.queries = [] ∧
  (∀ i, (s.inst i).state = .none) ∧ (∀ p, (s.port p).sess = none ∧ (s.port p).nextId = 1) ∧ (∀ n, s.slotKey n = none) ∧
  k.vln = 64 ∧ (∀ r : WReg, k.rdw r = 0) ∧ k.waysS = 0x3F ∧ k.waysW = 0x3F ∧ k.waysP = 0xC0 ∧ k.lfsr = 0xACE1 ∧ k.ksp = 0 ∧
  k.ic.pend = 0 ∧ k.ic.en = 0 ∧ k.ic.act = 0 ∧ k.ic.hold = false ∧ k.ic.timer = BitVec.allOnes 64

/-- Every command that names units the part has completes with a next state: nothing that can be executed is refused (R5 counts the units).
Rests on the model's readings in log entries 37 and 38. -/
def Obligations.WellFormedCommandsComplete : Prop :=
  ∀ (s : State) (i : Instr), i.wf = true → ∃ t, exec i s = .next t

/-- Every step keeps every byte memory (working memory, host memory, pools, local stores) in its canonical form: addresses strictly rising, no byte listed that
equals what an unlisted address reads as. The form is the model's, not the spec's (log entry 4). -/
def Obligations.StepKeepsMemoriesCanonical : Prop :=
  ∀ (s t : State), s.memsWf → step s = .next t → t.memsWf

/-- R129, R132, R159: local store and registers are a core's own: an instruction of a query core, whatever it does (exceptions, stalls, failed items), leaves
the scalar and wide registers of every other core as they were, and the local store of every other query core that no codec or digest job waits to be issued again for
(an issue refused then ends that job and writes its completion record, R53).
Rests on the model's readings in log entry 14. -/
def Obligations.InstructionsKeepOtherCores : Prop :=
  ∀ (s t : State) (c d : Nat) (w : W32) (i : Instr), c < 96 → decodeInsn c w = some i → exec i s = .next t → d ≠ c →
    (t.core d).g = (s.core d).g ∧ (t.core d).w = (s.core d).w ∧
    (d < 96 → (∀ j ∈ s.codec.reissue, j.by_.core ≠ d) → (∀ j ∈ s.dg.held, j.by_.core ≠ d) → (t.core d).ls = (s.core d).ls)

end Statements
end

