-- ==== Sys2Proof/Laws/SMap.lean ====
section
/-! SUPPORT. Laws of sparse maps and of the canonical byte memory: read after write, what a write leaves alone, and the canonical form kept. -/
namespace Sys2Proof.Machine

theorem SMap.find_set_same {α : Type} (m : SMap α) (i : Nat) (v : α) : SMap.find (SMap.set m i v) i = some v := by
  induction m with
  | nil => simp [SMap.set, SMap.find]
  | cons e m ih =>
    obtain ⟨k, w⟩ := e
    simp only [SMap.set]
    split
    · simp [SMap.find]
    · split
      · simp [SMap.find, *]
      · simp [SMap.find, *]

theorem SMap.find_set_ne {α : Type} (m : SMap α) (i j : Nat) (v : α) (h : j ≠ i) : SMap.find (SMap.set m i v) j = SMap.find m j := by
  induction m with
  | nil => simp [SMap.set, SMap.find, Ne.symm h]
  | cons e m ih =>
    obtain ⟨k, w⟩ := e
    simp only [SMap.set]
    split
    · simp [SMap.find, Ne.symm h]
    · split
      · subst_vars
        simp [SMap.find, Ne.symm h]
      · simp [SMap.find, ih]

@[simp] theorem SMap.get_set_same {α : Type} (m : SMap α) (d : α) (i : Nat) (v : α) : SMap.get (SMap.set m i v) d i = v := by
  simp [SMap.get, SMap.find_set_same]

theorem SMap.get_set_ne {α : Type} (m : SMap α) (d : α) (i j : Nat) (v : α) (h : j ≠ i) : SMap.get (SMap.set m i v) d j = SMap.get m d j := by
  simp [SMap.get, SMap.find_set_ne, h]

@[simp] theorem SMap.set_set {α : Type} (m : SMap α) (i : Nat) (v w : α) : SMap.set (SMap.set m i v) i w = SMap.set m i w := by
  induction m with
  | nil => simp [SMap.set]
  | cons e m ih =>
    obtain ⟨k, x⟩ := e
    by_cases h1 : i < k
    · simp [SMap.set, h1]
    · by_cases h2 : k = i
      · simp [SMap.set, h2]
      · simp [SMap.set, h1, h2, ih]

theorem SMap.find_erase_ne {α : Type} (m : SMap α) (i j : Nat) (h : j ≠ i) : SMap.find (SMap.erase m i) j = SMap.find m j := by
  induction m with
  | nil => rfl
  | cons e m ih =>
    obtain ⟨k, w⟩ := e
    simp only [SMap.erase]
    split
    · subst_vars
      simp [SMap.find, ih, Ne.symm h]
    · simp [SMap.find, ih]

theorem SMap.find_erase_same {α : Type} (m : SMap α) (i : Nat) : SMap.find (SMap.erase m i) i = none := by
  induction m with
  | nil => rfl
  | cons e m ih =>
    obtain ⟨k, w⟩ := e
    simp only [SMap.erase]
    split
    · exact ih
    · simp [SMap.find, *]

/-- Every entry of a map after `set` is the new one or an old one. -/
theorem SMap.mem_set {α : Type} (m : SMap α) (i : Nat) (v : α) (e : Nat × α) (h : e ∈ SMap.set m i v) : e = (i, v) ∨ e ∈ m := by
  induction m with
  | nil => simpa [SMap.set] using h
  | cons x m ih =>
    obtain ⟨k, w⟩ := x
    simp only [SMap.set] at h
    split at h
    · simpa using h
    · split at h
      · rename_i hk
        simp only [List.mem_cons] at h ⊢
        exact h.imp (fun x => by rw [x, hk]) Or.inr
      · simp only [List.mem_cons] at h ⊢
        rcases h with h | h
        · exact Or.inr (Or.inl h)
        · rcases ih h with h | h
          · exact Or.inl h
          · exact Or.inr (Or.inr h)

theorem SMap.mem_erase {α : Type} (m : SMap α) (i : Nat) (e : Nat × α) (h : e ∈ SMap.erase m i) : e ∈ m := by
  induction m with
  | nil => simp [SMap.erase] at h
  | cons x m ih =>
    obtain ⟨k, w⟩ := x
    simp only [SMap.erase] at h
    split at h
    · exact List.mem_cons_of_mem _ (ih h)
    · simp only [List.mem_cons] at h ⊢
      exact h.imp id ih

theorem SMap.mem_of_find {α : Type} (m : SMap α) (i : Nat) (v : α) (h : SMap.find m i = some v) : (i, v) ∈ m := by
  induction m with
  | nil => simp [SMap.find] at h
  | cons x m ih =>
    obtain ⟨k, w⟩ := x
    simp only [SMap.find] at h
    split at h
    · simp_all
    · exact List.mem_cons_of_mem _ (ih h)

/-- Sorted, as a proposition on the keys. -/
theorem SMap.sorted_iff {α : Type} (m : SMap α) : SMap.sorted m = true ↔ m.Pairwise (fun a b => a.1 < b.1) := by
  induction m with
  | nil => simp [SMap.sorted]
  | cons x m ih =>
    obtain ⟨k, w⟩ := x
    cases m with
    | nil => simp [SMap.sorted]
    | cons y m =>
      obtain ⟨j, u⟩ := y
      simp only [SMap.sorted, Bool.and_eq_true, decide_eq_true_eq, ih, List.pairwise_cons, List.mem_cons]
      constructor
      · rintro ⟨h, h2, h3⟩
        refine ⟨?_, h2, h3⟩
        rintro a (rfl | ha)
        · exact h
        · exact Nat.lt_trans h (h2 a ha)
      · rintro ⟨h, h2, h3⟩
        exact ⟨h _ (Or.inl rfl), h2, h3⟩

theorem SMap.sorted_set {α : Type} (m : SMap α) (i : Nat) (v : α) (h : SMap.sorted m = true) : SMap.sorted (SMap.set m i v) = true := by
  rw [SMap.sorted_iff] at h ⊢
  induction m with
  | nil => simp [SMap.set]
  | cons x m ih =>
    obtain ⟨k, w⟩ := x
    obtain ⟨h1, h2⟩ := List.pairwise_cons.mp h
    simp only [SMap.set]
    split
    · rename_i hk
      refine List.pairwise_cons.mpr ⟨?_, h⟩
      intro a ha
      rcases List.mem_cons.mp ha with rfl | ha
      · exact hk
      · exact Nat.lt_trans hk (h1 a ha)
    · split
      · exact List.pairwise_cons.mpr ⟨h1, h2⟩
      · rename_i hk hne
        refine List.pairwise_cons.mpr ⟨?_, ih h2⟩
        intro a ha
        rcases SMap.mem_set m i v a ha with rfl | ha
        · show k < i
          omega
        · exact h1 a ha

theorem SMap.sorted_erase {α : Type} (m : SMap α) (i : Nat) (h : SMap.sorted m = true) : SMap.sorted (SMap.erase m i) = true := by
  rw [SMap.sorted_iff] at h ⊢
  induction m with
  | nil => simp [SMap.erase]
  | cons x m ih =>
    obtain ⟨k, w⟩ := x
    obtain ⟨h1, h2⟩ := List.pairwise_cons.mp h
    simp only [SMap.erase]
    split
    · exact ih h2
    · exact List.pairwise_cons.mpr ⟨fun a ha => h1 a (SMap.mem_erase m i a ha), ih h2⟩

/-! ## Byte memory -/

@[simp] theorem Cells.read_write_same (m : Cells) (a : Nat) (b : BitVec 8) : Cells.read (Cells.write m a b) a = b := by
  unfold Cells.read Cells.write
  split
  · subst_vars
    simp [SMap.get, SMap.find_erase_same]
  · simp

theorem Cells.read_write_ne (m : Cells) (a x : Nat) (b : BitVec 8) (h : x ≠ a) : Cells.read (Cells.write m a b) x = Cells.read m x := by
  unfold Cells.read Cells.write
  split
  · simp [SMap.get, SMap.find_erase_ne, h]
  · exact SMap.get_set_ne m 0 a x b h

/-- A write keeps the canonical form. -/
theorem Cells.wf_write (m : Cells) (a : Nat) (b : BitVec 8) (h : Cells.wf m = true) : Cells.wf (Cells.write m a b) = true := by
  simp only [Cells.wf, Bool.and_eq_true, List.all_eq_true, decide_eq_true_eq] at h ⊢
  unfold Cells.write
  split
  · exact ⟨SMap.sorted_erase m a h.1, fun e he => h.2 e (SMap.mem_erase m a e he)⟩
  · rename_i hb
    refine ⟨SMap.sorted_set m a b h.1, fun e he => ?_⟩
    rcases SMap.mem_set m a b e he with rfl | he
    · exact hb
    · exact h.2 e he

theorem Cells.wf_writeList (bs : List (BitVec 8)) : ∀ (m : Cells) (a : Nat), Cells.wf m = true → Cells.wf (Cells.writeList m a bs) = true := by
  induction bs with
  | nil => intro m a h; exact h
  | cons b bs ih => intro m a h; exact ih _ _ (Cells.wf_write m a b h)

theorem Cells.wf_clear (m : Cells) (a n : Nat) (h : Cells.wf m = true) : Cells.wf (Cells.clear m a n) = true := by
  simp only [Cells.wf, Bool.and_eq_true, List.all_eq_true, decide_eq_true_eq, SMap.sorted_iff] at h ⊢
  refine ⟨h.1.sublist List.filter_sublist, fun e he => h.2 e (List.mem_filter.mp he).1⟩

/-- Bytes outside [a, a + length) read as before. -/
theorem Cells.read_writeList_outside (bs : List (BitVec 8)) :
    ∀ (m : Cells) (a x : Nat), (x < a ∨ a + bs.length ≤ x) → Cells.read (Cells.writeList m a bs) x = Cells.read m x := by
  induction bs with
  | nil => intro m a x _; rfl
  | cons b bs ih =>
    intro m a x h
    simp only [List.length_cons] at h
    rw [Cells.writeList, ih _ _ _ (by omega), Cells.read_write_ne _ _ _ _ (by omega)]

/-- Bytes inside read as written. -/
theorem Cells.read_writeList_inside (bs : List (BitVec 8)) :
    ∀ (m : Cells) (a k : Nat) (h : k < bs.length), Cells.read (Cells.writeList m a bs) (a + k) = bs[k] := by
  induction bs with
  | nil => intro m a k h; simp at h
  | cons b bs ih =>
    intro m a k h
    cases k with
    | zero =>
      rw [Cells.writeList, Cells.read_writeList_outside _ _ _ _ (by omega)]
      simp
    | succ k =>
      have e : a + (k + 1) = a + 1 + k := by omega
      rw [Cells.writeList, e, ih]
      · simp
      · simpa using h

theorem Cells.readList_length (m : Cells) : ∀ (n a : Nat), (Cells.readList m a n).length = n := by
  intro n
  induction n with
  | zero => intro a; rfl
  | succ n ih => intro a; simp [Cells.readList, ih]

/-- Reading back what was written. -/
theorem Cells.readList_writeList (bs : List (BitVec 8)) : ∀ (m : Cells) (a : Nat), Cells.readList (Cells.writeList m a bs) a bs.length = bs := by
  induction bs with
  | nil => intro m a; rfl
  | cons b bs ih =>
    intro m a
    simp only [List.length_cons, Cells.readList, Cells.writeList, ih]
    rw [Cells.read_writeList_outside _ _ _ _ (by omega), Cells.read_write_same]

end Sys2Proof.Machine
end

