-- ==== Sys2Proof/Laws/State.lean ====
section
/-! SUPPORT. The fields of State after each named update: what the update leaves alone, and what it sets. -/
namespace Sys2Proof.Machine

/-! ### setCore -/

@[simp] theorem State.setCore_pw (s : State) (c : Nat) (k : Core) : (s.setCore c k).pw = s.pw := rfl
@[simp] theorem State.setCore_hi (s : State) (c : Nat) (k : Core) : (s.setCore c k).hi = s.hi := rfl
@[simp] theorem State.setCore_insts (s : State) (c : Nat) (k : Core) : (s.setCore c k).insts = s.insts := rfl
@[simp] theorem State.setCore_sl (s : State) (c : Nat) (k : Core) : (s.setCore c k).sl = s.sl := rfl
@[simp] theorem State.setCore_hg (s : State) (c : Nat) (k : Core) : (s.setCore c k).hg = s.hg := rfl
@[simp] theorem State.setCore_pools (s : State) (c : Nat) (k : Core) : (s.setCore c k).pools = s.pools := rfl
@[simp] theorem State.setCore_codec (s : State) (c : Nat) (k : Core) : (s.setCore c k).codec = s.codec := rfl
@[simp] theorem State.setCore_dg (s : State) (c : Nat) (k : Core) : (s.setCore c k).dg = s.dg := rfl
@[simp] theorem State.setCore_keys (s : State) (c : Nat) (k : Core) : (s.setCore c k).keys = s.keys := rfl
@[simp] theorem State.setCore_mc (s : State) (c : Nat) (k : Core) : (s.setCore c k).mc = s.mc := rfl
@[simp] theorem State.setCore_flash (s : State) (c : Nat) (k : Core) : (s.setCore c k).flash = s.flash := rfl
@[simp] theorem State.setCore_fp (s : State) (c : Nat) (k : Core) : (s.setCore c k).fp = s.fp := rfl
@[simp] theorem State.setCore_tl (s : State) (c : Nat) (k : Core) : (s.setCore c k).tl = s.tl := rfl
@[simp] theorem State.setCore_out (s : State) (c : Nat) (k : Core) : (s.setCore c k).out = s.out := rfl
@[simp] theorem State.setCore_fresh (s : State) (c : Nat) (k : Core) : (s.setCore c k).fresh = s.fresh := rfl
@[simp] theorem State.setCore_pending (s : State) (c : Nat) (k : Core) : (s.setCore c k).pending = s.pending := rfl
@[simp] theorem State.setCore_part (s : State) (c : Nat) (k : Core) : (s.setCore c k).part = s.part := rfl

/-! ### setInst -/

@[simp] theorem State.setInst_pw (s : State) (i : Nat) (x : Inst) : (s.setInst i x).pw = s.pw := rfl
@[simp] theorem State.setInst_hi (s : State) (i : Nat) (x : Inst) : (s.setInst i x).hi = s.hi := rfl
@[simp] theorem State.setInst_sl (s : State) (i : Nat) (x : Inst) : (s.setInst i x).sl = s.sl := rfl
@[simp] theorem State.setInst_hg (s : State) (i : Nat) (x : Inst) : (s.setInst i x).hg = s.hg := rfl
@[simp] theorem State.setInst_cores (s : State) (i : Nat) (x : Inst) : (s.setInst i x).cores = s.cores := rfl
@[simp] theorem State.setInst_pools (s : State) (i : Nat) (x : Inst) : (s.setInst i x).pools = s.pools := rfl
@[simp] theorem State.setInst_codec (s : State) (i : Nat) (x : Inst) : (s.setInst i x).codec = s.codec := rfl
@[simp] theorem State.setInst_dg (s : State) (i : Nat) (x : Inst) : (s.setInst i x).dg = s.dg := rfl
@[simp] theorem State.setInst_keys (s : State) (i : Nat) (x : Inst) : (s.setInst i x).keys = s.keys := rfl
@[simp] theorem State.setInst_mc (s : State) (i : Nat) (x : Inst) : (s.setInst i x).mc = s.mc := rfl
@[simp] theorem State.setInst_flash (s : State) (i : Nat) (x : Inst) : (s.setInst i x).flash = s.flash := rfl
@[simp] theorem State.setInst_fp (s : State) (i : Nat) (x : Inst) : (s.setInst i x).fp = s.fp := rfl
@[simp] theorem State.setInst_tl (s : State) (i : Nat) (x : Inst) : (s.setInst i x).tl = s.tl := rfl
@[simp] theorem State.setInst_out (s : State) (i : Nat) (x : Inst) : (s.setInst i x).out = s.out := rfl
@[simp] theorem State.setInst_fresh (s : State) (i : Nat) (x : Inst) : (s.setInst i x).fresh = s.fresh := rfl
@[simp] theorem State.setInst_pending (s : State) (i : Nat) (x : Inst) : (s.setInst i x).pending = s.pending := rfl
@[simp] theorem State.setInst_part (s : State) (i : Nat) (x : Inst) : (s.setInst i x).part = s.part := rfl

/-! ### setPool -/

@[simp] theorem State.setPool_pw (s : State) (i : Nat) (m : Cells) : (s.setPool i m).pw = s.pw := rfl
@[simp] theorem State.setPool_hi (s : State) (i : Nat) (m : Cells) : (s.setPool i m).hi = s.hi := rfl
@[simp] theorem State.setPool_insts (s : State) (i : Nat) (m : Cells) : (s.setPool i m).insts = s.insts := rfl
@[simp] theorem State.setPool_sl (s : State) (i : Nat) (m : Cells) : (s.setPool i m).sl = s.sl := rfl
@[simp] theorem State.setPool_hg (s : State) (i : Nat) (m : Cells) : (s.setPool i m).hg = s.hg := rfl
@[simp] theorem State.setPool_cores (s : State) (i : Nat) (m : Cells) : (s.setPool i m).cores = s.cores := rfl
@[simp] theorem State.setPool_codec (s : State) (i : Nat) (m : Cells) : (s.setPool i m).codec = s.codec := rfl
@[simp] theorem State.setPool_dg (s : State) (i : Nat) (m : Cells) : (s.setPool i m).dg = s.dg := rfl
@[simp] theorem State.setPool_keys (s : State) (i : Nat) (m : Cells) : (s.setPool i m).keys = s.keys := rfl
@[simp] theorem State.setPool_mc (s : State) (i : Nat) (m : Cells) : (s.setPool i m).mc = s.mc := rfl
@[simp] theorem State.setPool_flash (s : State) (i : Nat) (m : Cells) : (s.setPool i m).flash = s.flash := rfl
@[simp] theorem State.setPool_fp (s : State) (i : Nat) (m : Cells) : (s.setPool i m).fp = s.fp := rfl
@[simp] theorem State.setPool_tl (s : State) (i : Nat) (m : Cells) : (s.setPool i m).tl = s.tl := rfl
@[simp] theorem State.setPool_out (s : State) (i : Nat) (m : Cells) : (s.setPool i m).out = s.out := rfl
@[simp] theorem State.setPool_fresh (s : State) (i : Nat) (m : Cells) : (s.setPool i m).fresh = s.fresh := rfl
@[simp] theorem State.setPool_pending (s : State) (i : Nat) (m : Cells) : (s.setPool i m).pending = s.pending := rfl
@[simp] theorem State.setPool_part (s : State) (i : Nat) (m : Cells) : (s.setPool i m).part = s.part := rfl

/-! ### setUnit -/

@[simp] theorem State.setUnit_pw (s : State) (u : Nat) (x : CodecUnit) : (s.setUnit u x).pw = s.pw := rfl
@[simp] theorem State.setUnit_hi (s : State) (u : Nat) (x : CodecUnit) : (s.setUnit u x).hi = s.hi := rfl
@[simp] theorem State.setUnit_insts (s : State) (u : Nat) (x : CodecUnit) : (s.setUnit u x).insts = s.insts := rfl
@[simp] theorem State.setUnit_sl (s : State) (u : Nat) (x : CodecUnit) : (s.setUnit u x).sl = s.sl := rfl
@[simp] theorem State.setUnit_hg (s : State) (u : Nat) (x : CodecUnit) : (s.setUnit u x).hg = s.hg := rfl
@[simp] theorem State.setUnit_cores (s : State) (u : Nat) (x : CodecUnit) : (s.setUnit u x).cores = s.cores := rfl
@[simp] theorem State.setUnit_pools (s : State) (u : Nat) (x : CodecUnit) : (s.setUnit u x).pools = s.pools := rfl
@[simp] theorem State.setUnit_dg (s : State) (u : Nat) (x : CodecUnit) : (s.setUnit u x).dg = s.dg := rfl
@[simp] theorem State.setUnit_keys (s : State) (u : Nat) (x : CodecUnit) : (s.setUnit u x).keys = s.keys := rfl
@[simp] theorem State.setUnit_mc (s : State) (u : Nat) (x : CodecUnit) : (s.setUnit u x).mc = s.mc := rfl
@[simp] theorem State.setUnit_flash (s : State) (u : Nat) (x : CodecUnit) : (s.setUnit u x).flash = s.flash := rfl
@[simp] theorem State.setUnit_fp (s : State) (u : Nat) (x : CodecUnit) : (s.setUnit u x).fp = s.fp := rfl
@[simp] theorem State.setUnit_tl (s : State) (u : Nat) (x : CodecUnit) : (s.setUnit u x).tl = s.tl := rfl
@[simp] theorem State.setUnit_out (s : State) (u : Nat) (x : CodecUnit) : (s.setUnit u x).out = s.out := rfl
@[simp] theorem State.setUnit_fresh (s : State) (u : Nat) (x : CodecUnit) : (s.setUnit u x).fresh = s.fresh := rfl
@[simp] theorem State.setUnit_pending (s : State) (u : Nat) (x : CodecUnit) : (s.setUnit u x).pending = s.pending := rfl
@[simp] theorem State.setUnit_part (s : State) (u : Nat) (x : CodecUnit) : (s.setUnit u x).part = s.part := rfl

/-! ### setEngine -/

@[simp] theorem State.setEngine_pw (s : State) (e : Nat) (x : Engine) : (s.setEngine e x).pw = s.pw := rfl
@[simp] theorem State.setEngine_hi (s : State) (e : Nat) (x : Engine) : (s.setEngine e x).hi = s.hi := rfl
@[simp] theorem State.setEngine_insts (s : State) (e : Nat) (x : Engine) : (s.setEngine e x).insts = s.insts := rfl
@[simp] theorem State.setEngine_sl (s : State) (e : Nat) (x : Engine) : (s.setEngine e x).sl = s.sl := rfl
@[simp] theorem State.setEngine_hg (s : State) (e : Nat) (x : Engine) : (s.setEngine e x).hg = s.hg := rfl
@[simp] theorem State.setEngine_cores (s : State) (e : Nat) (x : Engine) : (s.setEngine e x).cores = s.cores := rfl
@[simp] theorem State.setEngine_pools (s : State) (e : Nat) (x : Engine) : (s.setEngine e x).pools = s.pools := rfl
@[simp] theorem State.setEngine_codec (s : State) (e : Nat) (x : Engine) : (s.setEngine e x).codec = s.codec := rfl
@[simp] theorem State.setEngine_keys (s : State) (e : Nat) (x : Engine) : (s.setEngine e x).keys = s.keys := rfl
@[simp] theorem State.setEngine_mc (s : State) (e : Nat) (x : Engine) : (s.setEngine e x).mc = s.mc := rfl
@[simp] theorem State.setEngine_flash (s : State) (e : Nat) (x : Engine) : (s.setEngine e x).flash = s.flash := rfl
@[simp] theorem State.setEngine_fp (s : State) (e : Nat) (x : Engine) : (s.setEngine e x).fp = s.fp := rfl
@[simp] theorem State.setEngine_tl (s : State) (e : Nat) (x : Engine) : (s.setEngine e x).tl = s.tl := rfl
@[simp] theorem State.setEngine_out (s : State) (e : Nat) (x : Engine) : (s.setEngine e x).out = s.out := rfl
@[simp] theorem State.setEngine_fresh (s : State) (e : Nat) (x : Engine) : (s.setEngine e x).fresh = s.fresh := rfl
@[simp] theorem State.setEngine_pending (s : State) (e : Nat) (x : Engine) : (s.setEngine e x).pending = s.pending := rfl
@[simp] theorem State.setEngine_part (s : State) (e : Nat) (x : Engine) : (s.setEngine e x).part = s.part := rfl

/-! ### setPort -/

@[simp] theorem State.setPort_pw (s : State) (p : Nat) (x : Port) : (s.setPort p x).pw = s.pw := rfl
@[simp] theorem State.setPort_hi (s : State) (p : Nat) (x : Port) : (s.setPort p x).hi = s.hi := rfl
@[simp] theorem State.setPort_insts (s : State) (p : Nat) (x : Port) : (s.setPort p x).insts = s.insts := rfl
@[simp] theorem State.setPort_sl (s : State) (p : Nat) (x : Port) : (s.setPort p x).sl = s.sl := rfl
@[simp] theorem State.setPort_hg (s : State) (p : Nat) (x : Port) : (s.setPort p x).hg = s.hg := rfl
@[simp] theorem State.setPort_cores (s : State) (p : Nat) (x : Port) : (s.setPort p x).cores = s.cores := rfl
@[simp] theorem State.setPort_pools (s : State) (p : Nat) (x : Port) : (s.setPort p x).pools = s.pools := rfl
@[simp] theorem State.setPort_codec (s : State) (p : Nat) (x : Port) : (s.setPort p x).codec = s.codec := rfl
@[simp] theorem State.setPort_dg (s : State) (p : Nat) (x : Port) : (s.setPort p x).dg = s.dg := rfl
@[simp] theorem State.setPort_keys (s : State) (p : Nat) (x : Port) : (s.setPort p x).keys = s.keys := rfl
@[simp] theorem State.setPort_mc (s : State) (p : Nat) (x : Port) : (s.setPort p x).mc = s.mc := rfl
@[simp] theorem State.setPort_flash (s : State) (p : Nat) (x : Port) : (s.setPort p x).flash = s.flash := rfl
@[simp] theorem State.setPort_tl (s : State) (p : Nat) (x : Port) : (s.setPort p x).tl = s.tl := rfl
@[simp] theorem State.setPort_out (s : State) (p : Nat) (x : Port) : (s.setPort p x).out = s.out := rfl
@[simp] theorem State.setPort_fresh (s : State) (p : Nat) (x : Port) : (s.setPort p x).fresh = s.fresh := rfl
@[simp] theorem State.setPort_pending (s : State) (p : Nat) (x : Port) : (s.setPort p x).pending = s.pending := rfl
@[simp] theorem State.setPort_part (s : State) (p : Nat) (x : Port) : (s.setPort p x).part = s.part := rfl

/-! ### setItem -/

@[simp] theorem State.setItem_pw (s : State) (n : Nat) (x : Item) : (s.setItem n x).pw = s.pw := rfl
@[simp] theorem State.setItem_hi (s : State) (n : Nat) (x : Item) : (s.setItem n x).hi = s.hi := rfl
@[simp] theorem State.setItem_insts (s : State) (n : Nat) (x : Item) : (s.setItem n x).insts = s.insts := rfl
@[simp] theorem State.setItem_sl (s : State) (n : Nat) (x : Item) : (s.setItem n x).sl = s.sl := rfl
@[simp] theorem State.setItem_cores (s : State) (n : Nat) (x : Item) : (s.setItem n x).cores = s.cores := rfl
@[simp] theorem State.setItem_pools (s : State) (n : Nat) (x : Item) : (s.setItem n x).pools = s.pools := rfl
@[simp] theorem State.setItem_codec (s : State) (n : Nat) (x : Item) : (s.setItem n x).codec = s.codec := rfl
@[simp] theorem State.setItem_dg (s : State) (n : Nat) (x : Item) : (s.setItem n x).dg = s.dg := rfl
@[simp] theorem State.setItem_keys (s : State) (n : Nat) (x : Item) : (s.setItem n x).keys = s.keys := rfl
@[simp] theorem State.setItem_mc (s : State) (n : Nat) (x : Item) : (s.setItem n x).mc = s.mc := rfl
@[simp] theorem State.setItem_flash (s : State) (n : Nat) (x : Item) : (s.setItem n x).flash = s.flash := rfl
@[simp] theorem State.setItem_fp (s : State) (n : Nat) (x : Item) : (s.setItem n x).fp = s.fp := rfl
@[simp] theorem State.setItem_tl (s : State) (n : Nat) (x : Item) : (s.setItem n x).tl = s.tl := rfl
@[simp] theorem State.setItem_out (s : State) (n : Nat) (x : Item) : (s.setItem n x).out = s.out := rfl
@[simp] theorem State.setItem_fresh (s : State) (n : Nat) (x : Item) : (s.setItem n x).fresh = s.fresh := rfl
@[simp] theorem State.setItem_pending (s : State) (n : Nat) (x : Item) : (s.setItem n x).pending = s.pending := rfl
@[simp] theorem State.setItem_part (s : State) (n : Nat) (x : Item) : (s.setItem n x).part = s.part := rfl

/-! ### setQuery -/

@[simp] theorem State.setQuery_pw (s : State) (n : Nat) (x : Query) : (s.setQuery n x).pw = s.pw := rfl
@[simp] theorem State.setQuery_hi (s : State) (n : Nat) (x : Query) : (s.setQuery n x).hi = s.hi := rfl
@[simp] theorem State.setQuery_insts (s : State) (n : Nat) (x : Query) : (s.setQuery n x).insts = s.insts := rfl
@[simp] theorem State.setQuery_sl (s : State) (n : Nat) (x : Query) : (s.setQuery n x).sl = s.sl := rfl
@[simp] theorem State.setQuery_cores (s : State) (n : Nat) (x : Query) : (s.setQuery n x).cores = s.cores := rfl
@[simp] theorem State.setQuery_pools (s : State) (n : Nat) (x : Query) : (s.setQuery n x).pools = s.pools := rfl
@[simp] theorem State.setQuery_codec (s : State) (n : Nat) (x : Query) : (s.setQuery n x).codec = s.codec := rfl
@[simp] theorem State.setQuery_dg (s : State) (n : Nat) (x : Query) : (s.setQuery n x).dg = s.dg := rfl
@[simp] theorem State.setQuery_keys (s : State) (n : Nat) (x : Query) : (s.setQuery n x).keys = s.keys := rfl
@[simp] theorem State.setQuery_mc (s : State) (n : Nat) (x : Query) : (s.setQuery n x).mc = s.mc := rfl
@[simp] theorem State.setQuery_flash (s : State) (n : Nat) (x : Query) : (s.setQuery n x).flash = s.flash := rfl
@[simp] theorem State.setQuery_fp (s : State) (n : Nat) (x : Query) : (s.setQuery n x).fp = s.fp := rfl
@[simp] theorem State.setQuery_tl (s : State) (n : Nat) (x : Query) : (s.setQuery n x).tl = s.tl := rfl
@[simp] theorem State.setQuery_out (s : State) (n : Nat) (x : Query) : (s.setQuery n x).out = s.out := rfl
@[simp] theorem State.setQuery_fresh (s : State) (n : Nat) (x : Query) : (s.setQuery n x).fresh = s.fresh := rfl
@[simp] theorem State.setQuery_pending (s : State) (n : Nat) (x : Query) : (s.setQuery n x).pending = s.pending := rfl
@[simp] theorem State.setQuery_part (s : State) (n : Nat) (x : Query) : (s.setQuery n x).part = s.part := rfl

/-! ### setOwner -/

@[simp] theorem State.setOwner_pw (s : State) (i : Nat) (x : Owner) : (s.setOwner i x).pw = s.pw := rfl
@[simp] theorem State.setOwner_hi (s : State) (i : Nat) (x : Owner) : (s.setOwner i x).hi = s.hi := rfl
@[simp] theorem State.setOwner_insts (s : State) (i : Nat) (x : Owner) : (s.setOwner i x).insts = s.insts := rfl
@[simp] theorem State.setOwner_sl (s : State) (i : Nat) (x : Owner) : (s.setOwner i x).sl = s.sl := rfl
@[simp] theorem State.setOwner_hg (s : State) (i : Nat) (x : Owner) : (s.setOwner i x).hg = s.hg := rfl
@[simp] theorem State.setOwner_cores (s : State) (i : Nat) (x : Owner) : (s.setOwner i x).cores = s.cores := rfl
@[simp] theorem State.setOwner_pools (s : State) (i : Nat) (x : Owner) : (s.setOwner i x).pools = s.pools := rfl
@[simp] theorem State.setOwner_codec (s : State) (i : Nat) (x : Owner) : (s.setOwner i x).codec = s.codec := rfl
@[simp] theorem State.setOwner_dg (s : State) (i : Nat) (x : Owner) : (s.setOwner i x).dg = s.dg := rfl
@[simp] theorem State.setOwner_keys (s : State) (i : Nat) (x : Owner) : (s.setOwner i x).keys = s.keys := rfl
@[simp] theorem State.setOwner_mc (s : State) (i : Nat) (x : Owner) : (s.setOwner i x).mc = s.mc := rfl
@[simp] theorem State.setOwner_fp (s : State) (i : Nat) (x : Owner) : (s.setOwner i x).fp = s.fp := rfl
@[simp] theorem State.setOwner_tl (s : State) (i : Nat) (x : Owner) : (s.setOwner i x).tl = s.tl := rfl
@[simp] theorem State.setOwner_out (s : State) (i : Nat) (x : Owner) : (s.setOwner i x).out = s.out := rfl
@[simp] theorem State.setOwner_fresh (s : State) (i : Nat) (x : Owner) : (s.setOwner i x).fresh = s.fresh := rfl
@[simp] theorem State.setOwner_pending (s : State) (i : Nat) (x : Owner) : (s.setOwner i x).pending = s.pending := rfl
@[simp] theorem State.setOwner_part (s : State) (i : Nat) (x : Owner) : (s.setOwner i x).part = s.part := rfl

/-! ### setStat -/

@[simp] theorem State.setStat_pw (s : State) (i : Nat) (x : HgStat) : (s.setStat i x).pw = s.pw := rfl
@[simp] theorem State.setStat_hi (s : State) (i : Nat) (x : HgStat) : (s.setStat i x).hi = s.hi := rfl
@[simp] theorem State.setStat_insts (s : State) (i : Nat) (x : HgStat) : (s.setStat i x).insts = s.insts := rfl
@[simp] theorem State.setStat_sl (s : State) (i : Nat) (x : HgStat) : (s.setStat i x).sl = s.sl := rfl
@[simp] theorem State.setStat_cores (s : State) (i : Nat) (x : HgStat) : (s.setStat i x).cores = s.cores := rfl
@[simp] theorem State.setStat_pools (s : State) (i : Nat) (x : HgStat) : (s.setStat i x).pools = s.pools := rfl
@[simp] theorem State.setStat_codec (s : State) (i : Nat) (x : HgStat) : (s.setStat i x).codec = s.codec := rfl
@[simp] theorem State.setStat_dg (s : State) (i : Nat) (x : HgStat) : (s.setStat i x).dg = s.dg := rfl
@[simp] theorem State.setStat_keys (s : State) (i : Nat) (x : HgStat) : (s.setStat i x).keys = s.keys := rfl
@[simp] theorem State.setStat_mc (s : State) (i : Nat) (x : HgStat) : (s.setStat i x).mc = s.mc := rfl
@[simp] theorem State.setStat_flash (s : State) (i : Nat) (x : HgStat) : (s.setStat i x).flash = s.flash := rfl
@[simp] theorem State.setStat_fp (s : State) (i : Nat) (x : HgStat) : (s.setStat i x).fp = s.fp := rfl
@[simp] theorem State.setStat_tl (s : State) (i : Nat) (x : HgStat) : (s.setStat i x).tl = s.tl := rfl
@[simp] theorem State.setStat_out (s : State) (i : Nat) (x : HgStat) : (s.setStat i x).out = s.out := rfl
@[simp] theorem State.setStat_fresh (s : State) (i : Nat) (x : HgStat) : (s.setStat i x).fresh = s.fresh := rfl
@[simp] theorem State.setStat_pending (s : State) (i : Nat) (x : HgStat) : (s.setStat i x).pending = s.pending := rfl
@[simp] theorem State.setStat_part (s : State) (i : Nat) (x : HgStat) : (s.setStat i x).part = s.part := rfl

/-! ### setChan -/

@[simp] theorem State.setChan_pw (s : State) (n : Nat) (x : Chan) : (s.setChan n x).pw = s.pw := rfl
@[simp] theorem State.setChan_hi (s : State) (n : Nat) (x : Chan) : (s.setChan n x).hi = s.hi := rfl
@[simp] theorem State.setChan_insts (s : State) (n : Nat) (x : Chan) : (s.setChan n x).insts = s.insts := rfl
@[simp] theorem State.setChan_sl (s : State) (n : Nat) (x : Chan) : (s.setChan n x).sl = s.sl := rfl
@[simp] theorem State.setChan_hg (s : State) (n : Nat) (x : Chan) : (s.setChan n x).hg = s.hg := rfl
@[simp] theorem State.setChan_cores (s : State) (n : Nat) (x : Chan) : (s.setChan n x).cores = s.cores := rfl
@[simp] theorem State.setChan_pools (s : State) (n : Nat) (x : Chan) : (s.setChan n x).pools = s.pools := rfl
@[simp] theorem State.setChan_codec (s : State) (n : Nat) (x : Chan) : (s.setChan n x).codec = s.codec := rfl
@[simp] theorem State.setChan_dg (s : State) (n : Nat) (x : Chan) : (s.setChan n x).dg = s.dg := rfl
@[simp] theorem State.setChan_keys (s : State) (n : Nat) (x : Chan) : (s.setChan n x).keys = s.keys := rfl
@[simp] theorem State.setChan_flash (s : State) (n : Nat) (x : Chan) : (s.setChan n x).flash = s.flash := rfl
@[simp] theorem State.setChan_fp (s : State) (n : Nat) (x : Chan) : (s.setChan n x).fp = s.fp := rfl
@[simp] theorem State.setChan_tl (s : State) (n : Nat) (x : Chan) : (s.setChan n x).tl = s.tl := rfl
@[simp] theorem State.setChan_out (s : State) (n : Nat) (x : Chan) : (s.setChan n x).out = s.out := rfl
@[simp] theorem State.setChan_fresh (s : State) (n : Nat) (x : Chan) : (s.setChan n x).fresh = s.fresh := rfl
@[simp] theorem State.setChan_pending (s : State) (n : Nat) (x : Chan) : (s.setChan n x).pending = s.pending := rfl
@[simp] theorem State.setChan_part (s : State) (n : Nat) (x : Chan) : (s.setChan n x).part = s.part := rfl

/-! ### setRank -/

@[simp] theorem State.setRank_pw (s : State) (n r : Nat) (x : Rank) : (s.setRank n r x).pw = s.pw := rfl
@[simp] theorem State.setRank_hi (s : State) (n r : Nat) (x : Rank) : (s.setRank n r x).hi = s.hi := rfl
@[simp] theorem State.setRank_insts (s : State) (n r : Nat) (x : Rank) : (s.setRank n r x).insts = s.insts := rfl
@[simp] theorem State.setRank_sl (s : State) (n r : Nat) (x : Rank) : (s.setRank n r x).sl = s.sl := rfl
@[simp] theorem State.setRank_hg (s : State) (n r : Nat) (x : Rank) : (s.setRank n r x).hg = s.hg := rfl
@[simp] theorem State.setRank_cores (s : State) (n r : Nat) (x : Rank) : (s.setRank n r x).cores = s.cores := rfl
@[simp] theorem State.setRank_pools (s : State) (n r : Nat) (x : Rank) : (s.setRank n r x).pools = s.pools := rfl
@[simp] theorem State.setRank_codec (s : State) (n r : Nat) (x : Rank) : (s.setRank n r x).codec = s.codec := rfl
@[simp] theorem State.setRank_dg (s : State) (n r : Nat) (x : Rank) : (s.setRank n r x).dg = s.dg := rfl
@[simp] theorem State.setRank_keys (s : State) (n r : Nat) (x : Rank) : (s.setRank n r x).keys = s.keys := rfl
@[simp] theorem State.setRank_flash (s : State) (n r : Nat) (x : Rank) : (s.setRank n r x).flash = s.flash := rfl
@[simp] theorem State.setRank_fp (s : State) (n r : Nat) (x : Rank) : (s.setRank n r x).fp = s.fp := rfl
@[simp] theorem State.setRank_tl (s : State) (n r : Nat) (x : Rank) : (s.setRank n r x).tl = s.tl := rfl
@[simp] theorem State.setRank_out (s : State) (n r : Nat) (x : Rank) : (s.setRank n r x).out = s.out := rfl
@[simp] theorem State.setRank_fresh (s : State) (n r : Nat) (x : Rank) : (s.setRank n r x).fresh = s.fresh := rfl
@[simp] theorem State.setRank_pending (s : State) (n r : Nat) (x : Rank) : (s.setRank n r x).pending = s.pending := rfl
@[simp] theorem State.setRank_part (s : State) (n r : Nat) (x : Rank) : (s.setRank n r x).part = s.part := rfl

/-! ### setCtl -/

@[simp] theorem State.setCtl_pw (s : State) (n : Nat) (x : Ctl) : (s.setCtl n x).pw = s.pw := rfl
@[simp] theorem State.setCtl_hi (s : State) (n : Nat) (x : Ctl) : (s.setCtl n x).hi = s.hi := rfl
@[simp] theorem State.setCtl_insts (s : State) (n : Nat) (x : Ctl) : (s.setCtl n x).insts = s.insts := rfl
@[simp] theorem State.setCtl_sl (s : State) (n : Nat) (x : Ctl) : (s.setCtl n x).sl = s.sl := rfl
@[simp] theorem State.setCtl_hg (s : State) (n : Nat) (x : Ctl) : (s.setCtl n x).hg = s.hg := rfl
@[simp] theorem State.setCtl_cores (s : State) (n : Nat) (x : Ctl) : (s.setCtl n x).cores = s.cores := rfl
@[simp] theorem State.setCtl_pools (s : State) (n : Nat) (x : Ctl) : (s.setCtl n x).pools = s.pools := rfl
@[simp] theorem State.setCtl_codec (s : State) (n : Nat) (x : Ctl) : (s.setCtl n x).codec = s.codec := rfl
@[simp] theorem State.setCtl_dg (s : State) (n : Nat) (x : Ctl) : (s.setCtl n x).dg = s.dg := rfl
@[simp] theorem State.setCtl_keys (s : State) (n : Nat) (x : Ctl) : (s.setCtl n x).keys = s.keys := rfl
@[simp] theorem State.setCtl_flash (s : State) (n : Nat) (x : Ctl) : (s.setCtl n x).flash = s.flash := rfl
@[simp] theorem State.setCtl_fp (s : State) (n : Nat) (x : Ctl) : (s.setCtl n x).fp = s.fp := rfl
@[simp] theorem State.setCtl_tl (s : State) (n : Nat) (x : Ctl) : (s.setCtl n x).tl = s.tl := rfl
@[simp] theorem State.setCtl_out (s : State) (n : Nat) (x : Ctl) : (s.setCtl n x).out = s.out := rfl
@[simp] theorem State.setCtl_fresh (s : State) (n : Nat) (x : Ctl) : (s.setCtl n x).fresh = s.fresh := rfl
@[simp] theorem State.setCtl_pending (s : State) (n : Nat) (x : Ctl) : (s.setCtl n x).pending = s.pending := rfl
@[simp] theorem State.setCtl_part (s : State) (n : Nat) (x : Ctl) : (s.setCtl n x).part = s.part := rfl

/-! ### addAct -/

@[simp] theorem State.addAct_pw (s : State) (i : Nat) (f : Act → Act) : (s.addAct i f).pw = s.pw := rfl
@[simp] theorem State.addAct_hi (s : State) (i : Nat) (f : Act → Act) : (s.addAct i f).hi = s.hi := rfl
@[simp] theorem State.addAct_insts (s : State) (i : Nat) (f : Act → Act) : (s.addAct i f).insts = s.insts := rfl
@[simp] theorem State.addAct_sl (s : State) (i : Nat) (f : Act → Act) : (s.addAct i f).sl = s.sl := rfl
@[simp] theorem State.addAct_hg (s : State) (i : Nat) (f : Act → Act) : (s.addAct i f).hg = s.hg := rfl
@[simp] theorem State.addAct_cores (s : State) (i : Nat) (f : Act → Act) : (s.addAct i f).cores = s.cores := rfl
@[simp] theorem State.addAct_pools (s : State) (i : Nat) (f : Act → Act) : (s.addAct i f).pools = s.pools := rfl
@[simp] theorem State.addAct_codec (s : State) (i : Nat) (f : Act → Act) : (s.addAct i f).codec = s.codec := rfl
@[simp] theorem State.addAct_dg (s : State) (i : Nat) (f : Act → Act) : (s.addAct i f).dg = s.dg := rfl
@[simp] theorem State.addAct_keys (s : State) (i : Nat) (f : Act → Act) : (s.addAct i f).keys = s.keys := rfl
@[simp] theorem State.addAct_mc (s : State) (i : Nat) (f : Act → Act) : (s.addAct i f).mc = s.mc := rfl
@[simp] theorem State.addAct_flash (s : State) (i : Nat) (f : Act → Act) : (s.addAct i f).flash = s.flash := rfl
@[simp] theorem State.addAct_fp (s : State) (i : Nat) (f : Act → Act) : (s.addAct i f).fp = s.fp := rfl
@[simp] theorem State.addAct_out (s : State) (i : Nat) (f : Act → Act) : (s.addAct i f).out = s.out := rfl
@[simp] theorem State.addAct_fresh (s : State) (i : Nat) (f : Act → Act) : (s.addAct i f).fresh = s.fresh := rfl
@[simp] theorem State.addAct_pending (s : State) (i : Nat) (f : Act → Act) : (s.addAct i f).pending = s.pending := rfl
@[simp] theorem State.addAct_part (s : State) (i : Nat) (f : Act → Act) : (s.addAct i f).part = s.part := rfl

/-! ### emit -/

@[simp] theorem State.emit_pw (s : State) (o : Output) : (s.emit o).pw = s.pw := rfl
@[simp] theorem State.emit_hi (s : State) (o : Output) : (s.emit o).hi = s.hi := rfl
@[simp] theorem State.emit_insts (s : State) (o : Output) : (s.emit o).insts = s.insts := rfl
@[simp] theorem State.emit_sl (s : State) (o : Output) : (s.emit o).sl = s.sl := rfl
@[simp] theorem State.emit_hg (s : State) (o : Output) : (s.emit o).hg = s.hg := rfl
@[simp] theorem State.emit_cores (s : State) (o : Output) : (s.emit o).cores = s.cores := rfl
@[simp] theorem State.emit_pools (s : State) (o : Output) : (s.emit o).pools = s.pools := rfl
@[simp] theorem State.emit_codec (s : State) (o : Output) : (s.emit o).codec = s.codec := rfl
@[simp] theorem State.emit_dg (s : State) (o : Output) : (s.emit o).dg = s.dg := rfl
@[simp] theorem State.emit_keys (s : State) (o : Output) : (s.emit o).keys = s.keys := rfl
@[simp] theorem State.emit_mc (s : State) (o : Output) : (s.emit o).mc = s.mc := rfl
@[simp] theorem State.emit_flash (s : State) (o : Output) : (s.emit o).flash = s.flash := rfl
@[simp] theorem State.emit_fp (s : State) (o : Output) : (s.emit o).fp = s.fp := rfl
@[simp] theorem State.emit_tl (s : State) (o : Output) : (s.emit o).tl = s.tl := rfl
@[simp] theorem State.emit_fresh (s : State) (o : Output) : (s.emit o).fresh = s.fresh := rfl
@[simp] theorem State.emit_pending (s : State) (o : Output) : (s.emit o).pending = s.pending := rfl
@[simp] theorem State.emit_part (s : State) (o : Output) : (s.emit o).part = s.part := rfl

/-! ### hostWrite -/

@[simp] theorem State.hostWrite_pw (s : State) (a : Nat) (b : List Byte) : (s.hostWrite a b).pw = s.pw := rfl
@[simp] theorem State.hostWrite_insts (s : State) (a : Nat) (b : List Byte) : (s.hostWrite a b).insts = s.insts := rfl
@[simp] theorem State.hostWrite_sl (s : State) (a : Nat) (b : List Byte) : (s.hostWrite a b).sl = s.sl := rfl
@[simp] theorem State.hostWrite_hg (s : State) (a : Nat) (b : List Byte) : (s.hostWrite a b).hg = s.hg := rfl
@[simp] theorem State.hostWrite_cores (s : State) (a : Nat) (b : List Byte) : (s.hostWrite a b).cores = s.cores := rfl
@[simp] theorem State.hostWrite_pools (s : State) (a : Nat) (b : List Byte) : (s.hostWrite a b).pools = s.pools := rfl
@[simp] theorem State.hostWrite_codec (s : State) (a : Nat) (b : List Byte) : (s.hostWrite a b).codec = s.codec := rfl
@[simp] theorem State.hostWrite_dg (s : State) (a : Nat) (b : List Byte) : (s.hostWrite a b).dg = s.dg := rfl
@[simp] theorem State.hostWrite_keys (s : State) (a : Nat) (b : List Byte) : (s.hostWrite a b).keys = s.keys := rfl
@[simp] theorem State.hostWrite_mc (s : State) (a : Nat) (b : List Byte) : (s.hostWrite a b).mc = s.mc := rfl
@[simp] theorem State.hostWrite_flash (s : State) (a : Nat) (b : List Byte) : (s.hostWrite a b).flash = s.flash := rfl
@[simp] theorem State.hostWrite_fp (s : State) (a : Nat) (b : List Byte) : (s.hostWrite a b).fp = s.fp := rfl
@[simp] theorem State.hostWrite_tl (s : State) (a : Nat) (b : List Byte) : (s.hostWrite a b).tl = s.tl := rfl
@[simp] theorem State.hostWrite_out (s : State) (a : Nat) (b : List Byte) : (s.hostWrite a b).out = s.out := rfl
@[simp] theorem State.hostWrite_fresh (s : State) (a : Nat) (b : List Byte) : (s.hostWrite a b).fresh = s.fresh := rfl
@[simp] theorem State.hostWrite_pending (s : State) (a : Nat) (b : List Byte) : (s.hostWrite a b).pending = s.pending := rfl
@[simp] theorem State.hostWrite_part (s : State) (a : Nat) (b : List Byte) : (s.hostWrite a b).part = s.part := rfl

/-! ### setVec -/

@[simp] theorem State.setVec_pw (s : State) (f : Fn) (v : Nat) (x : Vec) : (s.setVec f v x).pw = s.pw := rfl
@[simp] theorem State.setVec_insts (s : State) (f : Fn) (v : Nat) (x : Vec) : (s.setVec f v x).insts = s.insts := rfl
@[simp] theorem State.setVec_sl (s : State) (f : Fn) (v : Nat) (x : Vec) : (s.setVec f v x).sl = s.sl := rfl
@[simp] theorem State.setVec_hg (s : State) (f : Fn) (v : Nat) (x : Vec) : (s.setVec f v x).hg = s.hg := rfl
@[simp] theorem State.setVec_cores (s : State) (f : Fn) (v : Nat) (x : Vec) : (s.setVec f v x).cores = s.cores := rfl
@[simp] theorem State.setVec_pools (s : State) (f : Fn) (v : Nat) (x : Vec) : (s.setVec f v x).pools = s.pools := rfl
@[simp] theorem State.setVec_codec (s : State) (f : Fn) (v : Nat) (x : Vec) : (s.setVec f v x).codec = s.codec := rfl
@[simp] theorem State.setVec_dg (s : State) (f : Fn) (v : Nat) (x : Vec) : (s.setVec f v x).dg = s.dg := rfl
@[simp] theorem State.setVec_keys (s : State) (f : Fn) (v : Nat) (x : Vec) : (s.setVec f v x).keys = s.keys := rfl
@[simp] theorem State.setVec_mc (s : State) (f : Fn) (v : Nat) (x : Vec) : (s.setVec f v x).mc = s.mc := rfl
@[simp] theorem State.setVec_flash (s : State) (f : Fn) (v : Nat) (x : Vec) : (s.setVec f v x).flash = s.flash := rfl
@[simp] theorem State.setVec_fp (s : State) (f : Fn) (v : Nat) (x : Vec) : (s.setVec f v x).fp = s.fp := rfl
@[simp] theorem State.setVec_tl (s : State) (f : Fn) (v : Nat) (x : Vec) : (s.setVec f v x).tl = s.tl := rfl
@[simp] theorem State.setVec_out (s : State) (f : Fn) (v : Nat) (x : Vec) : (s.setVec f v x).out = s.out := rfl
@[simp] theorem State.setVec_fresh (s : State) (f : Fn) (v : Nat) (x : Vec) : (s.setVec f v x).fresh = s.fresh := rfl
@[simp] theorem State.setVec_pending (s : State) (f : Fn) (v : Nat) (x : Vec) : (s.setVec f v x).pending = s.pending := rfl
@[simp] theorem State.setVec_part (s : State) (f : Fn) (v : Nat) (x : Vec) : (s.setVec f v x).part = s.part := rfl

/-! ### modInst -/

@[simp] theorem State.modInst_pw (s : State) (i : Nat) (f : Inst → Inst) : (s.modInst i f).pw = s.pw := rfl
@[simp] theorem State.modInst_hi (s : State) (i : Nat) (f : Inst → Inst) : (s.modInst i f).hi = s.hi := rfl
@[simp] theorem State.modInst_sl (s : State) (i : Nat) (f : Inst → Inst) : (s.modInst i f).sl = s.sl := rfl
@[simp] theorem State.modInst_hg (s : State) (i : Nat) (f : Inst → Inst) : (s.modInst i f).hg = s.hg := rfl
@[simp] theorem State.modInst_cores (s : State) (i : Nat) (f : Inst → Inst) : (s.modInst i f).cores = s.cores := rfl
@[simp] theorem State.modInst_pools (s : State) (i : Nat) (f : Inst → Inst) : (s.modInst i f).pools = s.pools := rfl
@[simp] theorem State.modInst_codec (s : State) (i : Nat) (f : Inst → Inst) : (s.modInst i f).codec = s.codec := rfl
@[simp] theorem State.modInst_dg (s : State) (i : Nat) (f : Inst → Inst) : (s.modInst i f).dg = s.dg := rfl
@[simp] theorem State.modInst_keys (s : State) (i : Nat) (f : Inst → Inst) : (s.modInst i f).keys = s.keys := rfl
@[simp] theorem State.modInst_mc (s : State) (i : Nat) (f : Inst → Inst) : (s.modInst i f).mc = s.mc := rfl
@[simp] theorem State.modInst_flash (s : State) (i : Nat) (f : Inst → Inst) : (s.modInst i f).flash = s.flash := rfl
@[simp] theorem State.modInst_fp (s : State) (i : Nat) (f : Inst → Inst) : (s.modInst i f).fp = s.fp := rfl
@[simp] theorem State.modInst_tl (s : State) (i : Nat) (f : Inst → Inst) : (s.modInst i f).tl = s.tl := rfl
@[simp] theorem State.modInst_out (s : State) (i : Nat) (f : Inst → Inst) : (s.modInst i f).out = s.out := rfl
@[simp] theorem State.modInst_fresh (s : State) (i : Nat) (f : Inst → Inst) : (s.modInst i f).fresh = s.fresh := rfl
@[simp] theorem State.modInst_pending (s : State) (i : Nat) (f : Inst → Inst) : (s.modInst i f).pending = s.pending := rfl
@[simp] theorem State.modInst_part (s : State) (i : Nat) (f : Inst → Inst) : (s.modInst i f).part = s.part := rfl

/-! ### Reading back -/

@[simp] theorem State.core_setCore (s : State) (c : Nat) (k : Core) : (s.setCore c k).core c = k := by simp [State.core, State.setCore]
theorem State.core_setCore_ne (s : State) (c d : Nat) (k : Core) (h : d ≠ c) : (s.setCore c k).core d = s.core d := by
  simp [State.core, State.setCore, SMap.get_set_ne, h]
@[simp] theorem State.setCore_setCore (s : State) (c : Nat) (k l : Core) : (s.setCore c k).setCore c l = s.setCore c l := by simp [State.setCore]
@[simp] theorem State.inst_setInst (s : State) (i : Nat) (x : Inst) : (s.setInst i x).inst i = x := by simp [State.inst, State.setInst]
theorem State.inst_setInst_ne (s : State) (i j : Nat) (x : Inst) (h : j ≠ i) : (s.setInst i x).inst j = s.inst j := by
  simp [State.inst, State.setInst, SMap.get_set_ne, h]
@[simp] theorem State.pool_setPool (s : State) (i : Nat) (m : Cells) : (s.setPool i m).pool i = m := by simp [State.pool, State.setPool]
theorem State.pool_setPool_ne (s : State) (i j : Nat) (m : Cells) (h : j ≠ i) : (s.setPool i m).pool j = s.pool j := by
  simp [State.pool, State.setPool, SMap.get_set_ne, h]
@[simp] theorem State.unit_setUnit (s : State) (u : Nat) (x : CodecUnit) : (s.setUnit u x).unit u = x := by simp [State.unit, State.setUnit]
@[simp] theorem State.engine_setEngine (s : State) (e : Nat) (x : Engine) : (s.setEngine e x).engine e = x := by simp [State.engine, State.setEngine]
@[simp] theorem State.port_setPort (s : State) (p : Nat) (x : Port) : (s.setPort p x).port p = x := by simp [State.port, State.setPort]
@[simp] theorem State.item_setItem (s : State) (n : Nat) (x : Item) : (s.setItem n x).item? n = some x := by simp [State.item?, State.setItem, SMap.find_set_same]
@[simp] theorem State.query_setQuery (s : State) (n : Nat) (x : Query) : (s.setQuery n x).query? n = some x := by
  simp [State.query?, State.setQuery, SMap.find_set_same]
@[simp] theorem State.owner_setOwner (s : State) (i : Nat) (x : Owner) : (s.setOwner i x).owner? i = some x := by
  simp [State.owner?, State.setOwner, SMap.find_set_same]
@[simp] theorem State.stat_setStat (s : State) (i : Nat) (x : HgStat) : (s.setStat i x).stat i = x := by simp [State.stat, State.setStat]
@[simp] theorem State.chan_setChan (s : State) (n : Nat) (x : Chan) : (s.setChan n x).chan n = x := by simp [State.chan, State.setChan]
@[simp] theorem State.rank_setRank (s : State) (n r : Nat) (x : Rank) : (s.setRank n r x).rank n r = x := by simp [State.rank, State.setRank]
@[simp] theorem State.ctl_setCtl (s : State) (n : Nat) (x : Ctl) : (s.setCtl n x).ctl n = x := by simp [State.ctl, State.setCtl]
@[simp] theorem State.vec_setVec (s : State) (f : Fn) (v : Nat) (x : Vec) : (s.setVec f v x).vec f v = x := by simp [State.vec, State.setVec]

end Sys2Proof.Machine
end

