-- ==== Sys2Proof/Laws/Core.lean ====
section
/-! SUPPORT. What issue and retirement do, once for every core instruction. -/
namespace Sys2Proof.Machine

/-- A core that is woken by its issue differs in its activity only. -/
theorem core_wakeCore (s : State) (c : Nat) : (wakeCore s c).core c = { s.core c with act := .running } := by
  unfold wakeCore
  split
  · rename_i h
    cases hk : s.core c
    simp_all
  · simp

theorem setCore_wakeCore (s : State) (c : Nat) (k : Core) : (wakeCore s c).setCore c k = s.setCore c k := by
  unfold wakeCore
  split <;> simp

theorem now_wakeCore (s : State) (c : Nat) : (wakeCore s c).now = s.now := by
  unfold wakeCore
  split <;> rfl

/-- An instruction that nothing stands in the way of has its effect. -/
theorem issue_next (s : State) (c : Nat) (word : W32) (n : Need) (body : Core → State → State) (h : issues s c n = true) :
    issue c word n s body = .next (body { s.core c with act := .running } (wakeCore s c)) := by
  simp only [issues, Bool.and_eq_true, decide_eq_true_eq, Bool.not_eq_true'] at h
  obtain ⟨⟨⟨⟨⟨⟨⟨⟨h1, h2⟩, h3⟩, h4⟩, h5⟩, h6⟩, h7⟩, h8⟩, h9⟩ := h
  have e1 : ¬ 98 ≤ c := by omega
  have hf : fetchExc (s.core c) = none := by simpa using h4
  have hv : ((s.core c).vres != 0 && (!n.resumable || decide ((s.core c).vln.toNat ≤ (s.core c).vres.toNat))) = false := by
    rcases Bool.or_eq_true _ _ |>.mp h5 with h | h
    · simp_all
    · obtain ⟨a, b⟩ := Bool.and_eq_true _ _ |>.mp h
      have b' := of_decide_eq_true b
      have : decide ((s.core c).vln.toNat ≤ (s.core c).vres.toNat) = false := decide_eq_false (by omega)
      rw [a, this]
      simp
  have hl : (n.illegal || (n.notLoopEnd && (s.core c).atLoopEnd)) = false := by rw [h6, h7]; rfl
  have hk : (n.keeperOnly && !(s.core c).keeper) = false := by
    rcases Bool.or_eq_true _ _ |>.mp h8 with h | h
    · simp_all
    · rw [h]; simp
  unfold issue
  rw [if_neg e1, h2]
  simp only [core_wakeCore]
  have d1 : ({ s.core c with act := Activity.running } : Core).deliverable = false := h3
  have d2 : fetchExc ({ s.core c with act := Activity.running } : Core) = none := hf
  have d3 : ({ s.core c with act := Activity.running } : Core).mustWait n = false := h9
  have d4 : (n.illegal || (n.notLoopEnd && ({ s.core c with act := Activity.running } : Core).atLoopEnd)) = false := hl
  simp only [d1, d2, d3, d4, hv, hk, Bool.not_true, Bool.false_eq_true, if_false]

/-- Where execution continues, and LPC (R145). -/
theorem nextPc_eq (k : Core) :
    nextPc k = (if (k.lpc != 0 && k.pc == k.lpe) = true then (if k.lpc = 1 then k.lpe + 4 else k.lps) else k.pc + 4,
                if (k.lpc != 0 && k.pc == k.lpe) = true then k.lpc - 1 else k.lpc) := by
  unfold nextPc Core.atLoopEnd
  cases (k.lpc != 0 && k.pc == k.lpe)
  · simp only [Bool.false_eq_true, if_false]
  · simp only [if_true]
    by_cases h : k.lpc = 1
    · rw [h]; rfl
    · have h2 : k.lpc - 1 ≠ 0 := fun x => h (by bv_omega)
      rw [if_pos (bne_iff_ne.mpr h2), if_neg h]

/-- Retirement of an instruction that wrote no loop register. -/
theorem retire_wakeCore (s : State) (c : Nat) (k : Core) (h1 : k.pc = (s.core c).pc) (h2 : k.lpc = (s.core c).lpc) (h3 : k.lps = (s.core c).lps)
    (h4 : k.lpe = (s.core c).lpe) (h5 : k.icache = (s.core c).icache) (h6 : k.act = .running) :
    retire (wakeCore s c) c k = stepped s c k := by
  simp only [retire, retireAs, nextPc_eq, stepped, setCore_wakeCore, now_wakeCore, h1, h2, h3, h4, h5, h6]

theorem wr_act (k : Core) (a : Activity) (r : GReg) (v : W64) : Core.wr { k with act := a } r v = { Core.wr k r v with act := a } := by
  unfold Core.wr; split <;> rfl

theorem rd_act (k : Core) (a : Activity) (r : GReg) : Core.rd { k with act := a } r = k.rd r := rfl

theorem stepped_act (s : State) (c : Nat) (k : Core) (a : Activity) : stepped s c { k with act := a } = stepped s c k := rfl

theorem wr_pc (k : Core) (r : GReg) (v : W64) : (k.wr r v).pc = k.pc := by unfold Core.wr; split <;> rfl
theorem wr_lpc (k : Core) (r : GReg) (v : W64) : (k.wr r v).lpc = k.lpc := by unfold Core.wr; split <;> rfl
theorem wr_lps (k : Core) (r : GReg) (v : W64) : (k.wr r v).lps = k.lps := by unfold Core.wr; split <;> rfl
theorem wr_lpe (k : Core) (r : GReg) (v : W64) : (k.wr r v).lpe = k.lpe := by unfold Core.wr; split <;> rfl
theorem wr_icache (k : Core) (r : GReg) (v : W64) : (k.wr r v).icache = k.icache := by unfold Core.wr; split <;> rfl

/-- A three-register instruction that nothing stands in the way of (R137). -/
theorem regOp_next (s : State) (c : Nat) (word : W32) (rd ra rb : GReg) (f : W64 → W64 → W64) (h : issues s c { regs := [rd, ra, rb] } = true) :
    regOp c word rd ra rb f s = .next (stepped s c ((s.core c).wr rd (f ((s.core c).rd ra) ((s.core c).rd rb)))) := by
  unfold regOp
  rw [issue_next _ _ _ _ _ h, retire_wakeCore]
  · simp only [wr_act, rd_act, stepped_act]
  all_goals simp [wr_act, wr_pc, wr_lpc, wr_lps, wr_lpe, wr_icache]

end Sys2Proof.Machine
end

