-- ==== Sys2Proof/Laws/Keeps.lean ====
section
/-! SUPPORT. What each shared operation leaves alone, said once per operation. `Keeps p m s t`: the cores that p names have in t the registers and the
local store they have in s; where m holds, working memory and the pools are the same; and canonical memories stay canonical. A lemma `Keeps.f` carries the
relation over a call of f (`Keeps.f_some`, `Keeps.f_pair`, `Keeps.f_ok` and `Keeps.f_inv` where f answers an Option, a pair or a store's result;
`Keeps.f_next` where it answers an outcome). Its hypothesis `hm` marks an operation that can store to working memory or a pool, and `hp` one that can change
registers or a local store: of its own core c (`¬p c`), or of any core (`∀ c, ¬p c`). With p never true and m false both hold and `canon` is what is left. -/
namespace Sys2Proof.Machine

set_option linter.all false
set_option Elab.async false

structure Keeps (p : Nat → Prop) (m : Prop) (s t : State) : Prop where
  cores : ∀ c, p c → (t.core c).g = (s.core c).g ∧ (t.core c).w = (s.core c).w ∧ (t.core c).ls = (s.core c).ls
  bytes : m → t.mc.cells = s.mc.cells ∧ t.pools = s.pools
  canon : s.memsWf → t.memsWf

variable {p : Nat → Prop} {m : Prop} {a s t : State}

theorem Keeps.rfl (s : State) : Keeps p m s s := ⟨fun _ _ => ⟨Eq.refl _, Eq.refl _, Eq.refl _⟩, fun _ => ⟨Eq.refl _, Eq.refl _⟩, id⟩

theorem Keeps.trans {b : State} (h : Keeps p m a b) (k : Keeps p m b t) : Keeps p m a t :=
  ⟨fun n x => ⟨(k.cores n x).1.trans (h.cores n x).1, (k.cores n x).2.1.trans (h.cores n x).2.1, (k.cores n x).2.2.trans (h.cores n x).2.2⟩,
   fun x => ⟨(k.bytes x).1.trans (h.bytes x).1, (k.bytes x).2.trans (h.bytes x).2⟩, fun x => k.canon (h.canon x)⟩

/-- The local store of a core is canonical. -/
theorem State.memsWf.core (h : s.memsWf) (c : Nat) : (s.core c).ls.wf = true := by
  rw [State.core, SMap.get]
  cases hf : SMap.find s.cores c with
  | none => decide
  | some v => exact h.2.2.2 c v (SMap.mem_of_find _ _ _ hf)

theorem State.memsWf.pool (h : s.memsWf) (c : Nat) : (s.pool c).wf = true := by
  rw [State.pool, SMap.get]
  cases hf : SMap.find s.pools c with
  | none => decide
  | some v => exact h.2.2.1 c v (SMap.mem_of_find _ _ _ hf)

/-- A state that differs in none of the memories and cores. -/
theorem Keeps.of_mk {part pw hi insts sl hg cores pools codec dg keys mc flash fp tl out fresh pending} (e4 : cores = s.cores) (e1 : mc.cells = s.mc.cells)
    (e2 : hi.mem = s.hi.mem) (e3 : pools = s.pools) (h : Keeps p m a s) :
    Keeps p m a (State.mk part pw hi insts sl hg cores pools codec dg keys mc flash fp tl out fresh pending) := by
  refine h.trans ⟨fun c _ => ?_, fun _ => ⟨e1, e3⟩, fun ⟨w1, w2, w3, w4⟩ => ⟨?_, ?_, ?_, ?_⟩⟩
  · simp [State.core, e4]
  · exact e1 ▸ w1
  · exact e2 ▸ w2
  · exact e3 ▸ w3
  · exact e4 ▸ w4

theorem Keeps.ite {q : Prop} [Decidable q] (h : Keeps p m a s) (k : Keeps p m a t) : Keeps p m a (if q then s else t) := by split <;> assumption

theorem Keeps.foldl {α : Type} {f : State → α → State} (l : List α) (h : Keeps p m a s) (hf : ∀ u e, Keeps p m u (f u e)) : Keeps p m a (l.foldl f s) := by
  induction l generalizing s with
  | nil => exact h
  | cons x l ih => exact ih (h.trans (hf s x))

/-- A core set to a state with a canonical local store; its registers and local store are as before, or p does not name it. -/
theorem Keeps.setCoreOf {c : Nat} {k : Core} (h : Keeps p m a s) (e : p c → k.g = (s.core c).g ∧ k.w = (s.core c).w ∧ k.ls = (s.core c).ls)
    (w : s.memsWf → k.ls.wf = true) : Keeps p m a (s.setCore c k) := by
  refine h.trans ⟨fun n hn => ?_, fun _ => ⟨Eq.refl _, Eq.refl _⟩, fun x => ⟨x.1, x.2.1, x.2.2.1, fun d y hy => ?_⟩⟩
  · by_cases q : n = c
    · subst q; simpa using e hn
    · simp [State.core, State.setCore, SMap.get_set_ne, q]
  · rcases SMap.mem_set _ _ _ _ hy with z | z
    · cases z; exact w x
    · exact x.2.2.2 d y z

theorem Keeps.setCore {c : Nat} {k : Core} (e : k.g = (s.core c).g ∧ k.w = (s.core c).w ∧ k.ls = (s.core c).ls) (h : Keeps p m a s) : Keeps p m a (s.setCore c k) :=
  h.setCoreOf (fun _ => e) (fun x => e.2.2 ▸ x.core c)

theorem Keeps.setCoreRegs {c : Nat} {k : Core} (hp : ¬p c) (e : k.ls = (s.core c).ls) (h : Keeps p m a s) : Keeps p m a (s.setCore c k) :=
  h.setCoreOf (fun x => absurd x hp) (fun x => e ▸ x.core c)

theorem Keeps.setCoreEmpty {c : Nat} {k : Core} (hp : ¬p c) (e : k.ls = []) (h : Keeps p m a s) : Keeps p m a (s.setCore c k) :=
  h.setCoreOf (fun x => absurd x hp) (fun _ => by rw [e]; decide)

theorem Keeps.setCoreStore {c : Nat} {k : Core} {off : Nat} {bs : List Byte} (hp : ¬p c) (e : k.ls = Cells.writeList (s.core c).ls off bs) (h : Keeps p m a s) :
    Keeps p m a (s.setCore c k) :=
  h.setCoreOf (fun x => absurd x hp) (fun x => e ▸ Cells.wf_writeList _ _ _ (x.core c))

/-- Every core changed alike, its registers and local store kept. -/
theorem Keeps.mapCores {f : Nat → Core → Core} {g : State} (e : ∀ n k, (f n k).g = k.g ∧ (f n k).w = k.w ∧ (f n k).ls = k.ls) (ec : g.cores = SMap.mapVals s.cores f)
    (e1 : g.mc.cells = s.mc.cells) (e2 : g.hi.mem = s.hi.mem) (e3 : g.pools = s.pools) (h : Keeps p m a s) : Keeps p m a g := by
  refine h.trans ⟨fun c _ => ?_, fun _ => ⟨e1, e3⟩, fun w => ⟨?_, ?_, ?_, fun c k hk => ?_⟩⟩
  · have : SMap.find g.cores c = (SMap.find s.cores c).map (f c) := by
      rw [ec]
      generalize s.cores = l
      induction l with
      | nil => simp [SMap.mapVals, SMap.find]
      | cons x l ih =>
        obtain ⟨n, v⟩ := x
        simp only [SMap.mapVals, List.map_cons, SMap.find] at ih ⊢
        split
        · subst_vars; simp
        · exact ih
    simp only [State.core, SMap.get, this]
    cases SMap.find s.cores c with
    | none => simp
    | some v => simpa using e c v
  · exact e1 ▸ w.1
  · exact e2 ▸ w.2.1
  · exact e3 ▸ w.2.2.1
  · rw [ec, SMap.mapVals, List.mem_map] at hk
    obtain ⟨⟨n, v⟩, hv, he⟩ := hk
    cases he
    exact (e n v).2.2 ▸ w.2.2.2 n v hv

theorem Keeps.hostWrite {n : Nat} {b : List Byte} (h : Keeps p m a s) : Keeps p m a (s.hostWrite n b) :=
  h.trans ⟨fun _ _ => ⟨Eq.refl _, Eq.refl _, Eq.refl _⟩, fun _ => ⟨Eq.refl _, Eq.refl _⟩, fun w => ⟨w.1, Cells.wf_writeList _ _ _ w.2.1, w.2.2⟩⟩

theorem Keeps.setPool {c : Nat} {off : Nat} {bs : List Byte} (hm : ¬m) (h : Keeps p m a s) : Keeps p m a (s.setPool c (Cells.writeList (s.pool c) off bs)) := by
  refine h.trans ⟨fun _ _ => ⟨Eq.refl _, Eq.refl _, Eq.refl _⟩, fun x => absurd x hm, fun w => ⟨w.1, w.2.1, fun d y hy => ?_, w.2.2.2⟩⟩
  rcases SMap.mem_set _ _ _ _ hy with z | z
  · cases z; exact Cells.wf_writeList _ _ _ (w.pool c)
  · exact w.2.2.1 d y z


/-- As `of_mk`, with a list of bytes written to working memory. -/
theorem Keeps.cells_mk {n : Nat} {bs : List Byte} {part pw hi insts sl hg cores pools codec dg keys mc flash fp tl out fresh pending} (hm : ¬m) (e4 : cores = s.cores)
    (e1 : mc.cells = Cells.writeList s.mc.cells n bs) (e2 : hi.mem = s.hi.mem) (e3 : pools = s.pools) (h : Keeps p m a s) :
    Keeps p m a (State.mk part pw hi insts sl hg cores pools codec dg keys mc flash fp tl out fresh pending) := by
  refine h.trans ⟨fun c _ => ?_, fun x => absurd x hm, fun ⟨w1, w2, w3, w4⟩ => ⟨?_, ?_, ?_, ?_⟩⟩
  · simp [State.core, e4]
  · exact e1 ▸ Cells.wf_writeList _ _ _ w1
  · exact e2 ▸ w2
  · exact e3 ▸ w3
  · exact e4 ▸ w4

theorem Keeps.foldlOn {α β : Type} (g : β → State) {f : β → α → β} {x : β} (l : List α) (h : Keeps p m a (g x)) (hf : ∀ u e, Keeps p m (g u) (g (f u e))) :
    Keeps p m a (g (l.foldl f x)) := by
  induction l generalizing x with
  | nil => exact h
  | cons y l ih => exact ih (h.trans (hf x y))

/-- A core set to a state of the stated registers, wherever p does not name the core. -/
theorem Keeps.setCoreWf {c : Nat} {k : Core} (hp : ¬p c) (e : (s.core c).ls.wf = true → k.ls.wf = true) (h : Keeps p m a s) : Keeps p m a (s.setCore c k) :=
  h.setCoreOf (fun x => absurd x hp) (fun x => e (x.core c))

/-- The engine cleared: no core, no pool and no byte of working memory is left. -/
theorem Keeps.cleared {g : State} (hm : ¬m) (hp : ∀ c, ¬p c) (e : g.cores = []) (e1 : g.mc.cells = []) (e2 : g.hi.mem = s.hi.mem) (e3 : g.pools = []) (h : Keeps p m a s) :
    Keeps p m a g := by
  refine h.trans ⟨fun c x => absurd x (hp c), fun x => absurd x hm, fun w => ⟨?_, ?_, ?_, ?_⟩⟩
  · rw [e1]; rfl
  · exact e2 ▸ w.2.1
  · rw [e3]; intro k v hk; cases hk
  · rw [e]; intro k v hk; cases hk

theorem Keeps.foldlM_some {α : Type} {f : State → α → Option State} {l : List α} (e : l.foldlM f s = some t) (hf : ∀ u x v, f u x = some v → Keeps p m u v)
    (h : Keeps p m a s) : Keeps p m a t := by
  induction l generalizing s with
  | nil => cases e; exact h
  | cons x l ih =>
    simp only [List.foldlM_cons, Option.bind_eq_bind, Option.bind_eq_some_iff] at e
    obtain ⟨v, k, e⟩ := e
    exact ih e (h.trans (hf _ _ _ k))

theorem Keeps.map_some {β : Type} {f : β → State} {o : Option β} (e : o.map f = some t) (k : ∀ b, o = some b → Keeps p m a (f b)) : Keeps p m a t := by
  cases o with
  | none => cases e
  | some b => cases e; exact k b (Eq.refl _)

/-- As `of_mk`, with every core changed alike. -/
theorem Keeps.mapCores_mk {f : Nat → Core → Core} {part pw hi insts sl hg cores pools codec dg keys mc flash fp tl out fresh pending} (ec : cores = SMap.mapVals s.cores f)
    (e1 : mc.cells = s.mc.cells) (e2 : hi.mem = s.hi.mem) (e3 : pools = s.pools) (e : ∀ n k, (f n k).g = k.g ∧ (f n k).w = k.w ∧ (f n k).ls = k.ls) (h : Keeps p m a s) :
    Keeps p m a (State.mk part pw hi insts sl hg cores pools codec dg keys mc flash fp tl out fresh pending) :=
  Keeps.mapCores e ec e1 e2 e3 h

theorem Core.wr_ls (k : Core) (r v) : (k.wr r v).ls = k.ls := by
  unfold Core.wr
  split <;> exact Eq.refl _

theorem Keeps.setInst {i : Nat} {x : Inst} (h : Keeps p m a s) : Keeps p m a (Machine.State.setInst s i x) :=
  Keeps.of_mk (Eq.refl _) (Eq.refl _) (Eq.refl _) (Eq.refl _) h

theorem Keeps.modInst {i : Nat} {f : Inst → Inst} (h : Keeps p m a s) : Keeps p m a (Machine.State.modInst s i f) :=
  Keeps.of_mk (Eq.refl _) (Eq.refl _) (Eq.refl _) (Eq.refl _) h

theorem Keeps.setUnit {u : Nat} {x : CodecUnit} (h : Keeps p m a s) : Keeps p m a (Machine.State.setUnit s u x) :=
  Keeps.of_mk (Eq.refl _) (Eq.refl _) (Eq.refl _) (Eq.refl _) h

theorem Keeps.setEngine {e' : Nat} {x : Engine} (h : Keeps p m a s) : Keeps p m a (Machine.State.setEngine s e' x) :=
  Keeps.of_mk (Eq.refl _) (Eq.refl _) (Eq.refl _) (Eq.refl _) h

theorem Keeps.setPort {p' : Nat} {x : Port} (h : Keeps p m a s) : Keeps p m a (Machine.State.setPort s p' x) :=
  Keeps.of_mk (Eq.refl _) (Eq.refl _) (Eq.refl _) (Eq.refl _) h

theorem Keeps.setItem {slot : Nat} {x : Item} (h : Keeps p m a s) : Keeps p m a (Machine.State.setItem s slot x) :=
  Keeps.of_mk (Eq.refl _) (Eq.refl _) (Eq.refl _) (Eq.refl _) h

theorem Keeps.setQuery {ctx : Nat} {q : Query} (h : Keeps p m a s) : Keeps p m a (Machine.State.setQuery s ctx q) :=
  Keeps.of_mk (Eq.refl _) (Eq.refl _) (Eq.refl _) (Eq.refl _) h

theorem Keeps.setOwner {i : Nat} {o : Owner} (h : Keeps p m a s) : Keeps p m a (Machine.State.setOwner s i o) :=
  Keeps.of_mk (Eq.refl _) (Eq.refl _) (Eq.refl _) (Eq.refl _) h

theorem Keeps.setStat {i : Nat} {x : HgStat} (h : Keeps p m a s) : Keeps p m a (Machine.State.setStat s i x) :=
  Keeps.of_mk (Eq.refl _) (Eq.refl _) (Eq.refl _) (Eq.refl _) h

theorem Keeps.setChan {ch : Nat} {x : Chan} (h : Keeps p m a s) : Keeps p m a (Machine.State.setChan s ch x) :=
  Keeps.of_mk (Eq.refl _) (Eq.refl _) (Eq.refl _) (Eq.refl _) h

theorem Keeps.setRank {ch : Nat} {r : Nat} {x : Rank} (h : Keeps p m a s) : Keeps p m a (Machine.State.setRank s ch r x) :=
  Keeps.of_mk (Eq.refl _) (Eq.refl _) (Eq.refl _) (Eq.refl _) h

theorem Keeps.setCtl {c : Nat} {x : Ctl} (h : Keeps p m a s) : Keeps p m a (Machine.State.setCtl s c x) :=
  Keeps.of_mk (Eq.refl _) (Eq.refl _) (Eq.refl _) (Eq.refl _) h

theorem Keeps.addAct {i : Nat} {f : Act → Act} (h : Keeps p m a s) : Keeps p m a (Machine.State.addAct s i f) :=
  Keeps.of_mk (Eq.refl _) (Eq.refl _) (Eq.refl _) (Eq.refl _) h

theorem Keeps.emit {o : Output} (h : Keeps p m a s) : Keeps p m a (Machine.State.emit s o) :=
  Keeps.of_mk (Eq.refl _) (Eq.refl _) (Eq.refl _) (Eq.refl _) h

theorem Keeps.free (h : Keeps p m a s) : Keeps p m a (Machine.State.free s).2 := by
  unfold Machine.State.free
  try dsimp only
  iterate 25 (all_goals try first | with_reducible assumption | with_reducible exact Keeps.rfl _ | with_reducible refine Keeps.ite ?_ ?_ | split | dsimp only | refine Keeps.of_mk (Eq.refl _) (Eq.refl _) (Eq.refl _) (Eq.refl _) ?_)

theorem Keeps.free_pair {x0} (e : (Machine.State.free s) = (x0, t)) (h : Keeps p m a s) : Keeps p m a t := by
  have k : Keeps p m a (Machine.State.free s).2 := Keeps.free h
  rw [e] at k
  exact k

theorem Keeps.freeBytes {n : Nat} (h : Keeps p m a s) : Keeps p m a (Machine.State.freeBytes s n).2 := by
  unfold Machine.State.freeBytes
  try dsimp only
  iterate 25 (all_goals try first | with_reducible assumption | with_reducible exact Keeps.rfl _ | with_reducible refine Keeps.ite ?_ ?_ | split | dsimp only | refine Keeps.of_mk (Eq.refl _) (Eq.refl _) (Eq.refl _) (Eq.refl _) ?_)

theorem Keeps.freeBytes_pair {n : Nat} {x0} (e : (Machine.State.freeBytes s n) = (x0, t)) (h : Keeps p m a s) : Keeps p m a t := by
  have k : Keeps p m a (Machine.State.freeBytes s n).2 := Keeps.freeBytes h
  rw [e] at k
  exact k

theorem Keeps.setVec {f : Fn} {v : Nat} {x : Vec} (h : Keeps p m a s) : Keeps p m a (Machine.State.setVec s f v x) :=
  Keeps.of_mk (Eq.refl _) (Eq.refl _) (Eq.refl _) (Eq.refl _) h

theorem Keeps.signal {f : Fn} {v : Nat} (h : Keeps p m a s) : Keeps p m a (Machine.State.signal s f v) := by
  unfold Machine.State.signal
  try dsimp only
  iterate 25 (all_goals try first | with_reducible assumption | with_reducible exact Keeps.rfl _ | with_reducible refine Keeps.emit ?_ | with_reducible refine Keeps.setVec ?_ | with_reducible refine Keeps.ite ?_ ?_ | split | dsimp only | refine Keeps.of_mk (Eq.refl _) (Eq.refl _) (Eq.refl _) (Eq.refl _) ?_)

theorem Keeps.vfEvent {i : Nat} {bit : Nat} (h : Keeps p m a s) : Keeps p m a (Machine.State.vfEvent s i bit) := by
  unfold Machine.State.vfEvent
  try dsimp only
  iterate 25 (all_goals try first | with_reducible assumption | with_reducible exact Keeps.rfl _ | with_reducible refine Keeps.setInst ?_ | with_reducible refine Keeps.signal ?_ | with_reducible refine Keeps.hostWrite ?_ | with_reducible refine Keeps.ite ?_ ?_ | split | dsimp only | refine Keeps.of_mk (Eq.refl _) (Eq.refl _) (Eq.refl _) (Eq.refl _) ?_)

theorem Keeps.icEdge {c : Nat} {src : Nat} (h : Keeps p m a s) : Keeps p m a (Machine.State.icEdge s c src) := by
  unfold Machine.State.icEdge
  try dsimp only
  iterate 25 (all_goals try first | with_reducible assumption | with_reducible exact Keeps.rfl _ | ((with_reducible refine Keeps.setCore ?_ ?_); exact ⟨Eq.refl _, Eq.refl _, Eq.refl _⟩) | with_reducible refine Keeps.ite ?_ ?_ | split | dsimp only | refine Keeps.of_mk (Eq.refl _) (Eq.refl _) (Eq.refl _) (Eq.refl _) ?_)

theorem Keeps.svEdge {src : Nat} (h : Keeps p m a s) : Keeps p m a (Machine.State.svEdge s src) := by
  unfold Machine.State.svEdge
  try dsimp only
  iterate 25 (all_goals try first | with_reducible assumption | with_reducible exact Keeps.rfl _ | with_reducible refine Keeps.icEdge ?_ | with_reducible refine Keeps.ite ?_ ?_ | split | dsimp only | refine Keeps.of_mk (Eq.refl _) (Eq.refl _) (Eq.refl _) (Eq.refl _) ?_)

theorem Keeps.logEvent {code : Nat} {inst : Nat} {sev : Nat} {arg : Nat} (h : Keeps p m a s) : Keeps p m a (Machine.State.logEvent s code inst sev arg) := by
  unfold Machine.State.logEvent
  try dsimp only
  iterate 25 (all_goals try first | with_reducible assumption | with_reducible exact Keeps.rfl _ | with_reducible refine Keeps.signal ?_ | with_reducible refine Keeps.vfEvent ?_ | with_reducible refine Keeps.svEdge ?_ | (with_reducible refine Keeps.foldl _ ?_ (fun u e => ?_)) | with_reducible refine Keeps.ite ?_ ?_ | split | dsimp only | refine Keeps.of_mk (Eq.refl _) (Eq.refl _) (Eq.refl _) (Eq.refl _) ?_)

theorem Keeps.touchRank {ch : Nat} {r : Nat} (h : Keeps p m a s) : Keeps p m a (Machine.State.touchRank s ch r) :=
  Keeps.of_mk (Eq.refl _) (Eq.refl _) (Eq.refl _) (Eq.refl _) h

theorem Keeps.failRunning (h : Keeps p m a s) : Keeps p m a (Machine.State.failRunning s) := by
  unfold Machine.State.failRunning
  try dsimp only
  iterate 25 (all_goals try first | with_reducible assumption | with_reducible exact Keeps.rfl _ | (with_reducible refine Keeps.foldl _ ?_ (fun u e => ?_)) | with_reducible refine Keeps.ite ?_ ?_ | split | dsimp only | refine Keeps.of_mk (Eq.refl _) (Eq.refl _) (Eq.refl _) (Eq.refl _) ?_)

theorem Keeps.stopChan {ch : Nat} (h : Keeps p m a s) : Keeps p m a (Machine.State.stopChan s ch) := by
  unfold Machine.State.stopChan
  try dsimp only
  iterate 25 (all_goals try first | with_reducible assumption | with_reducible exact Keeps.rfl _ | with_reducible refine Keeps.setChan ?_ | with_reducible refine Keeps.svEdge ?_ | with_reducible refine Keeps.logEvent ?_ | with_reducible refine Keeps.failRunning ?_ | with_reducible refine Keeps.ite ?_ ?_ | split | dsimp only | refine Keeps.of_mk (Eq.refl _) (Eq.refl _) (Eq.refl _) (Eq.refl _) ?_)

theorem Keeps.countUe {da : Nat} {ch : Nat} (h : Keeps p m a s) : Keeps p m a (Machine.State.countUe s da ch) := by
  unfold Machine.State.countUe
  try dsimp only
  iterate 25 (all_goals try first | with_reducible assumption | with_reducible exact Keeps.rfl _ | with_reducible refine Keeps.setChan ?_ | with_reducible refine Keeps.setCtl ?_ | with_reducible refine Keeps.svEdge ?_ | with_reducible refine Keeps.logEvent ?_ | with_reducible refine Keeps.stopChan ?_ | with_reducible refine Keeps.ite ?_ ?_ | split | dsimp only | refine Keeps.of_mk (Eq.refl _) (Eq.refl _) (Eq.refl _) (Eq.refl _) ?_)

theorem Keeps.countCe {ch : Nat} {n : Nat} (h : Keeps p m a s) : Keeps p m a (Machine.State.countCe s ch n) := by
  unfold Machine.State.countCe
  try dsimp only
  iterate 25 (all_goals try first | with_reducible assumption | with_reducible exact Keeps.rfl _ | with_reducible refine Keeps.setChan ?_ | with_reducible refine Keeps.setCtl ?_ | with_reducible refine Keeps.logEvent ?_ | with_reducible refine Keeps.ite ?_ ?_ | split | dsimp only | refine Keeps.of_mk (Eq.refl _) (Eq.refl _) (Eq.refl _) (Eq.refl _) ?_)

theorem Keeps.readRow {ch : Nat} {r : Nat} (h : Keeps p m a s) : Keeps p m a (Machine.State.readRow s ch r).2 := by
  unfold Machine.State.readRow
  try dsimp only
  iterate 25 (all_goals try first | with_reducible assumption | with_reducible exact Keeps.rfl _ | with_reducible refine Keeps.countCe ?_ | with_reducible refine Keeps.setChan ?_ | with_reducible refine Keeps.ite ?_ ?_ | split | dsimp only | refine Keeps.of_mk (Eq.refl _) (Eq.refl _) (Eq.refl _) (Eq.refl _) ?_)

theorem Keeps.readRow_pair {ch : Nat} {r : Nat} {x0} (e : (Machine.State.readRow s ch r) = (x0, t)) (h : Keeps p m a s) : Keeps p m a t := by
  have k : Keeps p m a (Machine.State.readRow s ch r).2 := Keeps.readRow h
  rw [e] at k
  exact k

theorem Keeps.addUpsets {ch : Nat} {ups : List Upset} (h : Keeps p m a s) : Keeps p m a (Machine.State.addUpsets s ch ups) :=
  Keeps.of_mk (Eq.refl _) (Eq.refl _) (Eq.refl _) (Eq.refl _) h

theorem Keeps.moved {tag : Nat} {n : Nat} (h : Keeps p m a s) : Keeps p m a (Machine.State.moved s tag n) := by
  unfold Machine.State.moved
  try dsimp only
  iterate 25 (all_goals try first | with_reducible assumption | with_reducible exact Keeps.rfl _ | with_reducible refine Keeps.addAct ?_ | (with_reducible refine Keeps.foldl _ ?_ (fun u e => ?_)) | with_reducible refine Keeps.ite ?_ ?_ | split | dsimp only | refine Keeps.of_mk (Eq.refl _) (Eq.refl _) (Eq.refl _) (Eq.refl _) ?_)

theorem Keeps.readSlot {tag : Nat} {ch : Nat} {r : Nat} {slot : Nat} (h : Keeps p m a s) : Keeps p m a (Machine.State.readSlot s tag ch r slot).2 := by
  unfold Machine.State.readSlot
  try dsimp only
  iterate 25 (all_goals try first | with_reducible assumption | with_reducible exact Keeps.rfl _ | with_reducible refine Keeps.moved ?_ | with_reducible refine Keeps.setChan ?_ | with_reducible refine Keeps.countUe ?_ | with_reducible refine Keeps.readRow ?_ | with_reducible refine Keeps.readRow_pair (by assumption) ?_ | (with_reducible refine Keeps.foldl _ ?_ (fun u e => ?_)) | with_reducible refine Keeps.ite ?_ ?_ | split | dsimp only | refine Keeps.of_mk (Eq.refl _) (Eq.refl _) (Eq.refl _) (Eq.refl _) ?_)

theorem Keeps.readSlot_pair {tag : Nat} {ch : Nat} {r : Nat} {slot : Nat} {x0} (e : (Machine.State.readSlot s tag ch r slot) = (x0, t)) (h : Keeps p m a s) : Keeps p m a t := by
  have k : Keeps p m a (Machine.State.readSlot s tag ch r slot).2 := Keeps.readSlot h
  rw [e] at k
  exact k

theorem Keeps.flushRow {ch : Nat} (h : Keeps p m a s) : Keeps p m a (Machine.State.flushRow s ch) := by
  unfold Machine.State.flushRow
  try dsimp only
  iterate 25 (all_goals try first | with_reducible assumption | with_reducible exact Keeps.rfl _ | with_reducible refine Keeps.setChan ?_ | with_reducible refine Keeps.moved ?_ | with_reducible refine Keeps.readSlot ?_ | with_reducible refine Keeps.readSlot_pair (by assumption) ?_ | (with_reducible refine Keeps.foldl _ ?_ (fun u e => ?_)) | with_reducible refine Keeps.ite ?_ ?_ | split | dsimp only | refine Keeps.of_mk (Eq.refl _) (Eq.refl _) (Eq.refl _) (Eq.refl _) ?_)

theorem Keeps.flushFor {ch : Nat} {r : Nat} (h : Keeps p m a s) : Keeps p m a (Machine.State.flushFor s ch r) := by
  unfold Machine.State.flushFor
  try dsimp only
  iterate 25 (all_goals try first | with_reducible assumption | with_reducible exact Keeps.rfl _ | with_reducible refine Keeps.flushRow ?_ | (with_reducible refine Keeps.foldl _ ?_ (fun u e => ?_)) | with_reducible refine Keeps.ite ?_ ?_ | split | dsimp only | refine Keeps.of_mk (Eq.refl _) (Eq.refl _) (Eq.refl _) (Eq.refl _) ?_)

theorem Keeps.readLine {tag : Nat} {line : Nat} (h : Keeps p m a s) : Keeps p m a (Machine.State.readLine s tag line).2 := by
  unfold Machine.State.readLine
  try dsimp only
  iterate 25 (all_goals try first | with_reducible assumption | with_reducible exact Keeps.rfl _ | with_reducible refine Keeps.addAct ?_ | with_reducible refine Keeps.touchRank ?_ | with_reducible refine Keeps.countUe ?_ | with_reducible refine Keeps.readRow ?_ | with_reducible refine Keeps.readRow_pair (by assumption) ?_ | with_reducible refine Keeps.flushFor ?_ | with_reducible refine Keeps.readSlot ?_ | with_reducible refine Keeps.readSlot_pair (by assumption) ?_ | (with_reducible refine Keeps.foldl _ ?_ (fun u e => ?_)) | with_reducible refine Keeps.ite ?_ ?_ | split | dsimp only | refine Keeps.of_mk (Eq.refl _) (Eq.refl _) (Eq.refl _) (Eq.refl _) ?_)

theorem Keeps.readLine_pair {tag : Nat} {line : Nat} {x0} (e : (Machine.State.readLine s tag line) = (x0, t)) (h : Keeps p m a s) : Keeps p m a t := by
  have k : Keeps p m a (Machine.State.readLine s tag line).2 := Keeps.readLine h
  rw [e] at k
  exact k

theorem Keeps.mergeLine {tag : Nat} {ch : Nat} {r : Nat} {slot : Nat} (h : Keeps p m a s) : Keeps p m a (Machine.State.mergeLine s tag ch r slot) := by
  unfold Machine.State.mergeLine
  try dsimp only
  iterate 25 (all_goals try first | with_reducible assumption | with_reducible exact Keeps.rfl _ | with_reducible refine Keeps.flushRow ?_ | with_reducible refine Keeps.setChan ?_ | (with_reducible refine Keeps.foldl _ ?_ (fun u e => ?_)) | with_reducible refine Keeps.ite ?_ ?_ | split | dsimp only | refine Keeps.of_mk (Eq.refl _) (Eq.refl _) (Eq.refl _) (Eq.refl _) ?_)

theorem Keeps.writeLine {tag : Nat} {line : Nat} {d : List Byte} (hm : ¬m) (h : Keeps p m a s) : Keeps p m a (Machine.State.writeLine s tag line d) := by
  unfold Machine.State.writeLine
  try dsimp only
  iterate 25 (all_goals try first | with_reducible assumption | with_reducible exact Keeps.rfl _ | refine Keeps.cells_mk hm (Eq.refl _) (Eq.refl _) (Eq.refl _) (Eq.refl _) ?_ | with_reducible refine Keeps.addAct ?_ | with_reducible refine Keeps.touchRank ?_ | with_reducible refine Keeps.moved ?_ | with_reducible refine Keeps.mergeLine ?_ | with_reducible refine Keeps.ite ?_ ?_ | split | dsimp only | refine Keeps.of_mk (Eq.refl _) (Eq.refl _) (Eq.refl _) (Eq.refl _) ?_)

theorem Keeps.readMem {tag : Nat} {da : Nat} {len : Nat} (h : Keeps p m a s) : Keeps p m a (Machine.State.readMem s tag da len).2 := by
  unfold Machine.State.readMem
  try dsimp only
  iterate 25 (all_goals try first | with_reducible assumption | with_reducible exact Keeps.rfl _ | with_reducible refine Keeps.foldlOn Prod.snd _ ?_ (fun u e => ?_) | with_reducible refine Keeps.readLine ?_ | with_reducible refine Keeps.readLine_pair (by assumption) ?_ | (with_reducible refine Keeps.foldl _ ?_ (fun u e => ?_)) | with_reducible refine Keeps.ite ?_ ?_ | split | dsimp only | refine Keeps.of_mk (Eq.refl _) (Eq.refl _) (Eq.refl _) (Eq.refl _) ?_)

theorem Keeps.readMem_pair {tag : Nat} {da : Nat} {len : Nat} {x0} (e : (Machine.State.readMem s tag da len) = (x0, t)) (h : Keeps p m a s) : Keeps p m a t := by
  have k : Keeps p m a (Machine.State.readMem s tag da len).2 := Keeps.readMem h
  rw [e] at k
  exact k

theorem Keeps.storeLine {tag : Nat} {da : Nat} {line : Nat} {d : List Byte} (hm : ¬m) (h : Keeps p m a s) : Keeps p m a (Machine.State.storeLine s tag da line d).2 := by
  unfold Machine.State.storeLine
  try dsimp only
  iterate 25 (all_goals try first | with_reducible assumption | with_reducible exact Keeps.rfl _ | with_reducible refine Keeps.writeLine hm ?_ | with_reducible refine Keeps.readLine ?_ | with_reducible refine Keeps.readLine_pair (by assumption) ?_ | (with_reducible refine Keeps.foldl _ ?_ (fun u e => ?_)) | with_reducible refine Keeps.ite ?_ ?_ | split | dsimp only | refine Keeps.of_mk (Eq.refl _) (Eq.refl _) (Eq.refl _) (Eq.refl _) ?_)

theorem Keeps.storeLine_pair {tag : Nat} {da : Nat} {line : Nat} {d : List Byte} (hm : ¬m) {x0} (e : (Machine.State.storeLine s tag da line d) = (x0, t)) (h : Keeps p m a s) : Keeps p m a t := by
  have k : Keeps p m a (Machine.State.storeLine s tag da line d).2 := Keeps.storeLine hm h
  rw [e] at k
  exact k

theorem Keeps.writeMem {tag : Nat} {da : Nat} {d : List Byte} (hm : ¬m) (h : Keeps p m a s) : Keeps p m a (Machine.State.writeMem s tag da d) := by
  unfold Machine.State.writeMem
  try dsimp only
  iterate 25 (all_goals try first | with_reducible assumption | with_reducible exact Keeps.rfl _ | with_reducible refine Keeps.readLine ?_ | with_reducible refine Keeps.readLine_pair (by assumption) ?_ | with_reducible refine Keeps.writeLine hm ?_ | with_reducible refine Keeps.storeLine hm ?_ | with_reducible refine Keeps.storeLine_pair hm (by assumption) ?_ | (with_reducible refine Keeps.foldl _ ?_ (fun u e => ?_)) | with_reducible refine Keeps.ite ?_ ?_ | split | dsimp only | refine Keeps.of_mk (Eq.refl _) (Eq.refl _) (Eq.refl _) (Eq.refl _) ?_)

theorem Keeps.alloc_some {i : Nat} {align : Nat} {len : Nat} {x0} (e : (Machine.State.alloc s i align len) = some (x0, t)) (h : Keeps p m a s) : Keeps p m a t := by
  unfold Machine.State.alloc at e
  try dsimp only at e
  repeat' split at e
  all_goals first | (cases e; done) | skip
  all_goals (try cases e)
  iterate 25 (all_goals try first | with_reducible assumption | with_reducible exact Keeps.rfl _ | with_reducible refine Keeps.setInst ?_ | with_reducible refine Keeps.ite ?_ ?_ | split | dsimp only | refine Keeps.of_mk (Eq.refl _) (Eq.refl _) (Eq.refl _) (Eq.refl _) ?_)

theorem Keeps.reserveIngest {i : Nat} (h : Keeps p m a s) : Keeps p m a (Machine.State.reserveIngest s i) := by
  unfold Machine.State.reserveIngest
  try dsimp only
  iterate 25 (all_goals try first | with_reducible assumption | with_reducible exact Keeps.rfl _ | with_reducible refine Keeps.modInst ?_ | (with_reducible refine Keeps.foldl _ ?_ (fun u e => ?_)) | with_reducible refine Keeps.ite ?_ ?_ | split | dsimp only | refine Keeps.of_mk (Eq.refl _) (Eq.refl _) (Eq.refl _) (Eq.refl _) ?_)

theorem Keeps.freeRegion {i : Nat} {da : Nat} (h : Keeps p m a s) : Keeps p m a (Machine.State.freeRegion s i da) :=
  Keeps.of_mk (Eq.refl _) (Eq.refl _) (Eq.refl _) (Eq.refl _) h

theorem Keeps.orFlags {slot : Nat} {bitsSet : W64} (h : Keeps p m a s) : Keeps p m a (Machine.State.orFlags s slot bitsSet) := by
  unfold Machine.State.orFlags
  try dsimp only
  iterate 25 (all_goals try first | with_reducible assumption | with_reducible exact Keeps.rfl _ | with_reducible refine Keeps.setItem ?_ | with_reducible refine Keeps.ite ?_ ?_ | split | dsimp only | refine Keeps.of_mk (Eq.refl _) (Eq.refl _) (Eq.refl _) (Eq.refl _) ?_)

theorem Keeps.setFlume {f : Nat} {x : Flume} (h : Keeps p m a s) : Keeps p m a (Machine.State.setFlume s f x) :=
  Keeps.of_mk (Eq.refl _) (Eq.refl _) (Eq.refl _) (Eq.refl _) h

theorem Keeps.unstage {posts : List Post} (h : Keeps p m a s) : Keeps p m a (Machine.State.unstage s posts) := by
  unfold Machine.State.unstage
  try dsimp only
  iterate 25 (all_goals try first | with_reducible assumption | with_reducible exact Keeps.rfl _ | with_reducible refine Keeps.setFlume ?_ | (with_reducible refine Keeps.foldl _ ?_ (fun u e => ?_)) | with_reducible refine Keeps.ite ?_ ?_ | split | dsimp only | refine Keeps.of_mk (Eq.refl _) (Eq.refl _) (Eq.refl _) (Eq.refl _) ?_)

theorem Keeps.noteRoom {s' : State} (h : Keeps p m a s) : Keeps p m a (Machine.State.noteRoom s s') := by
  unfold Machine.State.noteRoom
  try dsimp only
  iterate 25 (all_goals try first | with_reducible assumption | with_reducible exact Keeps.rfl _ | (with_reducible refine Keeps.foldl _ ?_ (fun u e => ?_)) | with_reducible refine Keeps.ite ?_ ?_ | split | dsimp only | refine Keeps.of_mk (Eq.refl _) (Eq.refl _) (Eq.refl _) (Eq.refl _) ?_)

theorem Keeps.dropJobs {pc : Submitter → Bool} (h : Keeps p m a s) : Keeps p m a (Machine.State.dropJobs s pc) := by
  unfold Machine.State.dropJobs
  exact Keeps.noteRoom (Keeps.of_mk (Eq.refl _) (Eq.refl _) (Eq.refl _) (Eq.refl _) h)

theorem Keeps.dropItemJobs {slot : Nat} (h : Keeps p m a s) : Keeps p m a (Machine.State.dropItemJobs s slot) := Keeps.dropJobs h

theorem Keeps.putParcel {i : Nat} {cluster : Nat} {p' : Parcel} {off : Nat} {bs : List Byte} (hm : ¬m) (h : Keeps p m a s) : Keeps p m a (Machine.State.putParcel s i cluster p' off bs) := by
  unfold Machine.State.putParcel
  try dsimp only
  iterate 25 (all_goals try first | with_reducible assumption | with_reducible exact Keeps.rfl _ | with_reducible refine Keeps.writeMem hm ?_ | with_reducible refine Keeps.setPool hm ?_ | with_reducible refine Keeps.ite ?_ ?_ | split | dsimp only | refine Keeps.of_mk (Eq.refl _) (Eq.refl _) (Eq.refl _) (Eq.refl _) ?_)

theorem Keeps.closeParcels {ctx : Nat} {slot : Nat} {st : Nat} (hm : ¬m) (h : Keeps p m a s) : Keeps p m a (Machine.State.closeParcels s ctx slot st) := by
  unfold Machine.State.closeParcels
  try dsimp only
  iterate 25 (all_goals try first | with_reducible assumption | with_reducible exact Keeps.rfl _ | with_reducible refine Keeps.setQuery ?_ | with_reducible refine Keeps.putParcel hm ?_ | (with_reducible refine Keeps.foldl _ ?_ (fun u e => ?_)) | with_reducible refine Keeps.ite ?_ ?_ | split | dsimp only | refine Keeps.of_mk (Eq.refl _) (Eq.refl _) (Eq.refl _) (Eq.refl _) ?_)

theorem Keeps.voidParcels {ctx : Nat} {slot : Nat} (hm : ¬m) (h : Keeps p m a s) : Keeps p m a (Machine.State.voidParcels s ctx slot) := by
  unfold Machine.State.voidParcels
  try dsimp only
  iterate 25 (all_goals try first | with_reducible assumption | with_reducible exact Keeps.rfl _ | with_reducible refine Keeps.closeParcels hm ?_ | with_reducible refine Keeps.ite ?_ ?_ | split | dsimp only | refine Keeps.of_mk (Eq.refl _) (Eq.refl _) (Eq.refl _) (Eq.refl _) ?_)

theorem Core.loseItem_regs (k : Core) : k.loseItem.g = k.g ∧ k.loseItem.w = k.w ∧ k.loseItem.ls = k.ls := by
  unfold Core.loseItem
  split <;> exact ⟨Eq.refl _, Eq.refl _, Eq.refl _⟩

theorem Keeps.discardItem {slot : Nat} (hm : ¬m) (h : Keeps p m a s) : Keeps p m a (Machine.State.discardItem s slot) := by
  unfold Machine.State.discardItem
  try dsimp only
  iterate 25 (all_goals try first | with_reducible assumption | with_reducible exact Keeps.rfl _ | refine Keeps.mapCores_mk (Eq.refl _) (Eq.refl _) (Eq.refl _) (Eq.refl _) (fun n k => ?_) ?_ | exact ⟨Eq.refl _, Eq.refl _, Eq.refl _⟩ | (split <;> first | exact Core.loseItem_regs _ | exact ⟨Eq.refl _, Eq.refl _, Eq.refl _⟩) | exact Core.loseItem_regs _ | with_reducible refine Keeps.setQuery ?_ | with_reducible refine Keeps.unstage ?_ | with_reducible refine Keeps.dropItemJobs ?_ | with_reducible refine Keeps.voidParcels hm ?_ | (with_reducible refine Keeps.foldl _ ?_ (fun u e => ?_)) | with_reducible refine Keeps.ite ?_ ?_ | split | dsimp only | refine Keeps.of_mk (Eq.refl _) (Eq.refl _) (Eq.refl _) (Eq.refl _) ?_)

theorem Keeps.discardItems {p' : Item → Bool} (hm : ¬m) (h : Keeps p m a s) : Keeps p m a (Machine.State.discardItems s p') := by
  unfold Machine.State.discardItems
  try dsimp only
  iterate 25 (all_goals try first | with_reducible assumption | with_reducible exact Keeps.rfl _ | with_reducible refine Keeps.discardItem hm ?_ | (with_reducible refine Keeps.foldl _ ?_ (fun u e => ?_)) | with_reducible refine Keeps.ite ?_ ?_ | split | dsimp only | refine Keeps.of_mk (Eq.refl _) (Eq.refl _) (Eq.refl _) (Eq.refl _) ?_)

theorem Keeps.failQuery {ctx : Nat} {st : W16} (hm : ¬m) (h : Keeps p m a s) : Keeps p m a (Machine.State.failQuery s ctx st) := by
  unfold Machine.State.failQuery
  try dsimp only
  iterate 25 (all_goals try first | with_reducible assumption | with_reducible exact Keeps.rfl _ | with_reducible refine Keeps.setQuery ?_ | with_reducible refine Keeps.discardItems hm ?_ | with_reducible refine Keeps.ite ?_ ?_ | split | dsimp only | refine Keeps.of_mk (Eq.refl _) (Eq.refl _) (Eq.refl _) (Eq.refl _) ?_)

theorem Keeps.closeCtx {ctx : Nat} (hm : ¬m) (h : Keeps p m a s) : Keeps p m a (Machine.State.closeCtx s ctx) := by
  unfold Machine.State.closeCtx
  try dsimp only
  iterate 25 (all_goals try first | with_reducible assumption | with_reducible exact Keeps.rfl _ | with_reducible refine Keeps.freeRegion ?_ | with_reducible refine Keeps.discardItems hm ?_ | with_reducible refine Keeps.ite ?_ ?_ | split | dsimp only | refine Keeps.of_mk (Eq.refl _) (Eq.refl _) (Eq.refl _) (Eq.refl _) ?_)

theorem Keeps.setSlot {k' : Nat} {v : List Byte} (h : Keeps p m a s) : Keeps p m a (Machine.State.setSlot s k' v) :=
  Keeps.of_mk (Eq.refl _) (Eq.refl _) (Eq.refl _) (Eq.refl _) h

theorem Keeps.zeroSlot {k' : Nat} (h : Keeps p m a s) : Keeps p m a (Machine.State.zeroSlot s k') :=
  Keeps.of_mk (Eq.refl _) (Eq.refl _) (Eq.refl _) (Eq.refl _) h

theorem Keeps.wire {p' : Nat} {x : Session} {seq : Nat} {ty : Nat} {tag : Nat} {a0 : Nat} {a1 : Nat} {pay : List Byte} (h : Keeps p m a s) : Keeps p m a (Machine.State.wire s p' x seq ty tag a0 a1 pay) :=
  Keeps.of_mk (Eq.refl _) (Eq.refl _) (Eq.refl _) (Eq.refl _) h

theorem Keeps.dropWork {i : Nat} {c : Cmd} (hm : ¬m) (h : Keeps p m a s) : Keeps p m a (Machine.State.dropWork s i c) := by
  unfold Machine.State.dropWork
  try dsimp only
  iterate 25 (all_goals try first | with_reducible assumption | with_reducible exact Keeps.rfl _ | with_reducible refine Keeps.modInst ?_ | with_reducible refine Keeps.freeRegion ?_ | with_reducible refine Keeps.discardItems hm ?_ | with_reducible refine Keeps.closeCtx hm ?_ | (with_reducible refine Keeps.foldl _ ?_ (fun u e => ?_)) | with_reducible refine Keeps.ite ?_ ?_ | split | dsimp only | refine Keeps.of_mk (Eq.refl _) (Eq.refl _) (Eq.refl _) (Eq.refl _) ?_)

theorem Keeps.removeCmd {i : Nat} {no : Nat} (hm : ¬m) (h : Keeps p m a s) : Keeps p m a (Machine.State.removeCmd s i no) := by
  unfold Machine.State.removeCmd
  try dsimp only
  iterate 25 (all_goals try first | with_reducible assumption | with_reducible exact Keeps.rfl _ | with_reducible refine Keeps.modInst ?_ | with_reducible refine Keeps.dropWork hm ?_ | with_reducible refine Keeps.ite ?_ ?_ | split | dsimp only | refine Keeps.of_mk (Eq.refl _) (Eq.refl _) (Eq.refl _) (Eq.refl _) ?_)

theorem Keeps.endTags {p' : Nat} {x : Session} (hm : ¬m) (h : Keeps p m a s) : Keeps p m a (Machine.State.endTags s p' x) := by
  unfold Machine.State.endTags
  try dsimp only
  iterate 25 (all_goals try first | with_reducible assumption | with_reducible exact Keeps.rfl _ | with_reducible refine Keeps.removeCmd hm ?_ | (with_reducible refine Keeps.foldl _ ?_ (fun u e => ?_)) | with_reducible refine Keeps.ite ?_ ?_ | split | dsimp only | refine Keeps.of_mk (Eq.refl _) (Eq.refl _) (Eq.refl _) (Eq.refl _) ?_)

theorem Keeps.closeSession {p' : Nat} {reason : Nat} (hm : ¬m) (h : Keeps p m a s) : Keeps p m a (Machine.State.closeSession s p' reason) := by
  unfold Machine.State.closeSession
  try dsimp only
  iterate 25 (all_goals try first | with_reducible assumption | with_reducible exact Keeps.rfl _ | with_reducible refine Keeps.setPort ?_ | with_reducible refine Keeps.zeroSlot ?_ | with_reducible refine Keeps.wire ?_ | with_reducible refine Keeps.endTags hm ?_ | with_reducible refine Keeps.ite ?_ ?_ | split | dsimp only | refine Keeps.of_mk (Eq.refl _) (Eq.refl _) (Eq.refl _) (Eq.refl _) ?_)

theorem Keeps.dropPending {p' : Nat} (h : Keeps p m a s) : Keeps p m a (Machine.State.dropPending s p') := by
  unfold Machine.State.dropPending
  try dsimp only
  iterate 25 (all_goals try first | with_reducible assumption | with_reducible exact Keeps.rfl _ | with_reducible refine Keeps.setPort ?_ | with_reducible refine Keeps.zeroSlot ?_ | with_reducible refine Keeps.ite ?_ ?_ | split | dsimp only | refine Keeps.of_mk (Eq.refl _) (Eq.refl _) (Eq.refl _) (Eq.refl _) ?_)

theorem Keeps.dropOpens {p' : Nat} (h : Keeps p m a s) : Keeps p m a (Machine.State.dropOpens s p') := by
  unfold Machine.State.dropOpens
  try dsimp only
  iterate 25 (all_goals try first | with_reducible assumption | with_reducible exact Keeps.rfl _ | with_reducible refine Keeps.setPort ?_ | with_reducible refine Keeps.zeroSlot ?_ | (with_reducible refine Keeps.foldl _ ?_ (fun u e => ?_)) | with_reducible refine Keeps.ite ?_ ?_ | split | dsimp only | refine Keeps.of_mk (Eq.refl _) (Eq.refl _) (Eq.refl _) (Eq.refl _) ?_)

theorem Keeps.send {p' : Nat} {ty : Nat} {tag : Nat} {a0 : Nat} {a1 : Nat} (hm : ¬m) (h : Keeps p m a s) : Keeps p m a (Machine.State.send s p' ty tag a0 a1) := by
  unfold Machine.State.send
  try dsimp only
  iterate 25 (all_goals try first | with_reducible assumption | with_reducible exact Keeps.rfl _ | with_reducible refine Keeps.setPort ?_ | with_reducible refine Keeps.wire ?_ | with_reducible refine Keeps.closeSession hm ?_ | with_reducible refine Keeps.ite ?_ ?_ | split | dsimp only | refine Keeps.of_mk (Eq.refl _) (Eq.refl _) (Eq.refl _) (Eq.refl _) ?_)

theorem Keeps.finishOne {i : Nat} {c : Cmd} {st : W16} {res : W64} (hm : ¬m) (h : Keeps p m a s) : Keeps p m a (Machine.State.finishOne s i c st res) := by
  unfold Machine.State.finishOne
  try dsimp only
  iterate 25 (all_goals try first | with_reducible assumption | with_reducible exact Keeps.rfl _ | with_reducible refine Keeps.modInst ?_ | with_reducible refine Keeps.setPort ?_ | with_reducible refine Keeps.send hm ?_ | with_reducible refine Keeps.report hm ?_ | with_reducible refine Keeps.ite ?_ ?_ | split | dsimp only | refine Keeps.of_mk (Eq.refl _) (Eq.refl _) (Eq.refl _) (Eq.refl _) ?_)

theorem Keeps.settleAbort {i : Nat} {d : Cmd} (hm : ¬m) (h : Keeps p m a s) : Keeps p m a (Machine.State.settleAbort i s d) := by
  unfold Machine.State.settleAbort
  try dsimp only
  iterate 25 (all_goals try first | with_reducible assumption | with_reducible exact Keeps.rfl _ | with_reducible refine Keeps.finishOne hm ?_ | with_reducible refine Keeps.ite ?_ ?_ | split | dsimp only | refine Keeps.of_mk (Eq.refl _) (Eq.refl _) (Eq.refl _) (Eq.refl _) ?_)

theorem Keeps.settleAborts {i : Nat} (hm : ¬m) (h : Keeps p m a s) : Keeps p m a (Machine.State.settleAborts s i) := by
  unfold Machine.State.settleAborts
  try dsimp only
  iterate 25 (all_goals try first | with_reducible assumption | with_reducible exact Keeps.rfl _ | with_reducible refine Keeps.settleAbort hm ?_ | (with_reducible refine Keeps.foldl _ ?_ (fun u e => ?_)) | with_reducible refine Keeps.ite ?_ ?_ | split | dsimp only | refine Keeps.of_mk (Eq.refl _) (Eq.refl _) (Eq.refl _) (Eq.refl _) ?_)

theorem Keeps.finish {i : Nat} {no : Nat} {st : W16} {res : W64} (hm : ¬m) (h : Keeps p m a s) : Keeps p m a (Machine.State.finish s i no st res) := by
  unfold Machine.State.finish
  try dsimp only
  iterate 25 (all_goals try first | with_reducible assumption | with_reducible exact Keeps.rfl _ | with_reducible refine Keeps.setQuery ?_ | with_reducible refine Keeps.dropWork hm ?_ | with_reducible refine Keeps.finishOne hm ?_ | with_reducible refine Keeps.settleAborts hm ?_ | with_reducible refine Keeps.ite ?_ ?_ | split | dsimp only | refine Keeps.of_mk (Eq.refl _) (Eq.refl _) (Eq.refl _) (Eq.refl _) ?_)

theorem Keeps.releaseCids {i : Nat} {cids : List W16} (hm : ¬m) (h : Keeps p m a s) : Keeps p m a (Machine.State.releaseCids s i cids) := by
  unfold Machine.State.releaseCids
  try dsimp only
  iterate 25 (all_goals try first | with_reducible assumption | with_reducible exact Keeps.rfl _ | with_reducible refine Keeps.closeCtx hm ?_ | (with_reducible refine Keeps.foldl _ ?_ (fun u e => ?_)) | with_reducible refine Keeps.ite ?_ ?_ | split | dsimp only | refine Keeps.of_mk (Eq.refl _) (Eq.refl _) (Eq.refl _) (Eq.refl _) ?_)

theorem Keeps.pickDies {n : Nat} (h : Keeps p m a s) : Keeps p m a (Machine.State.pickDies s n).2 := by
  unfold Machine.State.pickDies
  try dsimp only
  iterate 25 (all_goals try first | with_reducible assumption | with_reducible exact Keeps.rfl _ | with_reducible refine Keeps.free ?_ | with_reducible refine Keeps.free_pair (by assumption) ?_ | (with_reducible refine Keeps.foldl _ ?_ (fun u e => ?_)) | with_reducible refine Keeps.ite ?_ ?_ | split | dsimp only | refine Keeps.of_mk (Eq.refl _) (Eq.refl _) (Eq.refl _) (Eq.refl _) ?_)

theorem Keeps.pickDies_pair {n : Nat} {x0} (e : (Machine.State.pickDies s n) = (x0, t)) (h : Keeps p m a s) : Keeps p m a t := by
  have k : Keeps p m a (Machine.State.pickDies s n).2 := Keeps.pickDies h
  rw [e] at k
  exact k

theorem Keeps.writeHeader {i : Nat} (h : Keeps p m a s) : Keeps p m a (Machine.State.writeHeader s i) := by
  unfold Machine.State.writeHeader
  try dsimp only
  iterate 25 (all_goals try first | with_reducible assumption | with_reducible exact Keeps.rfl _ | (with_reducible refine Keeps.foldl _ ?_ (fun u e => ?_)) | with_reducible refine Keeps.ite ?_ ?_ | split | dsimp only | refine Keeps.of_mk (Eq.refl _) (Eq.refl _) (Eq.refl _) (Eq.refl _) ?_)

theorem Keeps.writeHeaders {i : Nat} (h : Keeps p m a s) : Keeps p m a (Machine.State.writeHeaders s i) := by
  unfold Machine.State.writeHeaders
  try dsimp only
  iterate 25 (all_goals try first | with_reducible assumption | with_reducible exact Keeps.rfl _ | with_reducible refine Keeps.writeHeader ?_ | (with_reducible refine Keeps.foldl _ ?_ (fun u e => ?_)) | with_reducible refine Keeps.ite ?_ ?_ | split | dsimp only | refine Keeps.of_mk (Eq.refl _) (Eq.refl _) (Eq.refl _) (Eq.refl _) ?_)

theorem Keeps.queueSeal {i : Nat} {tbl : Nat} {col : Nat} {sup : List Nat} {blocks : List (Nat × Nat × Nat)} (h : Keeps p m a s) : Keeps p m a (Machine.State.queueSeal s i tbl col sup blocks) := by
  unfold Machine.State.queueSeal
  try dsimp only
  iterate 25 (all_goals try first | with_reducible assumption | with_reducible exact Keeps.rfl _ | with_reducible refine Keeps.setOwner ?_ | with_reducible refine Keeps.modInst ?_ | (with_reducible refine Keeps.foldl _ ?_ (fun u e => ?_)) | with_reducible refine Keeps.ite ?_ ?_ | split | dsimp only | refine Keeps.of_mk (Eq.refl _) (Eq.refl _) (Eq.refl _) (Eq.refl _) ?_)

theorem Keeps.dueSeal {i : Nat} (h : Keeps p m a s) : Keeps p m a (Machine.State.dueSeal s i) := by
  unfold Machine.State.dueSeal
  try dsimp only
  iterate 25 (all_goals try first | with_reducible assumption | with_reducible exact Keeps.rfl _ | with_reducible refine Keeps.queueSeal ?_ | (with_reducible refine Keeps.foldl _ ?_ (fun u e => ?_)) | with_reducible refine Keeps.ite ?_ ?_ | split | dsimp only | refine Keeps.of_mk (Eq.refl _) (Eq.refl _) (Eq.refl _) (Eq.refl _) ?_)

theorem Keeps.evict {i : Nat} {seq : Nat} (h : Keeps p m a s) : Keeps p m a (Machine.State.evict s i seq) := by
  unfold Machine.State.evict
  try dsimp only
  iterate 25 (all_goals try first | with_reducible assumption | with_reducible exact Keeps.rfl _ | with_reducible refine Keeps.modInst ?_ | with_reducible refine Keeps.setOwner ?_ | with_reducible refine Keeps.ite ?_ ?_ | split | dsimp only | refine Keeps.of_mk (Eq.refl _) (Eq.refl _) (Eq.refl _) (Eq.refl _) ?_)

theorem Keeps.allocEvict_some {n i al len x} (e : State.allocEvict n s i al len = some (x, t)) (h : Keeps p m a s) : Keeps p m a t := by
  induction n generalizing s with
  | zero => exact Keeps.alloc_some e h
  | succ n ih =>
    simp only [State.allocEvict] at e
    split at e
    · cases e
      exact Keeps.alloc_some (by assumption) h
    · split at e
      · cases e
      · exact ih e (Keeps.evict h)

theorem Keeps.room_some {i : Nat} {align : Nat} {len : Nat} {x0} (e : (Machine.State.room s i align len) = some (x0, t)) (h : Keeps p m a s) : Keeps p m a t := by
  unfold Machine.State.room at e
  try dsimp only at e
  repeat' split at e
  all_goals first | (cases e; done) | skip
  all_goals (try cases e)
  iterate 25 (all_goals try first | with_reducible assumption | with_reducible exact Keeps.rfl _ | with_reducible refine Keeps.allocEvict_some (by assumption) ?_ | with_reducible refine Keeps.ite ?_ ?_ | split | dsimp only | refine Keeps.of_mk (Eq.refl _) (Eq.refl _) (Eq.refl _) (Eq.refl _) ?_)

theorem Keeps.extendRegion_some {i : Nat} {base : Nat} {len : Nat} {add : Nat}  (e : (Machine.State.extendRegion s i base len add) = some t) (h : Keeps p m a s) : Keeps p m a t := by
  unfold Machine.State.extendRegion at e
  try dsimp only at e
  repeat' split at e
  all_goals first | (cases e; done) | skip
  all_goals (try cases e)
  iterate 25 (all_goals try first | with_reducible assumption | with_reducible exact Keeps.rfl _ | with_reducible refine Keeps.setInst ?_ | with_reducible refine Keeps.ite ?_ ?_ | split | dsimp only | refine Keeps.of_mk (Eq.refl _) (Eq.refl _) (Eq.refl _) (Eq.refl _) ?_)

theorem Keeps.addItem {slot : Nat} {t' : Item} (h : Keeps p m a s) : Keeps p m a (Machine.State.addItem s slot t') :=
  Keeps.of_mk (Eq.refl _) (Eq.refl _) (Eq.refl _) (Eq.refl _) h

theorem Keeps.ingestItem_some {i : Nat} {no : Nat} {k' : Nat}  (e : (Machine.State.ingestItem s i no k') = some t) (h : Keeps p m a s) : Keeps p m a t := by
  unfold Machine.State.ingestItem at e
  try dsimp only at e
  repeat' split at e
  all_goals first | (cases e; done) | skip
  all_goals (try cases e)
  iterate 25 (all_goals try first | with_reducible assumption | with_reducible exact Keeps.rfl _ | with_reducible refine Keeps.free ?_ | with_reducible refine Keeps.free_pair (by assumption) ?_ | with_reducible refine Keeps.addItem ?_ | with_reducible refine Keeps.replay hm ?_ | with_reducible refine Keeps.ite ?_ ?_ | split | dsimp only | refine Keeps.of_mk (Eq.refl _) (Eq.refl _) (Eq.refl _) (Eq.refl _) ?_)

theorem Keeps.setAppend {i : Nat} {no : Nat} {a' : AppendWork} (h : Keeps p m a s) : Keeps p m a (Machine.State.setAppend s i no a') :=
  Keeps.of_mk (Eq.refl _) (Eq.refl _) (Eq.refl _) (Eq.refl _) h

theorem Keeps.pumpAppend {n i no x} (h : Keeps p m a s) : Keeps p m a (Machine.pumpAppend n s i no x) := by
  induction n generalizing s x with
  | zero => exact Keeps.setAppend h
  | succ n ih =>
    simp only [Machine.pumpAppend]
    split
    · exact Keeps.setAppend h
    · exact ih (Keeps.ingestItem_some (by assumption) h)

theorem Keeps.pumpIngest {i : Nat} (h : Keeps p m a s) : Keeps p m a (Machine.State.pumpIngest s i) := by
  unfold Machine.State.pumpIngest
  try dsimp only
  iterate 25 (all_goals try first | with_reducible assumption | with_reducible exact Keeps.rfl _ | with_reducible refine Keeps.pumpAppend ?_ | (with_reducible refine Keeps.foldl _ ?_ (fun u e => ?_)) | with_reducible refine Keeps.ite ?_ ?_ | split | dsimp only | refine Keeps.of_mk (Eq.refl _) (Eq.refl _) (Eq.refl _) (Eq.refl _) ?_)

theorem Keeps.flushOne {i : Nat} {no : Nat} (hm : ¬m) (h : Keeps p m a s) : Keeps p m a (Machine.State.flushOne s i no) := by
  unfold Machine.State.flushOne
  try dsimp only
  iterate 25 (all_goals try first | with_reducible assumption | with_reducible exact Keeps.rfl _ | with_reducible refine Keeps.setOwner ?_ | with_reducible refine Keeps.finish hm ?_ | with_reducible refine Keeps.dueSeal ?_ | with_reducible refine Keeps.ite ?_ ?_ | split | dsimp only | refine Keeps.of_mk (Eq.refl _) (Eq.refl _) (Eq.refl _) (Eq.refl _) ?_)

theorem Keeps.flushCheck {i : Nat} (hm : ¬m) (h : Keeps p m a s) : Keeps p m a (Machine.State.flushCheck s i) := by
  unfold Machine.State.flushCheck
  try dsimp only
  iterate 25 (all_goals try first | with_reducible assumption | with_reducible exact Keeps.rfl _ | with_reducible refine Keeps.flushOne hm ?_ | (with_reducible refine Keeps.foldl _ ?_ (fun u e => ?_)) | with_reducible refine Keeps.ite ?_ ?_ | split | dsimp only | refine Keeps.of_mk (Eq.refl _) (Eq.refl _) (Eq.refl _) (Eq.refl _) ?_)

theorem Keeps.complete {i : Nat} {no : Nat} {st : W16} {res : W64} (hm : ¬m) (h : Keeps p m a s) : Keeps p m a (Machine.State.complete s i no st res) := by
  unfold Machine.State.complete
  try dsimp only
  iterate 25 (all_goals try first | with_reducible assumption | with_reducible exact Keeps.rfl _ | with_reducible refine Keeps.finish hm ?_ | with_reducible refine Keeps.flushCheck hm ?_ | with_reducible refine Keeps.ite ?_ ?_ | split | dsimp only | refine Keeps.of_mk (Eq.refl _) (Eq.refl _) (Eq.refl _) (Eq.refl _) ?_)

theorem Keeps.carve {i : Nat} {base : Nat} {len : Nat} {k : Nat} {r : Nat × Nat} (h : Keeps p m a s) : Keeps p m a (Machine.State.carve s i base len k r).1 := by
  unfold Machine.State.carve
  try dsimp only
  iterate 25 (all_goals try first | with_reducible assumption | with_reducible exact Keeps.rfl _ | with_reducible refine Keeps.modInst ?_ | (with_reducible refine Keeps.foldl _ ?_ (fun u e => ?_)) | with_reducible refine Keeps.ite ?_ ?_ | split | dsimp only | refine Keeps.of_mk (Eq.refl _) (Eq.refl _) (Eq.refl _) (Eq.refl _) ?_)

theorem Keeps.carve_pair {i : Nat} {base : Nat} {len : Nat} {k : Nat} {r : Nat × Nat} {x1} (e : (Machine.State.carve s i base len k r) = (t, x1)) (h : Keeps p m a s) : Keeps p m a t := by
  have k : Keeps p m a (Machine.State.carve s i base len k r).1 := Keeps.carve h
  rw [e] at k
  exact k

theorem Keeps.growRun_some {i : Nat} {base : Nat} {len : Nat} {room : Room} {x1} (e : (Machine.State.growRun s i base len room) = some (t, x1)) (h : Keeps p m a s) : Keeps p m a t := by
  unfold Machine.State.growRun at e
  try dsimp only at e
  repeat' split at e
  all_goals first | (cases e; done) | skip
  all_goals (try cases e)
  iterate 25 (all_goals try first | (obtain ⟨_, z, k⟩ := Option.map_eq_some_iff.mp (by assumption); cases k; first | exact Keeps.room_some z h | exact Keeps.extendRegion_some z h) | with_reducible assumption | with_reducible exact Keeps.rfl _ | with_reducible refine Keeps.room_some (by assumption) ?_ | with_reducible refine Keeps.carve ?_ | with_reducible refine Keeps.carve_pair (by assumption) ?_ | with_reducible refine Keeps.extendRegion_some (by assumption) ?_ | (with_reducible refine Keeps.foldl _ ?_ (fun u e => ?_)) | with_reducible refine Keeps.ite ?_ ?_ | split | dsimp only | refine Keeps.of_mk (Eq.refl _) (Eq.refl _) (Eq.refl _) (Eq.refl _) ?_)

theorem Keeps.newRun_some {i : Nat} {len : Nat} {room : Room} {x0} {x2} (e : (Machine.State.newRun s i len room) = some (x0, t, x2)) (h : Keeps p m a s) : Keeps p m a t := by
  unfold Machine.State.newRun at e
  try dsimp only at e
  repeat' split at e
  all_goals first | (cases e; done) | skip
  all_goals (try cases e)
  iterate 25 (all_goals try first | (obtain ⟨_, z, k⟩ := Option.map_eq_some_iff.mp (by assumption); cases k; first | exact Keeps.room_some z h | exact Keeps.extendRegion_some z h) | with_reducible assumption | with_reducible exact Keeps.rfl _ | with_reducible refine Keeps.room_some (by assumption) ?_ | with_reducible refine Keeps.carve ?_ | with_reducible refine Keeps.carve_pair (by assumption) ?_ | (with_reducible refine Keeps.foldl _ ?_ (fun u e => ?_)) | with_reducible refine Keeps.ite ?_ ?_ | split | dsimp only | refine Keeps.of_mk (Eq.refl _) (Eq.refl _) (Eq.refl _) (Eq.refl _) ?_)

theorem Keeps.placeBlock_some {i : Nat} {tbl : Nat} {col : Nat} {len : Nat} {room : Room} {x0} {x1} {x3} (e : (Machine.State.placeBlock s i tbl col len room) = some (x0, x1, t, x3)) (h : Keeps p m a s) : Keeps p m a t := by
  unfold Machine.State.placeBlock at e
  try dsimp only at e
  repeat' split at e
  all_goals first | (cases e; done) | skip
  all_goals (try cases e)
  iterate 25 (all_goals try first | with_reducible assumption | with_reducible exact Keeps.rfl _ | with_reducible refine Keeps.setOwner ?_ | with_reducible refine Keeps.queueSeal ?_ | with_reducible refine Keeps.room_some (by assumption) ?_ | with_reducible refine Keeps.extendRegion_some (by assumption) ?_ | with_reducible refine Keeps.newRun_some (by assumption) ?_ | with_reducible refine Keeps.growRun_some (by assumption) ?_ | with_reducible refine Keeps.ite ?_ ?_ | split | dsimp only | refine Keeps.of_mk (Eq.refl _) (Eq.refl _) (Eq.refl _) (Eq.refl _) ?_)

theorem Keeps.landBlock {i tbl col cd lsn first refs acc e x} (hm : ¬m) (k : Machine.landBlock i tbl col cd lsn first refs acc e = some (t, x))
    (h : ∀ s y, acc = some (s, y) → Keeps p m a s) : Keeps p m a t := by
  cases acc with
  | none => cases k
  | some z =>
    simp only [Machine.landBlock] at k
    repeat' split at k
    all_goals first | (cases k; done) | skip
    cases k
    exact Keeps.setOwner (Keeps.writeMem hm (Keeps.placeBlock_some (by assumption) (h _ _ (Eq.refl _))))

theorem Keeps.landFold {i tbl col cd lsn first refs acc x} (l : List _) (hm : ¬m) (k : l.foldl (Machine.landBlock i tbl col cd lsn first refs) acc = some (t, x))
    (h : ∀ s y, acc = some (s, y) → Keeps p m a s) : Keeps p m a t := by
  induction l generalizing acc with
  | nil => exact h _ _ k
  | cons e l ih => exact ih k (fun s y z => Keeps.landBlock hm z h)

theorem Keeps.landCols_some {i tbl lsn first rows tys data} {l : List (ColDef × Nat)} {room seen q} (hm : ¬m)
    (e : Machine.landCols i tbl lsn first rows tys data l s room seen = some (t, q)) (h : Keeps p m a s) : Keeps p m a t := by
  induction l generalizing s seen room with
  | nil => cases e; exact h
  | cons x l ih =>
    obtain ⟨cd, j⟩ := x
    simp only [Machine.landCols] at e
    split at e
    · cases e
    · exact ih e (Keeps.landFold _ hm (by assumption) (fun _ _ z => by cases z; exact h))

theorem Keeps.land {i : Nat} {c : Cmd} {a' : AppendWork} (hm : ¬m) (h : Keeps p m a s) : Keeps p m a (Machine.State.land s i c a') := by
  unfold Machine.State.land
  try dsimp only
  iterate 25 (all_goals try first | with_reducible assumption | with_reducible exact Keeps.rfl _ | with_reducible refine Keeps.setOwner ?_ | with_reducible refine Keeps.readMem ?_ | with_reducible refine Keeps.readMem_pair (by assumption) ?_ | with_reducible refine Keeps.freeRegion ?_ | with_reducible refine Keeps.setAppend ?_ | with_reducible refine Keeps.complete hm ?_ | with_reducible refine Keeps.landCols_some hm (by assumption) ?_ | with_reducible refine Keeps.room_some (by assumption) ?_ | with_reducible refine Keeps.ite ?_ ?_ | split | dsimp only | refine Keeps.of_mk (Eq.refl _) (Eq.refl _) (Eq.refl _) (Eq.refl _) ?_)

theorem Keeps.unitRead {u : Client} {a' : Nat} {len : Nat} (h : Keeps p m a s) : Keeps p m a (Machine.State.unitRead s u a' len).2 := by
  unfold Machine.State.unitRead
  try dsimp only
  iterate 25 (all_goals try first | with_reducible assumption | with_reducible exact Keeps.rfl _ | with_reducible refine Keeps.readMem ?_ | with_reducible refine Keeps.readMem_pair (by assumption) ?_ | with_reducible refine Keeps.ite ?_ ?_ | split | dsimp only | refine Keeps.of_mk (Eq.refl _) (Eq.refl _) (Eq.refl _) (Eq.refl _) ?_)

theorem Keeps.unitRead_pair {u : Client} {a' : Nat} {len : Nat} {x0} (e : (Machine.State.unitRead s u a' len) = (x0, t)) (h : Keeps p m a s) : Keeps p m a t := by
  have k : Keeps p m a (Machine.State.unitRead s u a' len).2 := Keeps.unitRead h
  rw [e] at k
  exact k

theorem Keeps.lsWrite {c off bs} (hp : ¬p c) (h : Keeps p m a s) : Keeps p m a (s.lsWrite c off bs) :=
  Keeps.setCoreStore hp (Eq.refl _) h

theorem Keeps.unitWrite {u : Client} {a' : Nat} {bs : List Byte} (hm : ¬m) (hp : ∀ c, ¬p c) (h : Keeps p m a s) : Keeps p m a (Machine.State.unitWrite s u a' bs) := by
  unfold Machine.State.unitWrite
  try dsimp only
  iterate 25 (all_goals try first | with_reducible assumption | with_reducible exact Keeps.rfl _ | with_reducible refine Keeps.writeMem hm ?_ | with_reducible refine Keeps.lsWrite (hp _) ?_ | with_reducible refine Keeps.setPool hm ?_ | with_reducible refine Keeps.ite ?_ ?_ | split | dsimp only | refine Keeps.of_mk (Eq.refl _) (Eq.refl _) (Eq.refl _) (Eq.refl _) ?_)

theorem Keeps.notify {desc : List Byte} (h : Keeps p m a s) : Keeps p m a (Machine.State.notify s desc) := by
  unfold Machine.State.notify
  try dsimp only
  iterate 25 (all_goals try first | with_reducible assumption | with_reducible exact Keeps.rfl _ | with_reducible refine Keeps.orFlags ?_ | with_reducible refine Keeps.ite ?_ ?_ | split | dsimp only | refine Keeps.of_mk (Eq.refl _) (Eq.refl _) (Eq.refl _) (Eq.refl _) ?_)

theorem Keeps.advance {o : OutBuf} {u : Client} (h : Keeps p m a s) : Keeps p m a (Machine.OutBuf.advance o u s).2 := by
  unfold Machine.OutBuf.advance
  try dsimp only
  iterate 25 (all_goals try first | with_reducible assumption | with_reducible exact Keeps.rfl _ | with_reducible refine Keeps.unitRead ?_ | with_reducible refine Keeps.unitRead_pair (by assumption) ?_ | with_reducible refine Keeps.ite ?_ ?_ | split | dsimp only | refine Keeps.of_mk (Eq.refl _) (Eq.refl _) (Eq.refl _) (Eq.refl _) ?_)

theorem Keeps.advance_pair {o : OutBuf} {u : Client} {x0} (e : (Machine.OutBuf.advance o u s) = (x0, t)) (h : Keeps p m a s) : Keeps p m a t := by
  have k : Keeps p m a (Machine.OutBuf.advance o u s).2 := Keeps.advance h
  rw [e] at k
  exact k

theorem Keeps.place {o : OutBuf} {u : Client} {unit : List Byte} (h : Keeps p m a s) : Keeps p m a (Machine.OutBuf.place o u s unit).2 := by
  unfold Machine.OutBuf.place
  try dsimp only
  iterate 25 (all_goals try first | with_reducible assumption | with_reducible exact Keeps.rfl _ | with_reducible refine Keeps.advance ?_ | with_reducible refine Keeps.advance_pair (by assumption) ?_ | with_reducible refine Keeps.ite ?_ ?_ | split | dsimp only | refine Keeps.of_mk (Eq.refl _) (Eq.refl _) (Eq.refl _) (Eq.refl _) ?_)

theorem Keeps.place_pair {o : OutBuf} {u : Client} {unit : List Byte} {x0} (e : (Machine.OutBuf.place o u s unit) = (x0, t)) (h : Keeps p m a s) : Keeps p m a t := by
  have k : Keeps p m a (Machine.OutBuf.place o u s unit).2 := Keeps.place h
  rw [e] at k
  exact k

theorem Keeps.readHdr {u : Client} {a' : Nat} {winBad : Nat} (h : Keeps p m a s) : Keeps p m a (Machine.readHdr s u a' winBad).2 := by
  unfold Machine.readHdr
  try dsimp only
  iterate 25 (all_goals try first | with_reducible assumption | with_reducible exact Keeps.rfl _ | with_reducible refine Keeps.unitRead ?_ | with_reducible refine Keeps.unitRead_pair (by assumption) ?_ | with_reducible refine Keeps.ite ?_ ?_ | split | dsimp only | refine Keeps.of_mk (Eq.refl _) (Eq.refl _) (Eq.refl _) (Eq.refl _) ?_)

theorem Keeps.readHdr_pair {u : Client} {a' : Nat} {winBad : Nat} {x0} (e : (Machine.readHdr s u a' winBad) = (x0, t)) (h : Keeps p m a s) : Keeps p m a t := by
  have k : Keeps p m a (Machine.readHdr s u a' winBad).2 := Keeps.readHdr h
  rw [e] at k
  exact k

theorem Keeps.readValues {u : Client} {a' : Nat} {h' : BlkHdr} {refs : List Nat} (h : Keeps p m a s) : Keeps p m a (Machine.readValues s u a' h' refs).2 := by
  unfold Machine.readValues
  try dsimp only
  iterate 25 (all_goals try first | with_reducible assumption | with_reducible exact Keeps.rfl _ | with_reducible refine Keeps.unitRead ?_ | with_reducible refine Keeps.unitRead_pair (by assumption) ?_ | with_reducible refine Keeps.ite ?_ ?_ | split | dsimp only | refine Keeps.of_mk (Eq.refl _) (Eq.refl _) (Eq.refl _) (Eq.refl _) ?_)

theorem Keeps.readValues_pair {u : Client} {a' : Nat} {h' : BlkHdr} {refs : List Nat} {x0} (e : (Machine.readValues s u a' h' refs) = (x0, t)) (h : Keeps p m a s) : Keeps p m a t := by
  have k : Keeps p m a (Machine.readValues s u a' h' refs).2 := Keeps.readValues h
  rw [e] at k
  exact k

theorem Keeps.readRef {u : Client} {a' : Nat} {h' : BlkHdr} (h : Keeps p m a s) : Keeps p m a (Machine.readRef s u a' h').2 := by
  unfold Machine.readRef
  try dsimp only
  iterate 25 (all_goals try first | with_reducible assumption | with_reducible exact Keeps.rfl _ | with_reducible refine Keeps.readValues ?_ | with_reducible refine Keeps.readValues_pair (by assumption) ?_ | with_reducible refine Keeps.ite ?_ ?_ | split | dsimp only | refine Keeps.of_mk (Eq.refl _) (Eq.refl _) (Eq.refl _) (Eq.refl _) ?_)

theorem Keeps.readRef_pair {u : Client} {a' : Nat} {h' : BlkHdr} {x0} (e : (Machine.readRef s u a' h') = (x0, t)) (h : Keeps p m a s) : Keeps p m a t := by
  have k : Keeps p m a (Machine.readRef s u a' h').2 := Keeps.readRef h
  rw [e] at k
  exact k

theorem Keeps.decodeBlock {u : Client} {a' : Nat} {h' : BlkHdr} (h : Keeps p m a s) : Keeps p m a (Machine.decodeBlock s u a' h').2 := by
  unfold Machine.decodeBlock
  try dsimp only
  iterate 25 (all_goals try first | with_reducible assumption | with_reducible exact Keeps.rfl _ | with_reducible refine Keeps.readHdr ?_ | with_reducible refine Keeps.readHdr_pair (by assumption) ?_ | with_reducible refine Keeps.readValues ?_ | with_reducible refine Keeps.readValues_pair (by assumption) ?_ | with_reducible refine Keeps.readRef ?_ | with_reducible refine Keeps.readRef_pair (by assumption) ?_ | with_reducible refine Keeps.ite ?_ ?_ | split | dsimp only | refine Keeps.of_mk (Eq.refl _) (Eq.refl _) (Eq.refl _) (Eq.refl _) ?_)

theorem Keeps.decodeBlock_pair {u : Client} {a' : Nat} {h' : BlkHdr} {x0} (e : (Machine.decodeBlock s u a' h') = (x0, t)) (h : Keeps p m a s) : Keeps p m a t := by
  have k : Keeps p m a (Machine.decodeBlock s u a' h').2 := Keeps.decodeBlock h
  rw [e] at k
  exact k

theorem Keeps.encodeRef {u : Client} {ty : Nat} {count : Nat} {a' : Nat} (h : Keeps p m a s) : Keeps p m a (Machine.encodeRef s u ty count a').2 := by
  unfold Machine.encodeRef
  try dsimp only
  iterate 25 (all_goals try first | with_reducible assumption | with_reducible exact Keeps.rfl _ | with_reducible refine Keeps.readHdr ?_ | with_reducible refine Keeps.readHdr_pair (by assumption) ?_ | with_reducible refine Keeps.readRef ?_ | with_reducible refine Keeps.readRef_pair (by assumption) ?_ | with_reducible refine Keeps.decodeBlock ?_ | with_reducible refine Keeps.decodeBlock_pair (by assumption) ?_ | with_reducible refine Keeps.ite ?_ ?_ | split | dsimp only | refine Keeps.of_mk (Eq.refl _) (Eq.refl _) (Eq.refl _) (Eq.refl _) ?_)

theorem Keeps.encodeRef_pair {u : Client} {ty : Nat} {count : Nat} {a' : Nat} {x0} (e : (Machine.encodeRef s u ty count a') = (x0, t)) (h : Keeps p m a s) : Keeps p m a t := by
  have k : Keeps p m a (Machine.encodeRef s u ty count a').2 := Keeps.encodeRef h
  rw [e] at k
  exact k

/-- One block of an ENCODE job. -/
theorem Keeps.encodeStep {u d n} {x : Prog × Nat} (h : Keeps p m a x.1.s) : Keeps p m a (Machine.encodeStep u d x n).1.s := by
  unfold Machine.encodeStep
  dsimp only [Prog.fail]
  iterate 25 (all_goals try first | assumption | dsimp only | with_reducible refine Keeps.unitRead ?_ | with_reducible refine Keeps.unitRead_pair (by assumption) ?_ | with_reducible refine Keeps.place ?_ | with_reducible refine Keeps.place_pair (by assumption) ?_ | with_reducible refine Keeps.readHdr ?_ | with_reducible refine Keeps.readHdr_pair (by assumption) ?_ | with_reducible refine Keeps.decodeBlock ?_ | with_reducible refine Keeps.decodeBlock_pair (by assumption) ?_ | with_reducible refine Keeps.encodeRef ?_ | with_reducible refine Keeps.encodeRef_pair (by assumption) ?_ | split)

theorem Keeps.runEncode {u d} (h : Keeps p m a s) : Keeps p m a (Machine.runEncode s u d).s :=
  Keeps.foldlOn (fun x : Prog × Nat => x.1.s) _ h (fun _ _ => Keeps.encodeStep (Keeps.rfl _))

theorem Prog.shrink_s (x : Prog) : x.shrink.s = x.s := by
  unfold Prog.shrink
  split <;> exact Eq.refl _

theorem Keeps.scanStep {u d b n} {x : Prog} (h : Keeps p m a x.s) : Keeps p m a (Machine.scanStep u d b x n).s := by
  unfold Machine.scanStep
  dsimp only [Prog.fail]
  iterate 25 (all_goals try first | assumption | dsimp only | with_reducible refine Keeps.unitRead ?_ | with_reducible refine Keeps.unitRead_pair (by assumption) ?_ | with_reducible refine Keeps.place ?_ | with_reducible refine Keeps.place_pair (by assumption) ?_ | with_reducible refine Keeps.readHdr ?_ | with_reducible refine Keeps.readHdr_pair (by assumption) ?_ | with_reducible refine Keeps.decodeBlock ?_ | with_reducible refine Keeps.decodeBlock_pair (by assumption) ?_ | with_reducible refine Keeps.encodeRef ?_ | with_reducible refine Keeps.encodeRef_pair (by assumption) ?_ | (rw [Prog.shrink_s]; dsimp only [Prog.aggregate]) | split | with_reducible refine Keeps.reject hm ?_)

theorem Keeps.runScan {u d} (h : Keeps p m a s) : Keeps p m a (Machine.runScan s u d).s := by
  have k : ∀ {b : PredBlock} {x : Prog} {l : List Nat}, Keeps p m a x.s → Keeps p m a (l.foldl (Machine.scanStep u d b) x).s :=
    fun h => Keeps.foldlOn Prog.s _ h (fun _ _ => Keeps.scanStep (Keeps.rfl _))
  unfold Machine.runScan
  dsimp only
  split
  · exact k h
  · split
    · split
      · exact k (Keeps.unitRead_pair (by assumption) h)
      · exact Keeps.unitRead_pair (by assumption) h
    · exact Keeps.unitRead_pair (by assumption) h

theorem Keeps.streamStep {u d n} {x : Prog} (h : Keeps p m a x.s) : Keeps p m a (Machine.streamStep u d x n).s := by
  unfold Machine.streamStep
  dsimp only [Prog.fail]
  iterate 25 (all_goals try first | assumption | dsimp only | with_reducible refine Keeps.unitRead ?_ | with_reducible refine Keeps.unitRead_pair (by assumption) ?_ | with_reducible refine Keeps.place ?_ | with_reducible refine Keeps.place_pair (by assumption) ?_ | with_reducible refine Keeps.readHdr ?_ | with_reducible refine Keeps.readHdr_pair (by assumption) ?_ | with_reducible refine Keeps.decodeBlock ?_ | with_reducible refine Keeps.decodeBlock_pair (by assumption) ?_ | with_reducible refine Keeps.encodeRef ?_ | with_reducible refine Keeps.encodeRef_pair (by assumption) ?_ | split)

theorem Keeps.runStream {u d} (h : Keeps p m a s) : Keeps p m a (Machine.runStream s u d).s :=
  Keeps.foldlOn Prog.s _ h (fun _ _ => Keeps.streamStep (Keeps.rfl _))

theorem Keeps.runJob {j : CodecJob} (h : Keeps p m a s) : Keeps p m a (Machine.runJob s j).2 := by
  unfold Machine.runJob
  try dsimp only
  iterate 25 (all_goals try first | with_reducible assumption | with_reducible exact Keeps.rfl _ | refine Keeps.addAct ?_ | refine Keeps.runEncode ?_ | refine Keeps.runScan ?_ | refine Keeps.runStream ?_ | (with_reducible assumption) | exact h | with_reducible refine Keeps.addAct ?_ | refine Keeps.runEncode ?_ | refine Keeps.runScan ?_ | refine Keeps.runStream ?_ | with_reducible refine Keeps.ite ?_ ?_ | split | dsimp only)

theorem Keeps.runJob_pair {j : CodecJob} {x0} (e : (Machine.runJob s j) = (x0, t)) (h : Keeps p m a s) : Keeps p m a t := by
  have k : Keeps p m a (Machine.runJob s j).2 := Keeps.runJob h
  rw [e] at k
  exact k

theorem Keeps.codecEnd {j : CodecJob} {o : JobOut} (hm : ¬m) (hp : ∀ c, ¬p c) (h : Keeps p m a s) : Keeps p m a (Machine.State.codecEnd s j o) := by
  unfold Machine.State.codecEnd
  try dsimp only
  iterate 25 (all_goals try first | with_reducible assumption | with_reducible exact Keeps.rfl _ | with_reducible refine Keeps.unitWrite hm hp ?_ | with_reducible refine Keeps.notify ?_ | (with_reducible refine Keeps.foldl _ ?_ (fun u e => ?_)) | with_reducible refine Keeps.ite ?_ ?_ | split | dsimp only | refine Keeps.of_mk (Eq.refl _) (Eq.refl _) (Eq.refl _) (Eq.refl _) ?_)

theorem Keeps.portEnd {j : CodecJob} (hm : ¬m) (hp : ∀ c, ¬p c) (h : Keeps p m a s) : Keeps p m a (Machine.State.portEnd s j) := by
  unfold Machine.State.portEnd
  try dsimp only
  iterate 25 (all_goals try first | with_reducible assumption | with_reducible exact Keeps.rfl _ | with_reducible refine Keeps.codecEnd hm hp ?_ | with_reducible refine Keeps.ite ?_ ?_ | split | dsimp only | refine Keeps.of_mk (Eq.refl _) (Eq.refl _) (Eq.refl _) (Eq.refl _) ?_)

theorem Keeps.enqueue {u : Nat} {j : CodecJob} (h : Keeps p m a s) : Keeps p m a (Machine.State.enqueue s u j) :=
  Keeps.noteRoom (Keeps.setUnit h)

theorem Keeps.drainReissue {l : List CodecJob} (hm : ¬m) (hp : ∀ c, ¬p c) (h : Keeps p m a s) : Keeps p m a (Machine.drainReissue l s) := by
  induction l generalizing s with
  | nil => exact h
  | cons j l ih =>
    simp only [Machine.drainReissue]
    split
    · exact ih (Keeps.portEnd hm hp (Keeps.of_mk (Eq.refl _) (Eq.refl _) (Eq.refl _) (Eq.refl _) h))
    · split
      · exact ih h
      · exact ih (Keeps.enqueue (Keeps.of_mk (Eq.refl _) (Eq.refl _) (Eq.refl _) (Eq.refl _) h))

theorem Keeps.cdSubmit_some {s0 : State} {c : Nat} {v : W64} (hm : ¬m) (hp : ∀ c, ¬p c) {x1} (e : (Machine.cdSubmit s0 c v) = some (t, x1)) (h : Keeps p m a s0) : Keeps p m a t := by
  unfold Machine.cdSubmit at e
  try dsimp only at e
  repeat' split at e
  all_goals first | (cases e; done) | skip
  all_goals (try cases e)
  iterate 25 (all_goals try first | with_reducible assumption | with_reducible exact Keeps.rfl _ | with_reducible refine Keeps.unitRead ?_ | with_reducible refine Keeps.unitRead_pair (by assumption) ?_ | with_reducible refine Keeps.portEnd hm hp ?_ | with_reducible refine Keeps.enqueue ?_ | with_reducible refine Keeps.drainReissue hm hp ?_ | with_reducible refine Keeps.ite ?_ ?_ | split | dsimp only | refine Keeps.of_mk (Eq.refl _) (Eq.refl _) (Eq.refl _) (Eq.refl _) ?_)

theorem Keeps.startJob {u : Nat} {kind : Nat} (h : Keeps p m a s) : Keeps p m a (Machine.startJob s u kind) := by
  unfold Machine.startJob
  try dsimp only
  iterate 25 (all_goals try first | with_reducible assumption | with_reducible exact Keeps.rfl _ | with_reducible refine Keeps.setUnit ?_ | with_reducible refine Keeps.runJob ?_ | with_reducible refine Keeps.runJob_pair (by assumption) ?_ | with_reducible refine Keeps.noteRoom ?_ | with_reducible refine Keeps.ite ?_ ?_ | split | dsimp only | refine Keeps.of_mk (Eq.refl _) (Eq.refl _) (Eq.refl _) (Eq.refl _) ?_)

theorem Keeps.codecFault {u : Nat} (h : Keeps p m a s) : Keeps p m a (Machine.codecFault s u) := by
  unfold Machine.codecFault
  try dsimp only
  iterate 25 (all_goals try first | with_reducible assumption | with_reducible exact Keeps.rfl _ | with_reducible refine Keeps.setUnit ?_ | with_reducible refine Keeps.svEdge ?_ | with_reducible refine Keeps.logEvent ?_ | with_reducible refine Keeps.ite ?_ ?_ | split | dsimp only | refine Keeps.of_mk (Eq.refl _) (Eq.refl _) (Eq.refl _) (Eq.refl _) ?_)

theorem Keeps.dropItems {i : Nat} (hm : ¬m) (h : Keeps p m a s) : Keeps p m a (Machine.State.dropItems s i) := by
  unfold Machine.State.dropItems
  try dsimp only
  iterate 25 (all_goals try first | with_reducible assumption | with_reducible exact Keeps.rfl _ | with_reducible refine Keeps.icEdge ?_ | with_reducible refine Keeps.dropJobs ?_ | with_reducible refine Keeps.discardItems hm ?_ | with_reducible refine Keeps.closeCtx hm ?_ | (with_reducible refine Keeps.foldl _ ?_ (fun u e => ?_)) | with_reducible refine Keeps.ite ?_ ?_ | split | dsimp only | refine Keeps.of_mk (Eq.refl _) (Eq.refl _) (Eq.refl _) (Eq.refl _) ?_)

theorem Keeps.dropImages {i : Nat} (h : Keeps p m a s) : Keeps p m a (Machine.State.dropImages s i) := by
  unfold Machine.State.dropImages
  try dsimp only
  iterate 25 (all_goals try first | with_reducible assumption | with_reducible exact Keeps.rfl _ | with_reducible refine Keeps.modInst ?_ | with_reducible refine Keeps.freeRegion ?_ | (with_reducible refine Keeps.foldl _ ?_ (fun u e => ?_)) | with_reducible refine Keeps.ite ?_ ?_ | split | dsimp only | refine Keeps.of_mk (Eq.refl _) (Eq.refl _) (Eq.refl _) (Eq.refl _) ?_)

theorem Keeps.dropField {i : Nat} {c : Cmd} (hm : ¬m) (h : Keeps p m a s) : Keeps p m a (Machine.State.dropField s i c) := by
  unfold Machine.State.dropField
  try dsimp only
  iterate 25 (all_goals try first | with_reducible assumption | with_reducible exact Keeps.rfl _ | with_reducible refine Keeps.modInst ?_ | with_reducible refine Keeps.setPort ?_ | with_reducible refine Keeps.dropWork hm ?_ | with_reducible refine Keeps.finishOne hm ?_ | with_reducible refine Keeps.ite ?_ ?_ | split | dsimp only | refine Keeps.of_mk (Eq.refl _) (Eq.refl _) (Eq.refl _) (Eq.refl _) ?_)

theorem Keeps.discardAll {i : Nat} (hm : ¬m) (h : Keeps p m a s) : Keeps p m a (Machine.State.discardAll s i) := by
  unfold Machine.State.discardAll
  try dsimp only
  iterate 25 (all_goals try first | with_reducible assumption | with_reducible exact Keeps.rfl _ | with_reducible refine Keeps.modInst ?_ | with_reducible refine Keeps.removeCmd hm ?_ | with_reducible refine Keeps.dropItems hm ?_ | with_reducible refine Keeps.dropImages ?_ | with_reducible refine Keeps.dropField hm ?_ | (with_reducible refine Keeps.foldl _ ?_ (fun u e => ?_)) | with_reducible refine Keeps.ite ?_ ?_ | split | dsimp only | refine Keeps.of_mk (Eq.refl _) (Eq.refl _) (Eq.refl _) (Eq.refl _) ?_)

theorem Keeps.closePorts {i : Nat} {reason : Nat} (hm : ¬m) (h : Keeps p m a s) : Keeps p m a (Machine.State.closePorts s i reason) := by
  unfold Machine.State.closePorts
  try dsimp only
  iterate 25 (all_goals try first | with_reducible assumption | with_reducible exact Keeps.rfl _ | with_reducible refine Keeps.closeSession hm ?_ | with_reducible refine Keeps.dropPending ?_ | with_reducible refine Keeps.dropOpens ?_ | (with_reducible refine Keeps.foldl _ ?_ (fun u e => ?_)) | with_reducible refine Keeps.ite ?_ ?_ | split | dsimp only | refine Keeps.of_mk (Eq.refl _) (Eq.refl _) (Eq.refl _) (Eq.refl _) ?_)

theorem Keeps.failInst {i : Nat} {why : InstState} (hm : ¬m) (h : Keeps p m a s) : Keeps p m a (Machine.State.failInst s i why) := by
  unfold Machine.State.failInst
  try dsimp only
  iterate 25 (all_goals try first | with_reducible assumption | with_reducible exact Keeps.rfl _ | with_reducible refine Keeps.modInst ?_ | with_reducible refine Keeps.discardAll hm ?_ | with_reducible refine Keeps.closePorts hm ?_ | with_reducible refine Keeps.ite ?_ ?_ | split | dsimp only | refine Keeps.of_mk (Eq.refl _) (Eq.refl _) (Eq.refl _) (Eq.refl _) ?_)

theorem Keeps.settleFailed (hm : ¬m) (h : Keeps p m a s) : Keeps p m a (Machine.State.settleFailed s) := by
  unfold Machine.State.settleFailed
  try dsimp only
  iterate 25 (all_goals try first | with_reducible assumption | with_reducible exact Keeps.rfl _ | with_reducible refine Keeps.failInst hm ?_ | with_reducible refine Keeps.modInst ?_ | (with_reducible refine Keeps.foldl _ ?_ (fun u e => ?_)) | with_reducible refine Keeps.ite ?_ ?_ | split | dsimp only | refine Keeps.of_mk (Eq.refl _) (Eq.refl _) (Eq.refl _) (Eq.refl _) ?_)

theorem Keeps.flr {i : Nat} (hm : ¬m) (h : Keeps p m a s) : Keeps p m a (Machine.State.flr s i) := by
  unfold Machine.State.flr
  try dsimp only
  iterate 25 (all_goals try first | with_reducible assumption | with_reducible exact Keeps.rfl _ | with_reducible refine Keeps.modInst ?_ | with_reducible refine Keeps.discardAll hm ?_ | with_reducible refine Keeps.ite ?_ ?_ | split | dsimp only | refine Keeps.of_mk (Eq.refl _) (Eq.refl _) (Eq.refl _) (Eq.refl _) ?_)

theorem Keeps.settleNoCore {i : Nat} (hm : ¬m) (h : Keeps p m a s) : Keeps p m a (Machine.State.settleNoCore s i) := by
  unfold Machine.State.settleNoCore
  try dsimp only
  iterate 25 (all_goals try first | with_reducible assumption | with_reducible exact Keeps.rfl _ | with_reducible refine Keeps.failInst hm ?_ | with_reducible refine Keeps.ite ?_ ?_ | split | dsimp only | refine Keeps.of_mk (Eq.refl _) (Eq.refl _) (Eq.refl _) (Eq.refl _) ?_)

theorem Keeps.endSweep {eyes : List Eye} (h : Keeps p m a s) : Keeps p m a (Machine.endSweep s eyes) := by
  unfold Machine.endSweep
  try dsimp only
  iterate 25 (all_goals try first | with_reducible assumption | with_reducible exact Keeps.rfl _ | with_reducible refine Keeps.setCtl ?_ | with_reducible refine Keeps.stopChan ?_ | (with_reducible refine Keeps.foldl _ ?_ (fun u e => ?_)) | with_reducible refine Keeps.ite ?_ ?_ | split | dsimp only | refine Keeps.of_mk (Eq.refl _) (Eq.refl _) (Eq.refl _) (Eq.refl _) ?_)

theorem Keeps.resweep (h : Keeps p m a s) : Keeps p m a (Machine.resweep s) := by
  unfold Machine.resweep
  try dsimp only
  iterate 25 (all_goals try first | with_reducible assumption | with_reducible exact Keeps.rfl _ | with_reducible refine Keeps.reject hm ?_ | with_reducible refine Keeps.ite ?_ ?_ | split | dsimp only | refine Keeps.of_mk (Eq.refl _) (Eq.refl _) (Eq.refl _) (Eq.refl _) ?_)

theorem Keeps.checkRow {ch : Nat} {r : Nat} (h : Keeps p m a s) : Keeps p m a (Machine.State.checkRow s ch r) := by
  unfold Machine.State.checkRow
  try dsimp only
  iterate 25 (all_goals try first | with_reducible assumption | with_reducible exact Keeps.rfl _ | with_reducible refine Keeps.flushFor ?_ | with_reducible refine Keeps.readRow ?_ | with_reducible refine Keeps.readRow_pair (by assumption) ?_ | with_reducible refine Keeps.countUe ?_ | (with_reducible refine Keeps.foldl _ ?_ (fun u e => ?_)) | with_reducible refine Keeps.ite ?_ ?_ | split | dsimp only | refine Keeps.of_mk (Eq.refl _) (Eq.refl _) (Eq.refl _) (Eq.refl _) ?_)

theorem Keeps.scrubRow {ch : Nat} (h : Keeps p m a s) : Keeps p m a (Machine.scrubRow s ch) := by
  unfold Machine.scrubRow
  try dsimp only
  iterate 25 (all_goals try first | with_reducible assumption | with_reducible exact Keeps.rfl _ | with_reducible refine Keeps.setChan ?_ | with_reducible refine Keeps.setRank ?_ | with_reducible refine Keeps.addAct ?_ | with_reducible refine Keeps.countUe ?_ | with_reducible refine Keeps.readRow ?_ | with_reducible refine Keeps.readRow_pair (by assumption) ?_ | with_reducible refine Keeps.checkRow ?_ | (with_reducible refine Keeps.foldl _ ?_ (fun u e => ?_)) | with_reducible refine Keeps.ite ?_ ?_ | split | dsimp only | refine Keeps.of_mk (Eq.refl _) (Eq.refl _) (Eq.refl _) (Eq.refl _) ?_)

theorem Keeps.loseChan {ch : Nat} (hm : ¬m) (h : Keeps p m a s) : Keeps p m a (Machine.State.loseChan s ch) := by
  unfold Machine.State.loseChan
  try dsimp only
  iterate 25 (all_goals try first | with_reducible assumption | with_reducible exact Keeps.rfl _ | with_reducible refine Keeps.stopChan ?_ | with_reducible refine Keeps.failInst hm ?_ | with_reducible refine Keeps.settleFailed hm ?_ | (with_reducible refine Keeps.foldl _ ?_ (fun u e => ?_)) | with_reducible refine Keeps.ite ?_ ?_ | split | dsimp only | refine Keeps.of_mk (Eq.refl _) (Eq.refl _) (Eq.refl _) (Eq.refl _) ?_)

theorem Keeps.makeItem_some {ctx : Nat} {stage : Nat} {w2 : W64} {w3 : W64} {bound : Option Nat} {handed : Option Nat}  (e : (Machine.State.makeItem s ctx stage w2 w3 bound handed) = some t) (h : Keeps p m a s) : Keeps p m a t := by
  unfold Machine.State.makeItem at e
  try dsimp only at e
  repeat' split at e
  all_goals first | (cases e; done) | skip
  all_goals (try cases e)
  iterate 25 (all_goals try first | with_reducible assumption | with_reducible exact Keeps.rfl _ | with_reducible refine Keeps.setQuery ?_ | with_reducible refine Keeps.addItem ?_ | with_reducible refine Keeps.replay hm ?_ | with_reducible refine Keeps.ite ?_ ?_ | split | dsimp only | refine Keeps.of_mk (Eq.refl _) (Eq.refl _) (Eq.refl _) (Eq.refl _) ?_)

theorem Keeps.writeMorsel {q : Query} {scan : List Byte} {m' : Morsel} (hm : ¬m) (h : Keeps p m a s) : Keeps p m a (Machine.State.writeMorsel s q scan m') := by
  unfold Machine.State.writeMorsel
  try dsimp only
  iterate 25 (all_goals try first | with_reducible assumption | with_reducible exact Keeps.rfl _ | with_reducible refine Keeps.writeMem hm ?_ | with_reducible refine Keeps.ite ?_ ?_ | split | dsimp only | refine Keeps.of_mk (Eq.refl _) (Eq.refl _) (Eq.refl _) (Eq.refl _) ?_)

theorem Keeps.createRoot {ctx : Nat} (hm : ¬m) (h : Keeps p m a s) : Keeps p m a (Machine.createRoot s ctx) := by
  unfold Machine.createRoot
  try dsimp only
  iterate 25 (all_goals try first | with_reducible assumption | with_reducible exact Keeps.rfl _ | with_reducible refine Keeps.setQuery ?_ | with_reducible refine Keeps.failQuery hm ?_ | with_reducible refine Keeps.makeItem_some (by assumption) ?_ | with_reducible refine Keeps.writeMorsel hm ?_ | with_reducible refine Keeps.ite ?_ ?_ | split | dsimp only | refine Keeps.of_mk (Eq.refl _) (Eq.refl _) (Eq.refl _) (Eq.refl _) ?_)

theorem Keeps.createFlume {f : Nat} (h : Keeps p m a s) : Keeps p m a (Machine.createFlume s f) := by
  unfold Machine.createFlume
  try dsimp only
  iterate 25 (all_goals try first | with_reducible assumption | with_reducible exact Keeps.rfl _ | with_reducible refine Keeps.setFlume ?_ | with_reducible refine Keeps.makeItem_some (by assumption) ?_ | with_reducible refine Keeps.ite ?_ ?_ | split | dsimp only | refine Keeps.of_mk (Eq.refl _) (Eq.refl _) (Eq.refl _) (Eq.refl _) ?_)

theorem Keeps.createPart {ctx : Nat} {t' : Nat} {k' : Nat × Nat} (h : Keeps p m a s) : Keeps p m a (Machine.createPart ctx t' s k') := by
  unfold Machine.createPart
  try dsimp only
  iterate 25 (all_goals try first | with_reducible assumption | with_reducible exact Keeps.rfl _ | with_reducible refine Keeps.setQuery ?_ | with_reducible refine Keeps.makeItem_some (by assumption) ?_ | with_reducible refine Keeps.ite ?_ ?_ | split | dsimp only | refine Keeps.of_mk (Eq.refl _) (Eq.refl _) (Eq.refl _) (Eq.refl _) ?_)

theorem Keeps.createExch {ctx : Nat} (h : Keeps p m a s) : Keeps p m a (Machine.createExch s ctx) := by
  unfold Machine.createExch
  try dsimp only
  iterate 25 (all_goals try first | with_reducible assumption | with_reducible exact Keeps.rfl _ | with_reducible refine Keeps.createPart ?_ | (with_reducible refine Keeps.foldl _ ?_ (fun u e => ?_)) | with_reducible refine Keeps.ite ?_ ?_ | split | dsimp only | refine Keeps.of_mk (Eq.refl _) (Eq.refl _) (Eq.refl _) (Eq.refl _) ?_)

theorem Keeps.createBarrier {ctx : Nat} (h : Keeps p m a s) : Keeps p m a (Machine.createBarrier s ctx) := by
  unfold Machine.createBarrier
  try dsimp only
  iterate 25 (all_goals try first | with_reducible assumption | with_reducible exact Keeps.rfl _ | with_reducible refine Keeps.setQuery ?_ | with_reducible refine Keeps.makeItem_some (by assumption) ?_ | (with_reducible refine Keeps.foldl _ ?_ (fun u e => ?_)) | with_reducible refine Keeps.ite ?_ ?_ | split | dsimp only | refine Keeps.of_mk (Eq.refl _) (Eq.refl _) (Eq.refl _) (Eq.refl _) ?_)

theorem Keeps.pair {i c slot : Nat} {y : Item} (hp : ¬p c) (h : Keeps p m a s) : Keeps p m a (s.pair i c slot y) := by
  have wr : ∀ (l : List (W64 × Nat)) (k : Core), (l.foldl (fun (v : Core) e => v.wr (BitVec.ofNat 5 (16 + e.2)) e.1) k).ls = k.ls := by
    intro l
    induction l with
    | nil => intro k; exact Eq.refl _
    | cons e l ih => intro k; exact (ih _).trans (Core.wr_ls _ _ _)
  unfold State.pair
  dsimp only
  refine Keeps.of_mk (Eq.refl _) (Eq.refl _) (Eq.refl _) (Eq.refl _) ?_
  refine Keeps.setStat ?_
  exact Keeps.setCoreRegs hp (wr _ _) (Keeps.setItem h)

theorem Keeps.dispatchOne {s0 : State} (hp : ∀ c, ¬p c) (h : Keeps p m a s0) : Keeps p m a (Machine.dispatchOne s0) := by
  unfold Machine.dispatchOne
  try dsimp only
  iterate 25 (all_goals try first | with_reducible assumption | with_reducible exact Keeps.rfl _ | with_reducible refine Keeps.pumpIngest ?_ | with_reducible refine Keeps.pair (hp _) ?_ | (with_reducible refine Keeps.foldl _ ?_ (fun u e => ?_)) | with_reducible refine Keeps.ite ?_ ?_ | split | dsimp only | refine Keeps.of_mk (Eq.refl _) (Eq.refl _) (Eq.refl _) (Eq.refl _) ?_)

theorem Keeps.endQuery {ctx : Nat} (hm : ¬m) (h : Keeps p m a s) : Keeps p m a (Machine.State.endQuery s ctx) := by
  unfold Machine.State.endQuery
  try dsimp only
  iterate 25 (all_goals try first | with_reducible assumption | with_reducible exact Keeps.rfl _ | with_reducible refine Keeps.complete hm ?_ | with_reducible refine Keeps.ite ?_ ?_ | split | dsimp only | refine Keeps.of_mk (Eq.refl _) (Eq.refl _) (Eq.refl _) (Eq.refl _) ?_)

theorem Keeps.failItem {slot : Nat} {t' : Item} {st : W16} (hm : ¬m) (h : Keeps p m a s) : Keeps p m a (Machine.State.failItem s slot t' st) := by
  unfold Machine.State.failItem
  try dsimp only
  iterate 25 (all_goals try first | with_reducible assumption | with_reducible exact Keeps.rfl _ | with_reducible refine Keeps.discardItem hm ?_ | with_reducible refine Keeps.failQuery hm ?_ | with_reducible refine Keeps.complete hm ?_ | with_reducible refine Keeps.ite ?_ ?_ | split | dsimp only | refine Keeps.of_mk (Eq.refl _) (Eq.refl _) (Eq.refl _) (Eq.refl _) ?_)

theorem Keeps.coreLoop {c : Nat} (h : Keeps p m a s) : Keeps p m a (Machine.State.coreLoop s c) := by
  unfold Machine.State.coreLoop
  try dsimp only
  iterate 25 (all_goals try first | with_reducible assumption | with_reducible exact Keeps.rfl _ | ((with_reducible refine Keeps.setCore ?_ ?_); exact ⟨Eq.refl _, Eq.refl _, Eq.refl _⟩) | with_reducible refine Keeps.ite ?_ ?_ | split | dsimp only | refine Keeps.of_mk (Eq.refl _) (Eq.refl _) (Eq.refl _) (Eq.refl _) ?_)

theorem Keeps.commitPost {h' : Option Nat} {p' : Post} (h : Keeps p m a s) : Keeps p m a (Machine.State.commitPost s h' p') := by
  unfold Machine.State.commitPost
  try dsimp only
  iterate 25 (all_goals try first | with_reducible assumption | with_reducible exact Keeps.rfl _ | with_reducible refine Keeps.setFlume ?_ | with_reducible refine Keeps.ite ?_ ?_ | split | dsimp only | refine Keeps.of_mk (Eq.refl _) (Eq.refl _) (Eq.refl _) (Eq.refl _) ?_)

theorem Keeps.applySignal {ctx : Nat} {g : Signal} (h : Keeps p m a s) : Keeps p m a (Machine.State.applySignal ctx s g) := by
  unfold Machine.State.applySignal
  try dsimp only
  iterate 25 (all_goals try first | with_reducible assumption | with_reducible exact Keeps.rfl _ | with_reducible refine Keeps.orFlags ?_ | with_reducible refine Keeps.ite ?_ ?_ | split | dsimp only | refine Keeps.of_mk (Eq.refl _) (Eq.refl _) (Eq.refl _) (Eq.refl _) ?_)

theorem Keeps.publish {slot : Nat} {t' : Item} (hm : ¬m) (h : Keeps p m a s) : Keeps p m a (Machine.State.publish s slot t') := by
  unfold Machine.State.publish
  try dsimp only
  iterate 25 (all_goals try first | with_reducible assumption | with_reducible exact Keeps.rfl _ | with_reducible refine Keeps.setQuery ?_ | with_reducible refine Keeps.unstage ?_ | with_reducible refine Keeps.closeParcels hm ?_ | with_reducible refine Keeps.discardItem hm ?_ | with_reducible refine Keeps.failQuery hm ?_ | with_reducible refine Keeps.commitPost ?_ | with_reducible refine Keeps.applySignal ?_ | (with_reducible refine Keeps.foldl _ ?_ (fun u e => ?_)) | with_reducible refine Keeps.ite ?_ ?_ | split | dsimp only | refine Keeps.of_mk (Eq.refl _) (Eq.refl _) (Eq.refl _) (Eq.refl _) ?_)

theorem Keeps.commitIngest {slot : Nat} {t' : Item} {no : Nat} (hm : ¬m) (h : Keeps p m a s) : Keeps p m a (Machine.State.commitIngest s slot t' no) := by
  unfold Machine.State.commitIngest
  try dsimp only
  iterate 25 (all_goals try first | with_reducible assumption | with_reducible exact Keeps.rfl _ | with_reducible refine Keeps.setAppend ?_ | with_reducible refine Keeps.land hm ?_ | with_reducible refine Keeps.ite ?_ ?_ | split | dsimp only | refine Keeps.of_mk (Eq.refl _) (Eq.refl _) (Eq.refl _) (Eq.refl _) ?_)

theorem Keeps.commitItem {slot : Nat} {t' : Item} (hm : ¬m) (h : Keeps p m a s) : Keeps p m a (Machine.State.commitItem s slot t') := by
  unfold Machine.State.commitItem
  try dsimp only
  iterate 25 (all_goals try first | with_reducible assumption | with_reducible exact Keeps.rfl _ | with_reducible refine Keeps.setStat ?_ | with_reducible refine Keeps.logEvent ?_ | with_reducible refine Keeps.discardItem hm ?_ | with_reducible refine Keeps.failQuery hm ?_ | with_reducible refine Keeps.publish hm ?_ | with_reducible refine Keeps.commitIngest hm ?_ | with_reducible refine Keeps.ite ?_ ?_ | split | dsimp only | refine Keeps.of_mk (Eq.refl _) (Eq.refl _) (Eq.refl _) (Eq.refl _) ?_)

theorem Keeps.commit {slot : Nat} (hm : ¬m) (h : Keeps p m a s) : Keeps p m a (Machine.State.commit s slot) := by
  unfold Machine.State.commit
  try dsimp only
  iterate 25 (all_goals try first | with_reducible assumption | with_reducible exact Keeps.rfl _ | with_reducible refine Keeps.coreLoop ?_ | with_reducible refine Keeps.commitItem hm ?_ | with_reducible refine Keeps.ite ?_ ?_ | split | dsimp only | refine Keeps.of_mk (Eq.refl _) (Eq.refl _) (Eq.refl _) (Eq.refl _) ?_)

theorem Keeps.requeue {slot : Nat} {t' : Item} {twin : Bool} {count : Bool} (h : Keeps p m a s) : Keeps p m a (Machine.State.requeue s slot t' twin count) := by
  unfold Machine.State.requeue
  try dsimp only
  iterate 25 (all_goals try first | with_reducible assumption | with_reducible exact Keeps.rfl _ | with_reducible refine Keeps.setItem ?_ | with_reducible refine Keeps.setStat ?_ | with_reducible refine Keeps.replay hm ?_ | with_reducible refine Keeps.ite ?_ ?_ | split | dsimp only | refine Keeps.of_mk (Eq.refl _) (Eq.refl _) (Eq.refl _) (Eq.refl _) ?_)

theorem Keeps.dropStaged {slot : Nat} {t' : Item} {twin : Bool} (hm : ¬m) (h : Keeps p m a s) : Keeps p m a (Machine.State.dropStaged s slot t' twin) := by
  unfold Machine.State.dropStaged
  try dsimp only
  iterate 25 (all_goals try first | with_reducible assumption | with_reducible exact Keeps.rfl _ | with_reducible refine Keeps.setItem ?_ | with_reducible refine Keeps.unstage ?_ | with_reducible refine Keeps.dropJobs ?_ | with_reducible refine Keeps.voidParcels hm ?_ | with_reducible refine Keeps.ite ?_ ?_ | split | dsimp only | refine Keeps.of_mk (Eq.refl _) (Eq.refl _) (Eq.refl _) (Eq.refl _) ?_)

theorem Keeps.faultRun {c : Nat} (hm : ¬m) (h : Keeps p m a s) : Keeps p m a (Machine.State.faultRun s c) := by
  unfold Machine.State.faultRun
  try dsimp only
  iterate 25 (all_goals try first | with_reducible assumption | with_reducible exact Keeps.rfl _ | with_reducible refine Keeps.discardItem hm ?_ | with_reducible refine Keeps.failItem hm ?_ | with_reducible refine Keeps.dropStaged hm ?_ | ((with_reducible refine Keeps.setCore ?_ ?_); exact ⟨Eq.refl _, Eq.refl _, Eq.refl _⟩) | with_reducible refine Keeps.ite ?_ ?_ | split | dsimp only | refine Keeps.of_mk (Eq.refl _) (Eq.refl _) (Eq.refl _) (Eq.refl _) ?_)

theorem Keeps.endNoCore {i : Nat} {c : Cmd} (hm : ¬m) (h : Keeps p m a s) : Keeps p m a (Machine.State.endNoCore i s c) := by
  unfold Machine.State.endNoCore
  try dsimp only
  iterate 25 (all_goals try first | with_reducible assumption | with_reducible exact Keeps.rfl _ | with_reducible refine Keeps.discardItems hm ?_ | with_reducible refine Keeps.failQuery hm ?_ | with_reducible refine Keeps.complete hm ?_ | with_reducible refine Keeps.endQuery hm ?_ | with_reducible refine Keeps.ite ?_ ?_ | split | dsimp only | refine Keeps.of_mk (Eq.refl _) (Eq.refl _) (Eq.refl _) (Eq.refl _) ?_)

theorem Keeps.clusterLost {i : Nat} {cl : Nat} (hm : ¬m) (h : Keeps p m a s) : Keeps p m a (Machine.State.clusterLost s i cl) := by
  unfold Machine.State.clusterLost
  try dsimp only
  iterate 25 (all_goals try first | with_reducible assumption | with_reducible exact Keeps.rfl _ | with_reducible refine Keeps.failQuery hm ?_ | with_reducible refine Keeps.requeue ?_ | with_reducible refine Keeps.dropStaged hm ?_ | (with_reducible refine Keeps.foldl _ ?_ (fun u e => ?_)) | with_reducible refine Keeps.ite ?_ ?_ | split | dsimp only | refine Keeps.of_mk (Eq.refl _) (Eq.refl _) (Eq.refl _) (Eq.refl _) ?_)

theorem Keeps.coreFault {c : Nat} (hm : ¬m) (h : Keeps p m a s) : Keeps p m a (s.coreFault c) := by
  unfold State.coreFault
  dsimp only
  split
  · exact h
  · have k : Keeps p m a (((({ s with hg := { s.hg with oos := c :: s.hg.oos } }.setCore c
        ({ s with hg := { s.hg with oos := c :: s.hg.oos } }.core c).halt).svEdge 3).logEvent 0x01 ((instOfCore s.hi.n c).getD 0xFF) 1 c).faultRun c) :=
      Keeps.faultRun hm (Keeps.logEvent (Keeps.svEdge (Keeps.setCore ⟨Eq.refl _, Eq.refl _, Eq.refl _⟩ (Keeps.of_mk (Eq.refl _) (Eq.refl _) (Eq.refl _) (Eq.refl _) h))))
    revert k
    generalize State.faultRun _ c = u
    intro k
    split
    · exact k
    · split
      · exact Keeps.settleNoCore hm (Keeps.foldl _ k (fun _ _ => Keeps.endNoCore hm (Keeps.rfl _)))
      · split
        · exact k
        · exact Keeps.clusterLost hm k

theorem Keeps.replay {slot : Nat} (hm : ¬m) (h : Keeps p m a s) : Keeps p m a (Machine.State.replay s slot) := by
  unfold Machine.State.replay
  try dsimp only
  iterate 25 (all_goals try first | with_reducible assumption | with_reducible exact Keeps.rfl _ | with_reducible refine Keeps.discardItem hm ?_ | with_reducible refine Keeps.requeue ?_ | with_reducible refine Keeps.ite ?_ ?_ | split | dsimp only | refine Keeps.of_mk (Eq.refl _) (Eq.refl _) (Eq.refl _) (Eq.refl _) ?_)

theorem Keeps.sendTuple {ctx : Nat} {slot : Nat} {x : Nat} {tuple : List Byte} (hm : ¬m) (h : Keeps p m a s) : Keeps p m a (Machine.State.sendTuple ctx slot x s tuple) := by
  unfold Machine.State.sendTuple
  try dsimp only
  iterate 25 (all_goals try first | with_reducible assumption | with_reducible exact Keeps.rfl _ | with_reducible refine Keeps.setItem ?_ | with_reducible refine Keeps.setQuery ?_ | with_reducible refine Keeps.putParcel hm ?_ | with_reducible refine Keeps.failQuery hm ?_ | with_reducible refine Keeps.ite ?_ ?_ | split | dsimp only | refine Keeps.of_mk (Eq.refl _) (Eq.refl _) (Eq.refl _) (Eq.refl _) ?_)

theorem Keeps.sendTuples {slot : Nat} {x : Nat} {size : Nat} {bs : List Byte} (hm : ¬m) (h : Keeps p m a s) : Keeps p m a (Machine.State.sendTuples s slot x size bs) := by
  unfold Machine.State.sendTuples
  try dsimp only
  iterate 25 (all_goals try first | with_reducible assumption | with_reducible exact Keeps.rfl _ | with_reducible refine Keeps.addAct ?_ | with_reducible refine Keeps.sendTuple hm ?_ | (with_reducible refine Keeps.foldl _ ?_ (fun u e => ?_)) | with_reducible refine Keeps.ite ?_ ?_ | split | dsimp only | refine Keeps.of_mk (Eq.refl _) (Eq.refl _) (Eq.refl _) (Eq.refl _) ?_)

theorem Keeps.extendOne {f : Nat} (hm : ¬m) (h : Keeps p m a s) : Keeps p m a (Machine.extendOne s f) := by
  unfold Machine.extendOne
  try dsimp only
  iterate 25 (all_goals try first | with_reducible assumption | with_reducible exact Keeps.rfl _ | with_reducible refine Keeps.setQuery ?_ | with_reducible refine Keeps.setFlume ?_ | with_reducible refine Keeps.failQuery hm ?_ | with_reducible refine Keeps.grant hm ?_ | with_reducible refine Keeps.ite ?_ ?_ | split | dsimp only | refine Keeps.of_mk (Eq.refl _) (Eq.refl _) (Eq.refl _) (Eq.refl _) ?_)

theorem Keeps.flumeExtend {i : Nat} (hm : ¬m) (h : Keeps p m a s) : Keeps p m a (Machine.flumeExtend s i) := by
  unfold Machine.flumeExtend
  try dsimp only
  iterate 25 (all_goals try first | with_reducible assumption | with_reducible exact Keeps.rfl _ | with_reducible refine Keeps.extendOne hm ?_ | (with_reducible refine Keeps.foldl _ ?_ (fun u e => ?_)) | with_reducible refine Keeps.ite ?_ ?_ | split | dsimp only | refine Keeps.of_mk (Eq.refl _) (Eq.refl _) (Eq.refl _) (Eq.refl _) ?_)

theorem Keeps.enterLost {i : Nat} {es : List LostEntry} (h : Keeps p m a s) : Keeps p m a (Machine.State.enterLost s i es) := by
  unfold Machine.State.enterLost
  try dsimp only
  iterate 25 (all_goals try first | with_reducible assumption | with_reducible exact Keeps.rfl _ | with_reducible refine Keeps.setOwner ?_ | with_reducible refine Keeps.vfEvent ?_ | with_reducible refine Keeps.svEdge ?_ | with_reducible refine Keeps.logEvent ?_ | (with_reducible refine Keeps.foldl _ ?_ (fun u e => ?_)) | with_reducible refine Keeps.ite ?_ ?_ | split | dsimp only | refine Keeps.of_mk (Eq.refl _) (Eq.refl _) (Eq.refl _) (Eq.refl _) ?_)

theorem Keeps.sealBlock {i acc e} (h : Keeps p m a (Prod.fst acc)) : Keeps p m a (Prod.fst (Machine.sealBlock i acc e)) := by
  unfold Machine.sealBlock
  obtain ⟨u, out⟩ := acc
  dsimp only
  split
  · exact h
  · dsimp only
    split
    · exact Keeps.readMem h
    · exact h

theorem Keeps.pickRows {n : Nat} (h : Keeps p m a s) : Keeps p m a (Machine.State.pickRows n s).2 := by
  induction n generalizing s with
  | zero => exact h
  | succ n ih => exact ih (Keeps.pickDies (n := 17) h)

theorem Keeps.pickRows_pair {n : Nat} {x0} (e : (Machine.State.pickRows n s) = (x0, t)) (h : Keeps p m a s) : Keeps p m a t := by
  have k : Keeps p m a (Machine.State.pickRows n s).2 := Keeps.pickRows h
  rw [e] at k
  exact k

theorem Keeps.addSegment {slot : Nat} {g : Segment} {rows : List (List Nat)} {seals : List Nat} (h : Keeps p m a s) : Keeps p m a (Machine.State.addSegment s slot g rows seals) := by
  unfold Machine.State.addSegment
  exact Keeps.of_mk (Eq.refl _) (Eq.refl _) (Eq.refl _) (Eq.refl _) h

theorem Keeps.layRows {slot : Nat} {g : Segment} (h : Keeps p m a s) : Keeps p m a (Machine.State.layRows s slot g) := by
  unfold Machine.State.layRows
  generalize g.rows = n
  exact Keeps.addSegment (Keeps.pickDies (Keeps.pickRows h))

theorem Keeps.writeSegIn {slots : List Nat} {i : Nat} {tbl : Nat} {col : Nat} {sup : List Nat} {blocks : List SegBlock} {dur : Nat} (h : Keeps p m a s) : Keeps p m a (Machine.State.writeSegIn s slots i tbl col sup blocks dur) := by
  unfold Machine.State.writeSegIn
  split
  · exact h
  · exact Keeps.layRows h

theorem Keeps.writeSeg {i : Nat} {tbl : Nat} {col : Nat} {sup : List Nat} {blocks : List SegBlock} {dur : Nat} (h : Keeps p m a s) : Keeps p m a (Machine.State.writeSeg s i tbl col sup blocks dur) := by
  unfold Machine.State.writeSeg
  exact Keeps.writeSegIn h

theorem Keeps.segmentSealed {i : Nat} (hm : ¬m) (h : Keeps p m a s) : Keeps p m a (Machine.segmentSealed s i) := by
  unfold Machine.segmentSealed
  try dsimp only
  iterate 25 (all_goals try first | with_reducible assumption | with_reducible exact Keeps.rfl _ | with_reducible refine Keeps.foldlOn Prod.fst _ ?_ (fun u e => ?_) | with_reducible refine Keeps.setOwner ?_ | with_reducible refine Keeps.addAct ?_ | with_reducible refine Keeps.flushCheck hm ?_ | with_reducible refine Keeps.settleNoCore hm ?_ | with_reducible refine Keeps.enterLost ?_ | refine Keeps.sealBlock ?_ | with_reducible refine Keeps.writeSeg ?_ | (with_reducible refine Keeps.foldl _ ?_ (fun u e => ?_)) | with_reducible refine Keeps.ite ?_ ?_ | split | dsimp only | refine Keeps.of_mk (Eq.refl _) (Eq.refl _) (Eq.refl _) (Eq.refl _) ?_)

theorem Keeps.checkpoint (h : Keeps p m a s) : Keeps p m a (Machine.State.checkpoint s) := by
  unfold Machine.State.checkpoint
  try dsimp only
  iterate 25 (all_goals try first | with_reducible assumption | with_reducible exact Keeps.rfl _ | with_reducible refine Keeps.addAct ?_ | (with_reducible refine Keeps.foldl _ ?_ (fun u e => ?_)) | with_reducible refine Keeps.ite ?_ ?_ | split | dsimp only | refine Keeps.of_mk (Eq.refl _) (Eq.refl _) (Eq.refl _) (Eq.refl _) ?_)

theorem Keeps.goDry {i : Nat} (hm : ¬m) (h : Keeps p m a s) : Keeps p m a (Machine.State.goDry s i) := by
  unfold Machine.State.goDry
  try dsimp only
  iterate 25 (all_goals try first | with_reducible assumption | with_reducible exact Keeps.rfl _ | with_reducible refine Keeps.setOwner ?_ | with_reducible refine Keeps.vfEvent ?_ | with_reducible refine Keeps.svEdge ?_ | with_reducible refine Keeps.logEvent ?_ | with_reducible refine Keeps.flushCheck hm ?_ | with_reducible refine Keeps.writeHeader ?_ | with_reducible refine Keeps.ite ?_ ?_ | split | dsimp only | refine Keeps.of_mk (Eq.refl _) (Eq.refl _) (Eq.refl _) (Eq.refl _) ?_)

theorem Keeps.reserveOut {d : Nat} (hm : ¬m) (h : Keeps p m a s) : Keeps p m a (Machine.State.reserveOut s d) := by
  unfold Machine.State.reserveOut
  try dsimp only
  iterate 25 (all_goals try first | with_reducible assumption | with_reducible exact Keeps.rfl _ | with_reducible refine Keeps.goDry hm ?_ | (with_reducible refine Keeps.foldl _ ?_ (fun u e => ?_)) | with_reducible refine Keeps.ite ?_ ?_ | split | dsimp only | refine Keeps.of_mk (Eq.refl _) (Eq.refl _) (Eq.refl _) (Eq.refl _) ?_)

theorem Keeps.failDie {d : Nat} (hm : ¬m) (h : Keeps p m a s) : Keeps p m a (Machine.State.failDie s d) := by
  unfold Machine.State.failDie
  try dsimp only
  iterate 25 (all_goals try first | with_reducible assumption | with_reducible exact Keeps.rfl _ | with_reducible refine Keeps.free ?_ | with_reducible refine Keeps.free_pair (by assumption) ?_ | with_reducible refine Keeps.svEdge ?_ | with_reducible refine Keeps.logEvent ?_ | with_reducible refine Keeps.goDry hm ?_ | with_reducible refine Keeps.reserveOut hm ?_ | (with_reducible refine Keeps.foldl _ ?_ (fun u e => ?_)) | with_reducible refine Keeps.ite ?_ ?_ | split | dsimp only | refine Keeps.of_mk (Eq.refl _) (Eq.refl _) (Eq.refl _) (Eq.refl _) ?_)

theorem Keeps.failBlock {d : Nat} (hm : ¬m) (h : Keeps p m a s) : Keeps p m a (Machine.State.failBlock s d) := by
  unfold Machine.State.failBlock
  try dsimp only
  iterate 25 (all_goals try first | with_reducible assumption | with_reducible exact Keeps.rfl _ | with_reducible refine Keeps.reserveOut hm ?_ | (with_reducible refine Keeps.foldl _ ?_ (fun u e => ?_)) | with_reducible refine Keeps.ite ?_ ?_ | split | dsimp only | refine Keeps.of_mk (Eq.refl _) (Eq.refl _) (Eq.refl _) (Eq.refl _) ?_)

theorem Keeps.modSeg {seq : Nat} {f : Segment → Segment} (h : Keeps p m a s) : Keeps p m a (Machine.State.modSeg s seq f) := by
  unfold Machine.State.modSeg
  try dsimp only
  iterate 25 (all_goals try first | with_reducible assumption | with_reducible exact Keeps.rfl _ | (with_reducible refine Keeps.foldl _ ?_ (fun u e => ?_)) | with_reducible refine Keeps.ite ?_ ?_ | split | dsimp only | refine Keeps.of_mk (Eq.refl _) (Eq.refl _) (Eq.refl _) (Eq.refl _) ?_)

theorem Keeps.losePages {g : Segment} {pages : List Nat} (h : Keeps p m a s) : Keeps p m a (Machine.State.losePages s g pages) := by
  unfold Machine.State.losePages
  try dsimp only
  iterate 25 (all_goals try first | with_reducible assumption | with_reducible exact Keeps.rfl _ | with_reducible refine Keeps.setOwner ?_ | with_reducible refine Keeps.enterLost ?_ | with_reducible refine Keeps.modSeg ?_ | (with_reducible refine Keeps.foldl _ ?_ (fun u e => ?_)) | with_reducible refine Keeps.ite ?_ ?_ | split | dsimp only | refine Keeps.of_mk (Eq.refl _) (Eq.refl _) (Eq.refl _) (Eq.refl _) ?_)

theorem Keeps.findLoss {seq : Nat} (h : Keeps p m a s) : Keeps p m a (Machine.State.findLoss s seq) := by
  unfold Machine.State.findLoss
  try dsimp only
  iterate 25 (all_goals try first | with_reducible assumption | with_reducible exact Keeps.rfl _ | with_reducible refine Keeps.losePages ?_ | (with_reducible refine Keeps.foldl _ ?_ (fun u e => ?_)) | with_reducible refine Keeps.ite ?_ ?_ | split | dsimp only | refine Keeps.of_mk (Eq.refl _) (Eq.refl _) (Eq.refl _) (Eq.refl _) ?_)

theorem Keeps.readSegment {seq : Nat} {bad : List PageAt} (h : Keeps p m a s) : Keeps p m a (Machine.State.readSegment s seq bad) := by
  unfold Machine.State.readSegment
  try dsimp only
  iterate 25 (all_goals try first | with_reducible assumption | with_reducible exact Keeps.rfl _ | with_reducible refine Keeps.modSeg ?_ | with_reducible refine Keeps.findLoss ?_ | (with_reducible refine Keeps.foldl _ ?_ (fun u e => ?_)) | with_reducible refine Keeps.ite ?_ ?_ | split | dsimp only | refine Keeps.of_mk (Eq.refl _) (Eq.refl _) (Eq.refl _) (Eq.refl _) ?_)

theorem Keeps.rehome {d : Nat} {seq : Nat} (h : Keeps p m a s) : Keeps p m a (Machine.State.rehome s d seq) := by
  unfold Machine.State.rehome
  try dsimp only
  iterate 25 (all_goals try first | with_reducible assumption | with_reducible exact Keeps.rfl _ | with_reducible refine Keeps.pickDies ?_ | with_reducible refine Keeps.pickDies_pair (by assumption) ?_ | with_reducible refine Keeps.modSeg ?_ | (with_reducible refine Keeps.foldl _ ?_ (fun u e => ?_)) | with_reducible refine Keeps.ite ?_ ?_ | split | dsimp only | refine Keeps.of_mk (Eq.refl _) (Eq.refl _) (Eq.refl _) (Eq.refl _) ?_)

theorem Keeps.rewrite {i : Nat} {seqs : List Nat} (h : Keeps p m a s) : Keeps p m a (Machine.rewrite s i seqs) := by
  unfold Machine.rewrite
  try dsimp only
  iterate 25 (all_goals try first | with_reducible assumption | with_reducible exact Keeps.rfl _ | with_reducible refine Keeps.setOwner ?_ | with_reducible refine Keeps.writeSeg ?_ | with_reducible refine Keeps.addAct ?_ | (with_reducible refine Keeps.foldl _ ?_ (fun u e => ?_)) | with_reducible refine Keeps.ite ?_ ?_ | split | dsimp only | refine Keeps.of_mk (Eq.refl _) (Eq.refl _) (Eq.refl _) (Eq.refl _) ?_)

theorem Keeps.flashReadScrub {seq : Nat} {bad : List PageAt} {weak : Bool} (h : Keeps p m a s) : Keeps p m a (Machine.flashReadScrub s seq bad weak) := by
  unfold Machine.flashReadScrub
  try dsimp only
  iterate 25 (all_goals try first | with_reducible assumption | with_reducible exact Keeps.rfl _ | with_reducible refine Keeps.readSegment ?_ | with_reducible refine Keeps.modSeg ?_ | with_reducible refine Keeps.addAct ?_ | with_reducible refine Keeps.rewrite ?_ | (with_reducible refine Keeps.foldl _ ?_ (fun u e => ?_)) | with_reducible refine Keeps.ite ?_ ?_ | split | dsimp only | refine Keeps.of_mk (Eq.refl _) (Eq.refl _) (Eq.refl _) (Eq.refl _) ?_)

theorem Keeps.collect {i : Nat} {seqs : List Nat} (h : Keeps p m a s) : Keeps p m a (Machine.collect s i seqs) := by
  unfold Machine.collect
  try dsimp only
  iterate 25 (all_goals try first | with_reducible assumption | with_reducible exact Keeps.rfl _ | with_reducible refine Keeps.rewrite ?_ | with_reducible refine Keeps.readSegment ?_ | (with_reducible refine Keeps.foldl _ ?_ (fun u e => ?_)) | with_reducible refine Keeps.ite ?_ ?_ | split | dsimp only | refine Keeps.of_mk (Eq.refl _) (Eq.refl _) (Eq.refl _) (Eq.refl _) ?_)

theorem Keeps.placeRun_some {i : Nat} {seq : Nat} {run : List SegBlock} (hm : ¬m)  (e : (Machine.placeRun i seq s run) = some t) (h : Keeps p m a s) : Keeps p m a t := by
  unfold Machine.placeRun at e
  try dsimp only at e
  repeat' split at e
  all_goals first | (cases e; done) | skip
  all_goals (try cases e)
  iterate 25 (all_goals try first | with_reducible assumption | with_reducible exact Keeps.rfl _ | with_reducible refine Keeps.foldlOn Prod.snd _ ?_ (fun u e => ?_) | with_reducible refine Keeps.setOwner ?_ | with_reducible refine Keeps.writeMem hm ?_ | with_reducible refine Keeps.room_some (by assumption) ?_ | (with_reducible refine Keeps.foldl _ ?_ (fun u e => ?_)) | with_reducible refine Keeps.ite ?_ ?_ | split | dsimp only | refine Keeps.of_mk (Eq.refl _) (Eq.refl _) (Eq.refl _) (Eq.refl _) ?_)

theorem Keeps.segmentRead {seq : Nat} {bad : List PageAt} (hm : ¬m) (h : Keeps p m a s) : Keeps p m a (Machine.segmentRead s seq bad) := by
  unfold Machine.segmentRead
  try dsimp only
  iterate 25 (all_goals try first | with_reducible assumption | with_reducible exact Keeps.rfl _ | refine Keeps.foldlM_some (by assumption) (fun u e v k => Keeps.placeRun_some hm k (Keeps.rfl _)) ?_ | with_reducible refine Keeps.readSegment ?_ | with_reducible refine Keeps.placeRun_some hm (by assumption) ?_ | with_reducible refine Keeps.addAct ?_ | with_reducible refine Keeps.failQuery hm ?_ | (with_reducible refine Keeps.foldl _ ?_ (fun u e => ?_)) | with_reducible refine Keeps.ite ?_ ?_ | split | dsimp only | refine Keeps.of_mk (Eq.refl _) (Eq.refl _) (Eq.refl _) (Eq.refl _) ?_)

theorem Keeps.imageDone {i : Nat} {no : Nat} {st : W16} (hm : ¬m) (h : Keeps p m a s) : Keeps p m a (Machine.State.imageDone s i no st) := by
  unfold Machine.State.imageDone
  try dsimp only
  iterate 25 (all_goals try first | with_reducible assumption | with_reducible exact Keeps.rfl _ | with_reducible refine Keeps.modInst ?_ | with_reducible refine Keeps.finish hm ?_ | with_reducible refine Keeps.ite ?_ ?_ | split | dsimp only | refine Keeps.of_mk (Eq.refl _) (Eq.refl _) (Eq.refl _) (Eq.refl _) ?_)

theorem Keeps.startDigest {j : DigestJob} (h : Keeps p m a s) : Keeps p m a (Machine.startDigest s j).2 := by
  unfold Machine.startDigest
  try dsimp only
  iterate 25 (all_goals try first | with_reducible assumption | with_reducible exact Keeps.rfl _ | with_reducible refine Keeps.unitRead ?_ | with_reducible refine Keeps.unitRead_pair (by assumption) ?_ | with_reducible refine Keeps.ite ?_ ?_ | split | dsimp only)

theorem Keeps.startDigest_pair {j : DigestJob} {x0} (e : (Machine.startDigest s j) = (x0, t)) (h : Keeps p m a s) : Keeps p m a t := by
  have k : Keeps p m a (Machine.startDigest s j).2 := Keeps.startDigest h
  rw [e] at k
  exact k

theorem Keeps.restoreDigest {j : DigestJob} (h : Keeps p m a s) : Keeps p m a (Machine.restoreDigest s j).2 := by
  unfold Machine.restoreDigest
  try dsimp only
  iterate 25 (all_goals try first | with_reducible assumption | with_reducible exact Keeps.rfl _ | with_reducible refine Keeps.unitRead ?_ | with_reducible refine Keeps.unitRead_pair (by assumption) ?_ | with_reducible refine Keeps.ite ?_ ?_ | split | dsimp only | refine Keeps.of_mk (Eq.refl _) (Eq.refl _) (Eq.refl _) (Eq.refl _) ?_)

theorem Keeps.restoreDigest_pair {j : DigestJob} {x0} (e : (Machine.restoreDigest s j) = (x0, t)) (h : Keeps p m a s) : Keeps p m a t := by
  have k : Keeps p m a (Machine.restoreDigest s j).2 := Keeps.restoreDigest h
  rw [e] at k
  exact k

theorem Keeps.message {j : DigestJob} {off : Nat} {n : Nat} (h : Keeps p m a s) : Keeps p m a (Machine.State.message s j off n).2 := by
  unfold Machine.State.message
  try dsimp only
  iterate 25 (all_goals try first | with_reducible assumption | with_reducible exact Keeps.rfl _ | with_reducible refine Keeps.unitRead ?_ | with_reducible refine Keeps.unitRead_pair (by assumption) ?_ | with_reducible refine Keeps.ite ?_ ?_ | split | dsimp only | refine Keeps.of_mk (Eq.refl _) (Eq.refl _) (Eq.refl _) (Eq.refl _) ?_)

theorem Keeps.message_pair {j : DigestJob} {off : Nat} {n : Nat} {x0} (e : (Machine.State.message s j off n) = (x0, t)) (h : Keeps p m a s) : Keeps p m a t := by
  have k : Keeps p m a (Machine.State.message s j off n).2 := Keeps.message h
  rw [e] at k
  exact k

theorem Keeps.absorbDigest {j : DigestJob} {blocks : Nat} (h : Keeps p m a s) : Keeps p m a (Machine.absorbDigest s j blocks).2 := by
  unfold Machine.absorbDigest
  try dsimp only
  iterate 25 (all_goals try first | with_reducible assumption | with_reducible exact Keeps.rfl _ | with_reducible refine Keeps.message ?_ | with_reducible refine Keeps.message_pair (by assumption) ?_ | with_reducible refine Keeps.ite ?_ ?_ | split | dsimp only | refine Keeps.of_mk (Eq.refl _) (Eq.refl _) (Eq.refl _) (Eq.refl _) ?_)

theorem Keeps.absorbDigest_pair {j : DigestJob} {blocks : Nat} {x0} (e : (Machine.absorbDigest s j blocks) = (x0, t)) (h : Keeps p m a s) : Keeps p m a t := by
  have k : Keeps p m a (Machine.absorbDigest s j blocks).2 := Keeps.absorbDigest h
  rw [e] at k
  exact k

theorem Keeps.newDigest {d : List Byte} {b : Submitter} {why : DigestFor} (h : Keeps p m a s) : Keeps p m a (Machine.newDigest s d b why).2 := by
  unfold Machine.newDigest
  try dsimp only
  iterate 25 (all_goals try first | with_reducible assumption | with_reducible exact Keeps.rfl _ | with_reducible refine Keeps.ite ?_ ?_ | split | dsimp only | refine Keeps.of_mk (Eq.refl _) (Eq.refl _) (Eq.refl _) (Eq.refl _) ?_)

theorem Keeps.newDigest_pair {d : List Byte} {b : Submitter} {why : DigestFor} {x0} (e : (Machine.newDigest s d b why) = (x0, t)) (h : Keeps p m a s) : Keeps p m a t := by
  have k : Keeps p m a (Machine.newDigest s d b why).2 := Keeps.newDigest h
  rw [e] at k
  exact k

theorem Keeps.digestQueue {e' : Nat} {j : DigestJob} (h : Keeps p m a s) : Keeps p m a (Machine.State.digestQueue s e' j) :=
  Keeps.of_mk (Eq.refl _) (Eq.refl _) (Eq.refl _) (Eq.refl _) h

theorem Keeps.digestEnd {j : DigestJob} {rec : List Byte} (hm : ¬m) (hp : ∀ c, ¬p c) (h : Keeps p m a s) : Keeps p m a (Machine.State.digestEnd s j rec) := by
  unfold Machine.State.digestEnd
  try dsimp only
  iterate 25 (all_goals try first | with_reducible assumption | with_reducible exact Keeps.rfl _ | with_reducible refine Keeps.unitWrite hm hp ?_ | with_reducible refine Keeps.notify ?_ | with_reducible refine Keeps.imageDone hm ?_ | with_reducible refine Keeps.ite ?_ ?_ | split | dsimp only | refine Keeps.of_mk (Eq.refl _) (Eq.refl _) (Eq.refl _) (Eq.refl _) ?_)

theorem Keeps.drainDigest (hm : ¬m) (hp : ∀ c, ¬p c) (h : Keeps p m a s) : Keeps p m a (Machine.State.drainDigest s) := by
  unfold Machine.State.drainDigest
  try dsimp only
  iterate 25 (all_goals try first | with_reducible assumption | with_reducible exact Keeps.rfl _ | with_reducible refine Keeps.digestEnd hm hp ?_ | with_reducible refine Keeps.digestQueue ?_ | (with_reducible refine Keeps.foldl _ ?_ (fun u e => ?_)) | with_reducible refine Keeps.ite ?_ ?_ | split | dsimp only | refine Keeps.of_mk (Eq.refl _) (Eq.refl _) (Eq.refl _) (Eq.refl _) ?_)

theorem Keeps.digestSubmit {d : List Byte} {b : Submitter} {why : DigestFor} (hm : ¬m) (hp : ∀ c, ¬p c) (h : Keeps p m a s) : Keeps p m a (Machine.State.digestSubmit s d b why).1 := by
  unfold Machine.State.digestSubmit
  try dsimp only
  iterate 25 (all_goals try first | with_reducible assumption | with_reducible exact Keeps.rfl _ | with_reducible refine Keeps.newDigest ?_ | with_reducible refine Keeps.newDigest_pair (by assumption) ?_ | with_reducible refine Keeps.digestQueue ?_ | with_reducible refine Keeps.digestEnd hm hp ?_ | with_reducible refine Keeps.drainDigest hm hp ?_ | with_reducible refine Keeps.ite ?_ ?_ | split | dsimp only | refine Keeps.of_mk (Eq.refl _) (Eq.refl _) (Eq.refl _) (Eq.refl _) ?_)

theorem Keeps.digestSubmit_pair {d : List Byte} {b : Submitter} {why : DigestFor} (hm : ¬m) (hp : ∀ c, ¬p c) {x1} (e : (Machine.State.digestSubmit s d b why) = (t, x1)) (h : Keeps p m a s) : Keeps p m a t := by
  have k : Keeps p m a (Machine.State.digestSubmit s d b why).1 := Keeps.digestSubmit hm hp h
  rw [e] at k
  exact k

theorem Keeps.dgSubmit_some {c : Nat} {v : W64} (hm : ¬m) (hp : ∀ c, ¬p c) {x1} (e : (Machine.dgSubmit s c v) = some (t, x1)) (h : Keeps p m a s) : Keeps p m a t := by
  unfold Machine.dgSubmit at e
  try dsimp only at e
  repeat' split at e
  all_goals first | (cases e; done) | skip
  all_goals (try cases e)
  iterate 25 (all_goals try first | with_reducible assumption | with_reducible exact Keeps.rfl _ | refine Keeps.digestSubmit_pair hm hp (Option.some.inj (by assumption)) ?_ | with_reducible refine Keeps.unitRead ?_ | with_reducible refine Keeps.unitRead_pair (by assumption) ?_ | with_reducible refine Keeps.digestSubmit hm hp ?_ | with_reducible refine Keeps.digestSubmit_pair hm hp (by assumption) ?_ | with_reducible refine Keeps.ite ?_ ?_ | split | dsimp only | refine Keeps.of_mk (Eq.refl _) (Eq.refl _) (Eq.refl _) (Eq.refl _) ?_)

theorem Keeps.imageCheck {i : Nat} {no : Nat} {da : Nat} {len : Nat} (hm : ¬m) (hp : ∀ c, ¬p c) (h : Keeps p m a s) : Keeps p m a (Machine.State.imageCheck s i no da len) := by
  unfold Machine.State.imageCheck
  try dsimp only
  iterate 25 (all_goals try first | with_reducible assumption | with_reducible exact Keeps.rfl _ | with_reducible refine Keeps.newDigest ?_ | with_reducible refine Keeps.newDigest_pair (by assumption) ?_ | with_reducible refine Keeps.digestQueue ?_ | with_reducible refine Keeps.digestSubmit hm hp ?_ | with_reducible refine Keeps.digestSubmit_pair hm hp (by assumption) ?_ | with_reducible refine Keeps.ite ?_ ?_ | split | dsimp only | refine Keeps.of_mk (Eq.refl _) (Eq.refl _) (Eq.refl _) (Eq.refl _) ?_)

theorem Keeps.runDigest {e' : Nat} {blocks : Nat} (hm : ¬m) (hp : ∀ c, ¬p c) (h : Keeps p m a s) : Keeps p m a (Machine.runDigest s e' blocks) := by
  unfold Machine.runDigest
  try dsimp only
  iterate 25 (all_goals try first | with_reducible assumption | with_reducible exact Keeps.rfl _ | with_reducible refine Keeps.absorbDigest ?_ | with_reducible refine Keeps.absorbDigest_pair (by assumption) ?_ | with_reducible refine Keeps.setEngine ?_ | with_reducible refine Keeps.drainDigest hm hp ?_ | with_reducible refine Keeps.startDigest ?_ | with_reducible refine Keeps.startDigest_pair (by assumption) ?_ | with_reducible refine Keeps.restoreDigest ?_ | with_reducible refine Keeps.restoreDigest_pair (by assumption) ?_ | (with_reducible refine Keeps.foldl _ ?_ (fun u e => ?_)) | with_reducible refine Keeps.ite ?_ ?_ | split | dsimp only | refine Keeps.of_mk (Eq.refl _) (Eq.refl _) (Eq.refl _) (Eq.refl _) ?_)

theorem Keeps.preemptDigest {e' : Nat} (hm : ¬m) (hp : ∀ c, ¬p c) (h : Keeps p m a s) : Keeps p m a (Machine.preemptDigest s e') := by
  unfold Machine.preemptDigest
  try dsimp only
  iterate 25 (all_goals try first | with_reducible assumption | with_reducible exact Keeps.rfl _ | with_reducible refine Keeps.setEngine ?_ | with_reducible refine Keeps.unitWrite hm hp ?_ | with_reducible refine Keeps.ite ?_ ?_ | split | dsimp only | refine Keeps.of_mk (Eq.refl _) (Eq.refl _) (Eq.refl _) (Eq.refl _) ?_)

theorem Keeps.finishDigest {j} (hm : ¬m) (hp : ∀ c, ¬p c) (h : Keeps p m a s) : Keeps p m a (Machine.finishDigest s j).s := by
  unfold Machine.finishDigest
  dsimp only
  iterate 25 (all_goals try first | exact h | with_reducible refine Keeps.message ?_ | with_reducible refine Keeps.unitWrite hm hp ?_ | with_reducible refine Keeps.unitRead ?_ | with_reducible refine Keeps.setSlot ?_ | split | dsimp only | refine Keeps.of_mk (Eq.refl _) (Eq.refl _) (Eq.refl _) (Eq.refl _) ?_ | with_reducible refine Keeps.finish hm ?_)

theorem Keeps.completeDigest {e' : Nat} (hm : ¬m) (hp : ∀ c, ¬p c) (h : Keeps p m a s) : Keeps p m a (Machine.completeDigest s e') := by
  unfold Machine.completeDigest
  try dsimp only
  iterate 25 (all_goals try first | with_reducible assumption | with_reducible exact Keeps.rfl _ | refine Keeps.finishDigest hm hp ?_ | with_reducible refine Keeps.setEngine ?_ | with_reducible refine Keeps.addAct ?_ | with_reducible refine Keeps.digestEnd hm hp ?_ | refine Keeps.finishDigest hm hp ?_ | with_reducible refine Keeps.ite ?_ ?_ | split | dsimp only | refine Keeps.of_mk (Eq.refl _) (Eq.refl _) (Eq.refl _) (Eq.refl _) ?_)

theorem Keeps.digestFault {e' : Nat} (hm : ¬m) (hp : ∀ c, ¬p c) (h : Keeps p m a s) : Keeps p m a (Machine.digestFault s e') := by
  unfold Machine.digestFault
  try dsimp only
  iterate 25 (all_goals try first | with_reducible assumption | with_reducible exact Keeps.rfl _ | with_reducible refine Keeps.setEngine ?_ | with_reducible refine Keeps.logEvent ?_ | with_reducible refine Keeps.digestQueue ?_ | with_reducible refine Keeps.digestEnd hm hp ?_ | with_reducible refine Keeps.drainDigest hm hp ?_ | (with_reducible refine Keeps.foldl _ ?_ (fun u e => ?_)) | with_reducible refine Keeps.ite ?_ ?_ | split | dsimp only | refine Keeps.of_mk (Eq.refl _) (Eq.refl _) (Eq.refl _) (Eq.refl _) ?_)

theorem Keeps.readDgRes {n k : Nat} (h : Keeps p m a s) : Keeps p m a (Machine.readDgRes s n k).2 := by
  unfold Machine.readDgRes
  dsimp only
  split
  · exact h
  · split
    · exact Keeps.setEngine h
    · exact h

theorem Keeps.pauseTest (h : Keeps p m a s) : Keeps p m a (Machine.State.pauseTest s) :=
  Keeps.of_mk (Eq.refl _) (Eq.refl _) (Eq.refl _) (Eq.refl _) h

theorem Keeps.endTest {result : Nat} {element : Nat} {index : Nat} (h : Keeps p m a s) : Keeps p m a (Machine.State.endTest s result element index) := by
  unfold Machine.State.endTest
  try dsimp only
  iterate 25 (all_goals try first | with_reducible assumption | with_reducible exact Keeps.rfl _ | with_reducible refine Keeps.vfEvent ?_ | with_reducible refine Keeps.logEvent ?_ | with_reducible refine Keeps.ite ?_ ?_ | split | dsimp only | refine Keeps.of_mk (Eq.refl _) (Eq.refl _) (Eq.refl _) (Eq.refl _) ?_)

theorem Keeps.cipherOos {k' : Nat} (hm : ¬m) (h : Keeps p m a s) : Keeps p m a (Machine.State.cipherOos s k') := by
  unfold Machine.State.cipherOos
  try dsimp only
  iterate 25 (all_goals try first | with_reducible assumption | with_reducible exact Keeps.rfl _ | with_reducible refine Keeps.logEvent ?_ | with_reducible refine Keeps.loseChan hm ?_ | with_reducible refine Keeps.failDie hm ?_ | (with_reducible refine Keeps.foldl _ ?_ (fun u e => ?_)) | with_reducible refine Keeps.ite ?_ ?_ | split | dsimp only | refine Keeps.of_mk (Eq.refl _) (Eq.refl _) (Eq.refl _) (Eq.refl _) ?_)

theorem Keeps.testFailed {f : TestFail} (hm : ¬m) (hp : ∀ c, ¬p c) (h : Keeps p m a s) : Keeps p m a (Machine.State.testFailed s f) := by
  unfold Machine.State.testFailed
  try dsimp only
  iterate 25 (all_goals try first | with_reducible assumption | with_reducible exact Keeps.rfl _ | with_reducible refine Keeps.coreFault hm ?_ | with_reducible refine Keeps.codecFault ?_ | with_reducible refine Keeps.digestFault hm hp ?_ | with_reducible refine Keeps.cipherOos hm ?_ | with_reducible refine Keeps.addUpsets ?_ | with_reducible refine Keeps.checkRow ?_ | with_reducible refine Keeps.readSegment ?_ | (with_reducible refine Keeps.foldl _ ?_ (fun u e => ?_)) | with_reducible refine Keeps.ite ?_ ?_ | split | dsimp only | refine Keeps.of_mk (Eq.refl _) (Eq.refl _) (Eq.refl _) (Eq.refl _) ?_)

theorem Keeps.prepKeys (h : Keeps p m a s) : Keeps p m a (Machine.State.prepKeys s) := by
  unfold Machine.State.prepKeys
  try dsimp only
  iterate 25 (all_goals try first | with_reducible assumption | with_reducible exact Keeps.rfl _ | with_reducible refine Keeps.setSlot ?_ | with_reducible refine Keeps.ite ?_ ?_ | split | dsimp only | refine Keeps.of_mk (Eq.refl _) (Eq.refl _) (Eq.refl _) (Eq.refl _) ?_)

theorem Keeps.ownerKeys {i : Nat} {nonce : List Byte} (h : Keeps p m a s) : Keeps p m a (Machine.State.ownerKeys s i nonce) := by
  unfold Machine.State.ownerKeys
  try dsimp only
  iterate 25 (all_goals try first | with_reducible assumption | with_reducible exact Keeps.rfl _ | with_reducible refine Keeps.setSlot ?_ | with_reducible refine Keeps.ite ?_ ?_ | split | dsimp only | refine Keeps.of_mk (Eq.refl _) (Eq.refl _) (Eq.refl _) (Eq.refl _) ?_)

theorem Keeps.enrolKeys {i : Nat} {oek : W512} {g : Nat} (h : Keeps p m a s) : Keeps p m a (Machine.State.enrolKeys s i oek g) := by
  unfold Machine.State.enrolKeys
  try dsimp only
  iterate 25 (all_goals try first | with_reducible assumption | with_reducible exact Keeps.rfl _ | with_reducible refine Keeps.setSlot ?_ | with_reducible refine Keeps.ite ?_ ?_ | split | dsimp only | refine Keeps.of_mk (Eq.refl _) (Eq.refl _) (Eq.refl _) (Eq.refl _) ?_)

theorem Keeps.fwCheck {image : List Byte} (h : Keeps p m a s) : Keeps p m a (Machine.State.fwCheck s image).2 := by
  unfold Machine.State.fwCheck
  try dsimp only
  iterate 25 (all_goals try first | with_reducible assumption | with_reducible exact Keeps.rfl _ | with_reducible refine Keeps.setEngine ?_ | (with_reducible refine Keeps.foldl _ ?_ (fun u e => ?_)) | with_reducible refine Keeps.ite ?_ ?_ | split | dsimp only | refine Keeps.of_mk (Eq.refl _) (Eq.refl _) (Eq.refl _) (Eq.refl _) ?_)

theorem Keeps.fwCheck_pair {image : List Byte} {x0} (e : (Machine.State.fwCheck s image) = (x0, t)) (h : Keeps p m a s) : Keeps p m a t := by
  have k : Keeps p m a (Machine.State.fwCheck s image).2 := Keeps.fwCheck h
  rw [e] at k
  exact k

theorem Keeps.oekLoad {v : W32} (h : Keeps p m a s) : Keeps p m a (Machine.oekLoad s v) := by
  unfold Machine.oekLoad
  try dsimp only
  iterate 25 (all_goals try first | with_reducible assumption | with_reducible exact Keeps.rfl _ | with_reducible refine Keeps.setSlot ?_ | with_reducible refine Keeps.reject hm ?_ | with_reducible refine Keeps.ite ?_ ?_ | split | dsimp only | refine Keeps.of_mk (Eq.refl _) (Eq.refl _) (Eq.refl _) (Eq.refl _) ?_)

theorem Keeps.openWindows {i : Nat} (hp : ∀ c, ¬p c) (h : Keeps p m a s) : Keeps p m a (Machine.State.openWindows s i) := by
  unfold Machine.State.openWindows
  try dsimp only
  iterate 25 (all_goals try first | with_reducible assumption | with_reducible exact Keeps.rfl _ | ((with_reducible refine Keeps.setCore ?_ ?_); exact ⟨Eq.refl _, Eq.refl _, Eq.refl _⟩) | ((with_reducible refine Keeps.setCoreRegs (hp _) ?_ ?_); exact Eq.refl _) | ((with_reducible refine Keeps.setCoreEmpty (hp _) ?_ ?_); exact Eq.refl _) | (with_reducible refine Keeps.foldl _ ?_ (fun u e => ?_)) | with_reducible refine Keeps.ite ?_ ?_ | split | dsimp only | refine Keeps.of_mk (Eq.refl _) (Eq.refl _) (Eq.refl _) (Eq.refl _) ?_)

theorem Keeps.enter {st : PwState} (h : Keeps p m a s) : Keeps p m a (Machine.State.enter s st) :=
  Keeps.of_mk (Eq.refl _) (Eq.refl _) (Eq.refl _) (Eq.refl _) h

theorem Keeps.clearEngine (hm : ¬m) (hp : ∀ c, ¬p c) (h : Keeps p m a s) : Keeps p m a (Machine.State.clearEngine s) := by
  unfold Machine.State.clearEngine
  try dsimp only
  iterate 25 (all_goals try first | with_reducible assumption | with_reducible exact Keeps.rfl _ | refine Keeps.cleared hm hp ?_ ?_ ?_ ?_ h <;> exact Eq.refl _ | with_reducible refine Keeps.scrubRow ?_ | with_reducible refine Keeps.ite ?_ ?_ | split | dsimp only | refine Keeps.of_mk (Eq.refl _) (Eq.refl _) (Eq.refl _) (Eq.refl _) ?_)

theorem Keeps.applyStored (h : Keeps p m a s) : Keeps p m a (Machine.State.applyStored s) :=
  Keeps.of_mk (Eq.refl _) (Eq.refl _) (Eq.refl _) (Eq.refl _) h

theorem Keeps.stopEngine (hm : ¬m) (hp : ∀ c, ¬p c) (h : Keeps p m a s) : Keeps p m a (Machine.State.stopEngine s) := by
  unfold Machine.State.stopEngine
  try dsimp only
  iterate 25 (all_goals try first | with_reducible assumption | with_reducible exact Keeps.rfl _ | with_reducible refine Keeps.clearEngine hm hp ?_ | with_reducible refine Keeps.ite ?_ ?_ | split | dsimp only | refine Keeps.of_mk (Eq.refl _) (Eq.refl _) (Eq.refl _) (Eq.refl _) ?_)

theorem Keeps.powerOn (hm : ¬m) (hp : ∀ c, ¬p c) (h : Keeps p m a s) : Keeps p m a (Machine.State.powerOn s) := by
  unfold Machine.State.powerOn
  try dsimp only
  iterate 25 (all_goals try first | with_reducible assumption | with_reducible exact Keeps.rfl _ | with_reducible refine Keeps.logEvent ?_ | with_reducible refine Keeps.enter ?_ | with_reducible refine Keeps.clearEngine hm hp ?_ | with_reducible refine Keeps.applyStored ?_ | with_reducible refine Keeps.ite ?_ ?_ | split | dsimp only | refine Keeps.of_mk (Eq.refl _) (Eq.refl _) (Eq.refl _) (Eq.refl _) ?_)

theorem Keeps.perstReset (hm : ¬m) (hp : ∀ c, ¬p c) (h : Keeps p m a s) : Keeps p m a (Machine.State.perstReset s) := by
  unfold Machine.State.perstReset
  try dsimp only
  iterate 25 (all_goals try first | with_reducible assumption | with_reducible exact Keeps.rfl _ | with_reducible refine Keeps.enter ?_ | with_reducible refine Keeps.clearEngine hm hp ?_ | with_reducible refine Keeps.applyStored ?_ | with_reducible refine Keeps.ite ?_ ?_ | split | dsimp only | refine Keeps.of_mk (Eq.refl _) (Eq.refl _) (Eq.refl _) (Eq.refl _) ?_)

theorem Keeps.hold {cause : Nat} (hm : ¬m) (hp : ∀ c, ¬p c) (h : Keeps p m a s) : Keeps p m a (Machine.State.hold s cause) := by
  unfold Machine.State.hold
  try dsimp only
  iterate 25 (all_goals try first | with_reducible assumption | with_reducible exact Keeps.rfl _ | with_reducible refine Keeps.enter ?_ | with_reducible refine Keeps.stopEngine hm hp ?_ | with_reducible refine Keeps.ite ?_ ?_ | split | dsimp only | refine Keeps.of_mk (Eq.refl _) (Eq.refl _) (Eq.refl _) (Eq.refl _) ?_)

theorem Keeps.recover {l : List Nat} {d : Damage} (h : Keeps p m a s) : Keeps p m a (Machine.State.recover s l d) := by
  unfold Machine.State.recover
  try dsimp only
  iterate 25 (all_goals try first | with_reducible assumption | with_reducible exact Keeps.rfl _ | with_reducible refine Keeps.recoverKeys ?_ | with_reducible refine Keeps.recoverFrom ?_ | (with_reducible refine Keeps.foldl _ ?_ (fun u e => ?_)) | with_reducible refine Keeps.ite ?_ ?_ | split | dsimp only | refine Keeps.of_mk (Eq.refl _) (Eq.refl _) (Eq.refl _) (Eq.refl _) ?_)

theorem Keeps.recoverKeys {i : Nat} (h : Keeps p m a s) : Keeps p m a (Machine.State.recoverKeys s i) := by
  unfold Machine.State.recoverKeys
  try dsimp only
  iterate 25 (all_goals try first | with_reducible assumption | with_reducible exact Keeps.rfl _ | with_reducible refine Keeps.ownerKeys ?_ | with_reducible refine Keeps.enrolKeys ?_ | (with_reducible refine Keeps.foldl _ ?_ (fun u e => ?_)) | with_reducible refine Keeps.ite ?_ ?_ | split | dsimp only | refine Keeps.of_mk (Eq.refl _) (Eq.refl _) (Eq.refl _) (Eq.refl _) ?_)

theorem Keeps.recoverFrom {turn : Nat} {c : Ckpt} (h : Keeps p m a s) : Keeps p m a (Machine.State.recoverFrom s turn c) := by
  unfold Machine.State.recoverFrom
  try dsimp only
  iterate 25 (all_goals try first | with_reducible assumption | with_reducible exact Keeps.rfl _ | with_reducible refine Keeps.recover ?_ | with_reducible refine Keeps.scrubRow ?_ | (with_reducible refine Keeps.foldl _ ?_ (fun u e => ?_)) | with_reducible refine Keeps.ite ?_ ?_ | split | dsimp only | refine Keeps.of_mk (Eq.refl _) (Eq.refl _) (Eq.refl _) (Eq.refl _) ?_)

theorem Keeps.startRecovery {a' : LinkInfo} {b : LinkInfo} {l : List Nat} {d : Damage} (h : Keeps p m a s) : Keeps p m a (Machine.State.startRecovery s a' b l d) := by
  unfold Machine.State.startRecovery
  try dsimp only
  iterate 25 (all_goals try first | with_reducible assumption | with_reducible exact Keeps.rfl _ | with_reducible refine Keeps.recover ?_ | with_reducible refine Keeps.enter ?_ | with_reducible refine Keeps.logEvent ?_ | with_reducible refine Keeps.endTest ?_ | (with_reducible refine Keeps.foldl _ ?_ (fun u e => ?_)) | with_reducible refine Keeps.ite ?_ ?_ | split | dsimp only | refine Keeps.of_mk (Eq.refl _) (Eq.refl _) (Eq.refl _) (Eq.refl _) ?_)

theorem Keeps.finishRecovery (hp : ∀ c, ¬p c) (h : Keeps p m a s) : Keeps p m a (Machine.State.finishRecovery s) := by
  unfold Machine.State.finishRecovery
  try dsimp only
  iterate 25 (all_goals try first | with_reducible assumption | with_reducible exact Keeps.rfl _ | with_reducible refine Keeps.setInst ?_ | with_reducible refine Keeps.openWindows hp ?_ | with_reducible refine Keeps.enter ?_ | with_reducible refine Keeps.reserveIngest ?_ | (with_reducible refine Keeps.foldl _ ?_ (fun u e => ?_)) | with_reducible refine Keeps.ite ?_ ?_ | split | dsimp only | refine Keeps.of_mk (Eq.refl _) (Eq.refl _) (Eq.refl _) (Eq.refl _) ?_)

theorem Keeps.svStop (hp : ∀ c, ¬p c) (h : Keeps p m a s) : Keeps p m a (Machine.State.svStop s) := by
  unfold Machine.State.svStop
  try dsimp only
  iterate 25 (all_goals try first | with_reducible assumption | with_reducible exact Keeps.rfl _ | with_reducible refine Keeps.dropJobs ?_ | ((with_reducible refine Keeps.setCore ?_ ?_); exact ⟨Eq.refl _, Eq.refl _, Eq.refl _⟩) | ((with_reducible refine Keeps.setCoreRegs (hp _) ?_ ?_); exact Eq.refl _) | ((with_reducible refine Keeps.setCoreEmpty (hp _) ?_ ?_); exact Eq.refl _) | with_reducible refine Keeps.ite ?_ ?_ | split | dsimp only | refine Keeps.of_mk (Eq.refl _) (Eq.refl _) (Eq.refl _) (Eq.refl _) ?_)

theorem Keeps.svReturn (hm : ¬m) (hp : ∀ c, ¬p c) (h : Keeps p m a s) : Keeps p m a (Machine.State.svReturn s) := by
  unfold Machine.State.svReturn
  try dsimp only
  iterate 25 (all_goals try first | with_reducible assumption | with_reducible exact Keeps.rfl _ | with_reducible refine Keeps.imageCheck hm hp ?_ | ((with_reducible refine Keeps.setCore ?_ ?_); exact ⟨Eq.refl _, Eq.refl _, Eq.refl _⟩) | ((with_reducible refine Keeps.setCoreRegs (hp _) ?_ ?_); exact Eq.refl _) | ((with_reducible refine Keeps.setCoreEmpty (hp _) ?_ ?_); exact Eq.refl _) | (with_reducible refine Keeps.foldl _ ?_ (fun u e => ?_)) | with_reducible refine Keeps.ite ?_ ?_ | split | dsimp only | refine Keeps.of_mk (Eq.refl _) (Eq.refl _) (Eq.refl _) (Eq.refl _) ?_)

theorem Keeps.violate {bit : Nat} (hm : ¬m) (hp : ∀ c, ¬p c) (h : Keeps p m a s) : Keeps p m a (Machine.State.violate s bit) := by
  unfold Machine.State.violate
  try dsimp only
  iterate 25 (all_goals try first | with_reducible assumption | with_reducible exact Keeps.rfl _ | with_reducible refine Keeps.hold hm hp ?_ | with_reducible refine Keeps.ite ?_ ?_ | split | dsimp only | refine Keeps.of_mk (Eq.refl _) (Eq.refl _) (Eq.refl _) (Eq.refl _) ?_)

theorem Keeps.vauxLoss (hm : ¬m) (hp : ∀ c, ¬p c) (h : Keeps p m a s) : Keeps p m a (Machine.vauxLoss s) := by
  unfold Machine.vauxLoss
  try dsimp only
  iterate 25 (all_goals try first | with_reducible assumption | with_reducible exact Keeps.rfl _ | with_reducible refine Keeps.stopEngine hm hp ?_ | with_reducible refine Keeps.ite ?_ ?_ | split | dsimp only | refine Keeps.of_mk (Eq.refl _) (Eq.refl _) (Eq.refl _) (Eq.refl _) ?_)

theorem Keeps.vauxStable (h : Keeps p m a s) : Keeps p m a (Machine.vauxStable s) := by
  unfold Machine.vauxStable
  try dsimp only
  iterate 25 (all_goals try first | with_reducible assumption | with_reducible exact Keeps.rfl _ | with_reducible refine Keeps.ite ?_ ?_ | split | dsimp only | refine Keeps.of_mk (Eq.refl _) (Eq.refl _) (Eq.refl _) (Eq.refl _) ?_)

theorem Keeps.startTrain (h : Keeps p m a s) : Keeps p m a (Machine.State.startTrain s) := by
  unfold Machine.State.startTrain
  try dsimp only
  iterate 25 (all_goals try first | with_reducible assumption | with_reducible exact Keeps.rfl _ | with_reducible refine Keeps.prepKeys ?_ | with_reducible refine Keeps.enter ?_ | with_reducible refine Keeps.ite ?_ ?_ | split | dsimp only | refine Keeps.of_mk (Eq.refl _) (Eq.refl _) (Eq.refl _) (Eq.refl _) ?_)

theorem Keeps.setQuiesce (h : Keeps p m a s) : Keeps p m a (Machine.setQuiesce s) := by
  unfold Machine.setQuiesce
  try dsimp only
  iterate 25 (all_goals try first | with_reducible assumption | with_reducible exact Keeps.rfl _ | with_reducible refine Keeps.dueSeal ?_ | (with_reducible refine Keeps.foldl _ ?_ (fun u e => ?_)) | with_reducible refine Keeps.ite ?_ ?_ | split | dsimp only | refine Keeps.of_mk (Eq.refl _) (Eq.refl _) (Eq.refl _) (Eq.refl _) ?_)

theorem Keeps.clearQuiesce (h : Keeps p m a s) : Keeps p m a (Machine.clearQuiesce s) := by
  unfold Machine.clearQuiesce
  try dsimp only
  iterate 25 (all_goals try first | with_reducible assumption | with_reducible exact Keeps.rfl _ | with_reducible refine Keeps.enter ?_ | with_reducible refine Keeps.ite ?_ ?_ | split | dsimp only | refine Keeps.of_mk (Eq.refl _) (Eq.refl _) (Eq.refl _) (Eq.refl _) ?_)

theorem Keeps.svReset (hp : ∀ c, ¬p c) (h : Keeps p m a s) : Keeps p m a (Machine.svReset s) := by
  unfold Machine.svReset
  try dsimp only
  iterate 25 (all_goals try first | with_reducible assumption | with_reducible exact Keeps.rfl _ | with_reducible refine Keeps.svStop hp ?_ | with_reducible refine Keeps.ite ?_ ?_ | split | dsimp only | refine Keeps.of_mk (Eq.refl _) (Eq.refl _) (Eq.refl _) (Eq.refl _) ?_)

theorem Keeps.setptEdges (h : Keeps p m a s) : Keeps p m a (Machine.State.setptEdges s) := by
  unfold Machine.State.setptEdges
  try dsimp only
  iterate 25 (all_goals try first | with_reducible assumption | with_reducible exact Keeps.rfl _ | with_reducible refine Keeps.icEdge ?_ | (with_reducible refine Keeps.foldl _ ?_ (fun u e => ?_)) | with_reducible refine Keeps.ite ?_ ?_ | split | dsimp only | refine Keeps.of_mk (Eq.refl _) (Eq.refl _) (Eq.refl _) (Eq.refl _) ?_)

theorem Keeps.updateSetpoint (h : Keeps p m a s) : Keeps p m a (Machine.State.updateSetpoint s) := by
  unfold Machine.State.updateSetpoint
  try dsimp only
  iterate 25 (all_goals try first | with_reducible assumption | with_reducible exact Keeps.rfl _ | with_reducible refine Keeps.setptEdges ?_ | with_reducible refine Keeps.ite ?_ ?_ | split | dsimp only | refine Keeps.of_mk (Eq.refl _) (Eq.refl _) (Eq.refl _) (Eq.refl _) ?_)

theorem Keeps.setptWrite {v : Nat} (h : Keeps p m a s) : Keeps p m a (Machine.setptWrite s v) := by
  unfold Machine.setptWrite
  try dsimp only
  iterate 25 (all_goals try first | with_reducible assumption | with_reducible exact Keeps.rfl _ | with_reducible refine Keeps.updateSetpoint ?_ | with_reducible refine Keeps.ite ?_ ?_ | split | dsimp only | refine Keeps.of_mk (Eq.refl _) (Eq.refl _) (Eq.refl _) (Eq.refl _) ?_)

theorem Keeps.pwByte {k' : Nat} {b : Byte} (hp : ∀ c, ¬p c) (h : Keeps p m a s) : Keeps p m a (Machine.State.pwByte s k' b) := by
  unfold Machine.State.pwByte
  try dsimp only
  iterate 25 (all_goals try first | with_reducible assumption | with_reducible exact Keeps.rfl _ | with_reducible refine Keeps.setQuiesce ?_ | with_reducible refine Keeps.clearQuiesce ?_ | with_reducible refine Keeps.svReset hp ?_ | with_reducible refine Keeps.setptWrite ?_ | with_reducible refine Keeps.ite ?_ ?_ | split | dsimp only | refine Keeps.of_mk (Eq.refl _) (Eq.refl _) (Eq.refl _) (Eq.refl _) ?_)

theorem Keeps.pwWrite {off : Nat} {v : W32} (hp : ∀ c, ¬p c) (h : Keeps p m a s) : Keeps p m a (Machine.State.pwWrite s off v) := by
  unfold Machine.State.pwWrite
  try dsimp only
  iterate 25 (all_goals try first | with_reducible assumption | with_reducible exact Keeps.rfl _ | with_reducible refine Keeps.pwByte hp ?_ | (with_reducible refine Keeps.foldl _ ?_ (fun u e => ?_)) | with_reducible refine Keeps.ite ?_ ?_ | split | dsimp only | refine Keeps.of_mk (Eq.refl _) (Eq.refl _) (Eq.refl _) (Eq.refl _) ?_)

theorem Keeps.setLink {p' : HostPort} {l : Option LinkInfo} (h : Keeps p m a s) : Keeps p m a (Machine.State.setLink s p' l) := by
  unfold Machine.State.setLink
  try dsimp only
  iterate 25 (all_goals try first | with_reducible assumption | with_reducible exact Keeps.rfl _ | with_reducible refine Keeps.ite ?_ ?_ | split | dsimp only | refine Keeps.of_mk (Eq.refl _) (Eq.refl _) (Eq.refl _) (Eq.refl _) ?_)

theorem Keeps.resetFn {f : Fn} (h : Keeps p m a s) : Keeps p m a (Machine.State.resetFn s f) :=
  Keeps.of_mk (Eq.refl _) (Eq.refl _) (Eq.refl _) (Eq.refl _) h

theorem Keeps.vfFlr {i : Nat} (hm : ¬m) (h : Keeps p m a s) : Keeps p m a (Machine.State.vfFlr s i) := by
  unfold Machine.State.vfFlr
  try dsimp only
  iterate 25 (all_goals try first | with_reducible assumption | with_reducible exact Keeps.rfl _ | with_reducible refine Keeps.svEdge ?_ | with_reducible refine Keeps.flr hm ?_ | with_reducible refine Keeps.resetFn ?_ | with_reducible refine Keeps.ite ?_ ?_ | split | dsimp only | refine Keeps.of_mk (Eq.refl _) (Eq.refl _) (Eq.refl _) (Eq.refl _) ?_)

theorem Keeps.pfFlr {p' : HostPort} (hm : ¬m) (h : Keeps p m a s) : Keeps p m a (Machine.State.pfFlr s p') := by
  unfold Machine.State.pfFlr
  try dsimp only
  iterate 25 (all_goals try first | with_reducible assumption | with_reducible exact Keeps.rfl _ | with_reducible refine Keeps.resetFn ?_ | with_reducible refine Keeps.vfFlr hm ?_ | (with_reducible refine Keeps.foldl _ ?_ (fun u e => ?_)) | with_reducible refine Keeps.ite ?_ ?_ | split | dsimp only | refine Keeps.of_mk (Eq.refl _) (Eq.refl _) (Eq.refl _) (Eq.refl _) ?_)

theorem Keeps.mbGo (h : Keeps p m a s) : Keeps p m a (Machine.mbGo s) := by
  unfold Machine.mbGo
  try dsimp only
  iterate 25 (all_goals try first | with_reducible assumption | with_reducible exact Keeps.rfl _ | with_reducible refine Keeps.svEdge ?_ | with_reducible refine Keeps.pauseTest ?_ | with_reducible refine Keeps.ite ?_ ?_ | split | dsimp only | refine Keeps.of_mk (Eq.refl _) (Eq.refl _) (Eq.refl _) (Eq.refl _) ?_)

theorem Keeps.mbEnd {st : W16} (h : Keeps p m a s) : Keeps p m a (Machine.State.mbEnd s st) := by
  unfold Machine.State.mbEnd
  try dsimp only
  iterate 25 (all_goals try first | with_reducible assumption | with_reducible exact Keeps.rfl _ | with_reducible refine Keeps.ite ?_ ?_ | split | dsimp only | refine Keeps.of_mk (Eq.refl _) (Eq.refl _) (Eq.refl _) (Eq.refl _) ?_)

theorem Keeps.createOwner {i : Nat} (h : Keeps p m a s) : Keeps p m a (Machine.State.createOwner s i) := by
  unfold Machine.State.createOwner
  try dsimp only
  iterate 25 (all_goals try first | with_reducible assumption | with_reducible exact Keeps.rfl _ | with_reducible refine Keeps.setInst ?_ | with_reducible refine Keeps.setOwner ?_ | with_reducible refine Keeps.ownerKeys ?_ | with_reducible refine Keeps.writeHeaders ?_ | with_reducible refine Keeps.reserveIngest ?_ | with_reducible refine Keeps.ite ?_ ?_ | split | dsimp only | refine Keeps.of_mk (Eq.refl _) (Eq.refl _) (Eq.refl _) (Eq.refl _) ?_)

theorem Keeps.createAll {n : Nat} (hp : ∀ c, ¬p c) (h : Keeps p m a s) : Keeps p m a (Machine.State.createAll s n) := by
  unfold Machine.State.createAll
  try dsimp only
  iterate 25 (all_goals try first | with_reducible assumption | with_reducible exact Keeps.rfl _ | with_reducible refine Keeps.openWindows hp ?_ | with_reducible refine Keeps.createOwner ?_ | with_reducible refine Keeps.checkpoint ?_ | (with_reducible refine Keeps.foldl _ ?_ (fun u e => ?_)) | with_reducible refine Keeps.ite ?_ ?_ | split | dsimp only | refine Keeps.of_mk (Eq.refl _) (Eq.refl _) (Eq.refl _) (Eq.refl _) ?_)

theorem Keeps.destroyOwner {i : Nat} (hm : ¬m) (h : Keeps p m a s) : Keeps p m a (Machine.State.destroyOwner s i) := by
  unfold Machine.State.destroyOwner
  try dsimp only
  iterate 25 (all_goals try first | with_reducible assumption | with_reducible exact Keeps.rfl _ | with_reducible refine Keeps.discardAll hm ?_ | with_reducible refine Keeps.closePorts hm ?_ | with_reducible refine Keeps.ite ?_ ?_ | split | dsimp only | refine Keeps.of_mk (Eq.refl _) (Eq.refl _) (Eq.refl _) (Eq.refl _) ?_)

theorem Keeps.destroyAll (hm : ¬m) (h : Keeps p m a s) : Keeps p m a (Machine.State.destroyAll s) := by
  unfold Machine.State.destroyAll
  try dsimp only
  iterate 25 (all_goals try first | with_reducible assumption | with_reducible exact Keeps.rfl _ | with_reducible refine Keeps.checkpoint ?_ | with_reducible refine Keeps.destroyOwner hm ?_ | (with_reducible refine Keeps.foldl _ ?_ (fun u e => ?_)) | with_reducible refine Keeps.ite ?_ ?_ | split | dsimp only | refine Keeps.of_mk (Eq.refl _) (Eq.refl _) (Eq.refl _) (Eq.refl _) ?_)

theorem Keeps.ringSet {i : Nat} {b : List Byte} (h : Keeps p m a s) : Keeps p m a (Machine.State.ringSet s i b) := by
  unfold Machine.State.ringSet
  try dsimp only
  iterate 25 (all_goals try first | with_reducible assumption | with_reducible exact Keeps.rfl _ | with_reducible refine Keeps.modInst ?_ | with_reducible refine Keeps.hostWrite ?_ | with_reducible refine Keeps.ite ?_ ?_ | split | dsimp only | refine Keeps.of_mk (Eq.refl _) (Eq.refl _) (Eq.refl _) (Eq.refl _) ?_)

theorem Keeps.mbReply {r : MbReq} {st : W16} (h : Keeps p m a s) : Keeps p m a (Machine.State.mbReply s r st) := by
  unfold Machine.State.mbReply
  try dsimp only
  iterate 25 (all_goals try first | with_reducible assumption | with_reducible exact Keeps.rfl _ | with_reducible refine Keeps.signal ?_ | with_reducible refine Keeps.modInst ?_ | with_reducible refine Keeps.ite ?_ ?_ | split | dsimp only | refine Keeps.of_mk (Eq.refl _) (Eq.refl _) (Eq.refl _) (Eq.refl _) ?_)

theorem Keeps.cqMessage {i : Nat} (h : Keeps p m a s) : Keeps p m a (Machine.State.cqMessage s i) := by
  unfold Machine.State.cqMessage
  try dsimp only
  iterate 25 (all_goals try first | with_reducible assumption | with_reducible exact Keeps.rfl _ | with_reducible refine Keeps.modInst ?_ | with_reducible refine Keeps.signal ?_ | with_reducible refine Keeps.ite ?_ ?_ | split | dsimp only | refine Keeps.of_mk (Eq.refl _) (Eq.refl _) (Eq.refl _) (Eq.refl _) ?_)

theorem Keeps.moderate {i : Nat} (h : Keeps p m a s) : Keeps p m a (Machine.State.moderate s i) := by
  unfold Machine.State.moderate
  try dsimp only
  iterate 25 (all_goals try first | with_reducible assumption | with_reducible exact Keeps.rfl _ | with_reducible refine Keeps.setInst ?_ | with_reducible refine Keeps.cqMessage ?_ | with_reducible refine Keeps.ite ?_ ?_ | split | dsimp only | refine Keeps.of_mk (Eq.refl _) (Eq.refl _) (Eq.refl _) (Eq.refl _) ?_)

theorem Keeps.putCqe {i : Nat} {c : Cqe} (hm : ¬m) (h : Keeps p m a s) : Keeps p m a (Machine.State.putCqe s i c) := by
  unfold Machine.State.putCqe
  try dsimp only
  iterate 25 (all_goals try first | with_reducible assumption | with_reducible exact Keeps.rfl _ | with_reducible refine Keeps.setInst ?_ | with_reducible refine Keeps.addAct ?_ | with_reducible refine Keeps.releaseCids hm ?_ | with_reducible refine Keeps.moderate ?_ | with_reducible refine Keeps.hostWrite ?_ | with_reducible refine Keeps.ite ?_ ?_ | split | dsimp only | refine Keeps.of_mk (Eq.refl _) (Eq.refl _) (Eq.refl _) (Eq.refl _) ?_)

theorem Keeps.drainCulvert {n i} (hm : ¬m) (h : Keeps p m a s) : Keeps p m a (State.drainCulvert n s i) := by
  induction n generalizing s with
  | zero => exact h
  | succ n ih =>
    simp only [State.drainCulvert]
    split
    · exact h
    · split
      · exact h
      · exact ih (Keeps.putCqe hm (Keeps.setInst h))

theorem Keeps.cqFills {i : Nat} (h : Keeps p m a s) : Keeps p m a (Machine.State.cqFills s i) := by
  unfold Machine.State.cqFills
  try dsimp only
  iterate 25 (all_goals try first | with_reducible assumption | with_reducible exact Keeps.rfl _ | with_reducible refine Keeps.modInst ?_ | with_reducible refine Keeps.vfEvent ?_ | (with_reducible refine Keeps.foldl _ ?_ (fun u e => ?_)) | with_reducible refine Keeps.ite ?_ ?_ | split | dsimp only | refine Keeps.of_mk (Eq.refl _) (Eq.refl _) (Eq.refl _) (Eq.refl _) ?_)

theorem Keeps.drainHeld {n i} (hm : ¬m) (h : Keeps p m a s) : Keeps p m a (State.drainHeld n s i) := by
  induction n generalizing s with
  | zero => exact h
  | succ n ih =>
    simp only [State.drainHeld]
    split
    · exact Keeps.modInst (Keeps.drainCulvert hm h)
    · exact ih (Keeps.modInst (Keeps.drainCulvert hm h))

theorem Keeps.drain {i : Nat} (hm : ¬m) (h : Keeps p m a s) : Keeps p m a (Machine.State.drain s i) := by
  unfold Machine.State.drain
  try dsimp only
  iterate 25 (all_goals try first | with_reducible assumption | with_reducible exact Keeps.rfl _ | with_reducible refine Keeps.modInst ?_ | with_reducible refine Keeps.settleNoCore hm ?_ | with_reducible refine Keeps.drainHeld hm ?_ | with_reducible refine Keeps.cqFills ?_ | with_reducible refine Keeps.ite ?_ ?_ | split | dsimp only | refine Keeps.of_mk (Eq.refl _) (Eq.refl _) (Eq.refl _) (Eq.refl _) ?_)

theorem Keeps.completionWrite {i : Nat} (hm : ¬m) (h : Keeps p m a s) : Keeps p m a (Machine.completionWrite s i) := by
  unfold Machine.completionWrite
  try dsimp only
  iterate 25 (all_goals try first | with_reducible assumption | with_reducible exact Keeps.rfl _ | with_reducible refine Keeps.setInst ?_ | with_reducible refine Keeps.vfEvent ?_ | with_reducible refine Keeps.settleNoCore hm ?_ | with_reducible refine Keeps.putCqe hm ?_ | with_reducible refine Keeps.cqFills ?_ | with_reducible refine Keeps.ite ?_ ?_ | split | dsimp only | refine Keeps.of_mk (Eq.refl _) (Eq.refl _) (Eq.refl _) (Eq.refl _) ?_)

theorem Keeps.doorbell {i : Nat} (h : Keeps p m a s) : Keeps p m a (Machine.doorbell s i) := by
  unfold Machine.doorbell
  try dsimp only
  iterate 25 (all_goals try first | with_reducible assumption | with_reducible exact Keeps.rfl _ | with_reducible refine Keeps.modInst ?_ | with_reducible refine Keeps.ite ?_ ?_ | split | dsimp only | refine Keeps.of_mk (Eq.refl _) (Eq.refl _) (Eq.refl _) (Eq.refl _) ?_)

theorem Keeps.readSqPi {i : Nat} {sqPi : W32} (h : Keeps p m a s) : Keeps p m a (Machine.State.readSqPi s i sqPi) := by
  unfold Machine.State.readSqPi
  try dsimp only
  iterate 25 (all_goals try first | with_reducible assumption | with_reducible exact Keeps.rfl _ | with_reducible refine Keeps.setInst ?_ | with_reducible refine Keeps.vfEvent ?_ | with_reducible refine Keeps.ite ?_ ?_ | split | dsimp only | refine Keeps.of_mk (Eq.refl _) (Eq.refl _) (Eq.refl _) (Eq.refl _) ?_)

theorem Keeps.readCqCi {i : Nat} {cqCi : W32} (hm : ¬m) (h : Keeps p m a s) : Keeps p m a (Machine.State.readCqCi s i cqCi) := by
  unfold Machine.State.readCqCi
  try dsimp only
  iterate 25 (all_goals try first | with_reducible assumption | with_reducible exact Keeps.rfl _ | with_reducible refine Keeps.setInst ?_ | with_reducible refine Keeps.vfEvent ?_ | with_reducible refine Keeps.drain hm ?_ | with_reducible refine Keeps.ite ?_ ?_ | split | dsimp only | refine Keeps.of_mk (Eq.refl _) (Eq.refl _) (Eq.refl _) (Eq.refl _) ?_)

theorem Keeps.indexBlockRead {i : Nat} {sqPi : W32} {cqCi : W32} (hm : ¬m) (h : Keeps p m a s) : Keeps p m a (Machine.indexBlockRead s i sqPi cqCi) := by
  unfold Machine.indexBlockRead
  try dsimp only
  iterate 25 (all_goals try first | with_reducible assumption | with_reducible exact Keeps.rfl _ | with_reducible refine Keeps.setInst ?_ | with_reducible refine Keeps.addAct ?_ | with_reducible refine Keeps.readSqPi ?_ | with_reducible refine Keeps.readCqCi hm ?_ | with_reducible refine Keeps.ite ?_ ?_ | split | dsimp only | refine Keeps.of_mk (Eq.refl _) (Eq.refl _) (Eq.refl _) (Eq.refl _) ?_)

theorem Keeps.cqFullRecheck {i : Nat} {cqCi : W32} (hm : ¬m) (h : Keeps p m a s) : Keeps p m a (Machine.cqFullRecheck s i cqCi) := by
  unfold Machine.cqFullRecheck
  try dsimp only
  iterate 25 (all_goals try first | with_reducible assumption | with_reducible exact Keeps.rfl _ | with_reducible refine Keeps.addAct ?_ | with_reducible refine Keeps.readCqCi hm ?_ | with_reducible refine Keeps.ite ?_ ?_ | split | dsimp only | refine Keeps.of_mk (Eq.refl _) (Eq.refl _) (Eq.refl _) (Eq.refl _) ?_)

theorem Keeps.sqFetch {i : Nat} {entries : List W512} (hm : ¬m) (h : Keeps p m a s) : Keeps p m a (Machine.sqFetch s i entries) := by
  unfold Machine.sqFetch
  try dsimp only
  iterate 25 (all_goals try first | with_reducible assumption | with_reducible exact Keeps.rfl _ | with_reducible refine Keeps.modInst ?_ | with_reducible refine Keeps.addAct ?_ | with_reducible refine Keeps.settleAborts hm ?_ | with_reducible refine Keeps.pauseTest ?_ | with_reducible refine Keeps.hostWrite ?_ | (with_reducible refine Keeps.foldl _ ?_ (fun u e => ?_)) | with_reducible refine Keeps.ite ?_ ?_ | split | dsimp only | refine Keeps.of_mk (Eq.refl _) (Eq.refl _) (Eq.refl _) (Eq.refl _) ?_)

theorem Keeps.writeUsed {q : Query} (h : Keeps p m a s) : Keeps p m a (Machine.State.writeUsed s q) := by
  unfold Machine.State.writeUsed
  try dsimp only
  iterate 25 (all_goals try first | with_reducible assumption | with_reducible exact Keeps.rfl _ | with_reducible refine Keeps.hostWrite ?_ | with_reducible refine Keeps.ite ?_ ?_ | split | dsimp only | refine Keeps.of_mk (Eq.refl _) (Eq.refl _) (Eq.refl _) (Eq.refl _) ?_)

theorem Keeps.putUnit {ctx : Nat} {q : Query} {u : List Byte} (h : Keeps p m a s) : Keeps p m a (Machine.State.putUnit s ctx q u) := by
  unfold Machine.State.putUnit
  try dsimp only
  iterate 25 (all_goals try first | with_reducible assumption | with_reducible exact Keeps.rfl _ | with_reducible refine Keeps.setQuery ?_ | with_reducible refine Keeps.addAct ?_ | with_reducible refine Keeps.hostWrite ?_ | with_reducible refine Keeps.ite ?_ ?_ | split | dsimp only | refine Keeps.of_mk (Eq.refl _) (Eq.refl _) (Eq.refl _) (Eq.refl _) ?_)

theorem Keeps.placeUnit_some {ctx : Nat} {links : List HostBuf} {u : List Byte} (hm : ¬m)  (e : (Machine.State.placeUnit s ctx links u) = some t) (h : Keeps p m a s) : Keeps p m a t := by
  unfold Machine.State.placeUnit at e
  try dsimp only at e
  repeat' split at e
  all_goals first | (cases e; done) | skip
  all_goals (try cases e)
  iterate 25 (all_goals try first | with_reducible assumption | with_reducible exact Keeps.rfl _ | with_reducible refine Keeps.setQuery ?_ | with_reducible refine Keeps.failQuery hm ?_ | with_reducible refine Keeps.writeUsed ?_ | with_reducible refine Keeps.putUnit ?_ | with_reducible refine Keeps.ite ?_ ?_ | split | dsimp only | refine Keeps.of_mk (Eq.refl _) (Eq.refl _) (Eq.refl _) (Eq.refl _) ?_)

theorem Keeps.placeFrames_some {ctx links n raw x} (hm : ¬m) (e : State.placeFrames ctx links n s raw = some (t, x)) (h : Keeps p m a s) : Keeps p m a t := by
  induction n generalizing s raw with
  | zero => cases e; exact h
  | succ n ih =>
    simp only [State.placeFrames] at e
    split at e
    · cases e; exact h
    · split at e
      · cases e
      · exact ih e (Keeps.placeUnit_some hm (by assumption) h)

theorem Keeps.setRaw {ctx : Nat} {raw : List Byte} (h : Keeps p m a s) : Keeps p m a (Machine.State.setRaw s ctx raw) := by
  unfold Machine.State.setRaw
  try dsimp only
  iterate 25 (all_goals try first | with_reducible assumption | with_reducible exact Keeps.rfl _ | with_reducible refine Keeps.setQuery ?_ | with_reducible refine Keeps.ite ?_ ?_ | split | dsimp only | refine Keeps.of_mk (Eq.refl _) (Eq.refl _) (Eq.refl _) (Eq.refl _) ?_)

theorem Keeps.placeRange_some {ctx : Nat} {q : Query} {links : List HostBuf} {d : List Byte} (hm : ¬m)  (e : (Machine.State.placeRange s ctx q links d) = some t) (h : Keeps p m a s) : Keeps p m a t := by
  unfold Machine.State.placeRange at e
  try dsimp only at e
  repeat' split at e
  all_goals first | (cases e; done) | skip
  all_goals (try cases e)
  iterate 25 (all_goals try first | with_reducible assumption | with_reducible exact Keeps.rfl _ | refine Keeps.map_some (by assumption) (fun b k => ?_) | with_reducible refine Keeps.placeUnit_some hm (by assumption) ?_ | with_reducible refine Keeps.placeFrames_some hm (by assumption) ?_ | with_reducible refine Keeps.setRaw ?_ | with_reducible refine Keeps.ite ?_ ?_ | split | dsimp only | refine Keeps.of_mk (Eq.refl _) (Eq.refl _) (Eq.refl _) (Eq.refl _) ?_)

theorem Keeps.resultWrite {ctx : Nat} {links : List HostBuf} (hm : ¬m) (h : Keeps p m a s) : Keeps p m a (Machine.resultWrite s ctx links) := by
  unfold Machine.resultWrite
  try dsimp only
  iterate 25 (all_goals try first | with_reducible assumption | with_reducible exact Keeps.rfl _ | refine Keeps.map_some (by assumption) (fun b k => ?_) | with_reducible refine Keeps.setQuery ?_ | with_reducible refine Keeps.readMem ?_ | with_reducible refine Keeps.readMem_pair (by assumption) ?_ | with_reducible refine Keeps.setFlume ?_ | with_reducible refine Keeps.failQuery hm ?_ | with_reducible refine Keeps.placeUnit_some hm (by assumption) ?_ | with_reducible refine Keeps.setRaw ?_ | with_reducible refine Keeps.placeRange_some hm (by assumption) ?_ | with_reducible refine Keeps.ite ?_ ?_ | split | dsimp only | refine Keeps.of_mk (Eq.refl _) (Eq.refl _) (Eq.refl _) (Eq.refl _) ?_)

theorem Keeps.queryComplete {ctx : Nat} (hm : ¬m) (h : Keeps p m a s) : Keeps p m a (Machine.queryComplete s ctx) := by
  unfold Machine.queryComplete
  try dsimp only
  iterate 25 (all_goals try first | with_reducible assumption | with_reducible exact Keeps.rfl _ | with_reducible refine Keeps.setQuery ?_ | with_reducible refine Keeps.settleNoCore hm ?_ | with_reducible refine Keeps.endQuery hm ?_ | with_reducible refine Keeps.writeUsed ?_ | with_reducible refine Keeps.ite ?_ ?_ | split | dsimp only | refine Keeps.of_mk (Eq.refl _) (Eq.refl _) (Eq.refl _) (Eq.refl _) ?_)

theorem Keeps.nextStart_some {x y} (e : s.nextStart = some (x, y, t)) (h : Keeps p m a s) : Keeps p m a t := by
  obtain ⟨i, -, k⟩ := List.exists_of_findSome?_eq_some e
  revert k
  dsimp only
  split
  · intro k; cases k
  · split
    · intro k; cases k
    · intro k
      cases k
      exact Keeps.setInst (Keeps.of_mk (Eq.refl _) (Eq.refl _) (Eq.refl _) (Eq.refl _) h)

theorem Keeps.startCmd {opc f} (hm : ¬m) (hf : ∀ u i c, Keeps p m u (f u i c)) (h : Keeps p m a s) : Keeps p m a (Machine.startCmd s opc f) := by
  unfold Machine.startCmd
  split
  · exact h
  · have k := Keeps.nextStart_some (by assumption) h
    split
    · exact h
    · split
      · exact Keeps.complete hm k
      · exact k.trans (hf _ _ _)

theorem Keeps.setWork {i : Nat} {no : Nat} {w : Work} (h : Keeps p m a s) : Keeps p m a (Machine.State.setWork s i no w) :=
  Keeps.of_mk (Eq.refl _) (Eq.refl _) (Eq.refl _) (Eq.refl _) h

theorem Keeps.abortTarget {i : Nat} {t' : Cmd} (hm : ¬m) (h : Keeps p m a s) : Keeps p m a (Machine.State.abortTarget s i t').1 := by
  unfold Machine.State.abortTarget
  try dsimp only
  iterate 25 (all_goals try first | with_reducible assumption | with_reducible exact Keeps.rfl _ | with_reducible refine Keeps.failQuery hm ?_ | with_reducible refine Keeps.complete hm ?_ | with_reducible refine Keeps.ite ?_ ?_ | split | dsimp only | refine Keeps.of_mk (Eq.refl _) (Eq.refl _) (Eq.refl _) (Eq.refl _) ?_)

theorem Keeps.abortTarget_pair {i : Nat} {t' : Cmd} (hm : ¬m) {x1} (e : (Machine.State.abortTarget s i t') = (t, x1)) (h : Keeps p m a s) : Keeps p m a t := by
  have k : Keeps p m a (Machine.State.abortTarget s i t').1 := Keeps.abortTarget hm h
  rw [e] at k
  exact k

theorem Keeps.abortOn {i : Nat} {c : Cmd} (hm : ¬m) (h : Keeps p m a s) : Keeps p m a (Machine.State.abortOn s i c) := by
  unfold Machine.State.abortOn
  try dsimp only
  iterate 25 (all_goals try first | with_reducible assumption | with_reducible exact Keeps.rfl _ | with_reducible refine Keeps.modInst ?_ | with_reducible refine Keeps.settleAborts hm ?_ | with_reducible refine Keeps.complete hm ?_ | with_reducible refine Keeps.abortTarget hm ?_ | with_reducible refine Keeps.abortTarget_pair hm (by assumption) ?_ | with_reducible refine Keeps.ite ?_ ?_ | split | dsimp only | refine Keeps.of_mk (Eq.refl _) (Eq.refl _) (Eq.refl _) (Eq.refl _) ?_)

theorem Keeps.abortNext {i : Nat} (hm : ¬m) (h : Keeps p m a s) : Keeps p m a (Machine.abortNext s i) := by
  unfold Machine.abortNext
  try dsimp only
  iterate 25 (all_goals try first | with_reducible assumption | with_reducible exact Keeps.rfl _ | with_reducible refine Keeps.settleNoCore hm ?_ | with_reducible refine Keeps.abortOn hm ?_ | with_reducible refine Keeps.ite ?_ ?_ | split | dsimp only | refine Keeps.of_mk (Eq.refl _) (Eq.refl _) (Eq.refl _) (Eq.refl _) ?_)

theorem Keeps.attribute {m' : Sensors} (h : Keeps p m a s) : Keeps p m a (Machine.State.attribute s m') :=
  Keeps.of_mk (Eq.refl _) (Eq.refl _) (Eq.refl _) (Eq.refl _) h

theorem Keeps.noteTemps {m' : Sensors} (h : Keeps p m a s) : Keeps p m a (Machine.State.noteTemps s m') := by
  unfold Machine.State.noteTemps
  try dsimp only
  iterate 25 (all_goals try first | with_reducible assumption | with_reducible exact Keeps.rfl _ | (with_reducible refine Keeps.foldl _ ?_ (fun u e => ?_)) | with_reducible refine Keeps.ite ?_ ?_ | split | dsimp only | refine Keeps.of_mk (Eq.refl _) (Eq.refl _) (Eq.refl _) (Eq.refl _) ?_)

theorem Keeps.notePlate {m' : Sensors} (h : Keeps p m a s) : Keeps p m a (Machine.State.notePlate s m') := by
  unfold Machine.State.notePlate
  try dsimp only
  iterate 25 (all_goals try first | with_reducible assumption | with_reducible exact Keeps.rfl _ | (with_reducible refine Keeps.foldl _ ?_ (fun u e => ?_)) | with_reducible refine Keeps.ite ?_ ?_ | split | dsimp only | refine Keeps.of_mk (Eq.refl _) (Eq.refl _) (Eq.refl _) (Eq.refl _) ?_)

theorem Keeps.lanternSample {m' : Sensors} (h : Keeps p m a s) : Keeps p m a (Machine.lanternSample s m') := by
  unfold Machine.lanternSample
  try dsimp only
  iterate 25 (all_goals try first | with_reducible assumption | with_reducible exact Keeps.rfl _ | with_reducible refine Keeps.hold hm hp ?_ | with_reducible refine Keeps.attribute ?_ | with_reducible refine Keeps.noteTemps ?_ | (with_reducible refine Keeps.foldl _ ?_ (fun u e => ?_)) | with_reducible refine Keeps.ite ?_ ?_ | split | dsimp only | refine Keeps.of_mk (Eq.refl _) (Eq.refl _) (Eq.refl _) (Eq.refl _) ?_)

theorem Keeps.paceWrite {v : W32} (h : Keeps p m a s) : Keeps p m a (Machine.paceWrite s v) := by
  unfold Machine.paceWrite
  try dsimp only
  iterate 25 (all_goals try first | with_reducible assumption | with_reducible exact Keeps.rfl _ | with_reducible refine Keeps.ite ?_ ?_ | split | dsimp only | refine Keeps.of_mk (Eq.refl _) (Eq.refl _) (Eq.refl _) (Eq.refl _) ?_)

theorem Keeps.healthPage {i : Nat} (h : Keeps p m a s) : Keeps p m a (Machine.State.healthPage s i).2 := by
  unfold Machine.State.healthPage
  try dsimp only
  iterate 25 (all_goals try first | with_reducible assumption | with_reducible exact Keeps.rfl _ | with_reducible refine Keeps.free ?_ | with_reducible refine Keeps.free_pair (by assumption) ?_ | with_reducible refine Keeps.ite ?_ ?_ | split | dsimp only | refine Keeps.of_mk (Eq.refl _) (Eq.refl _) (Eq.refl _) (Eq.refl _) ?_)

theorem Keeps.healthPage_pair {i : Nat} {x0} (e : (Machine.State.healthPage s i) = (x0, t)) (h : Keeps p m a s) : Keeps p m a t := by
  have k : Keeps p m a (Machine.State.healthPage s i).2 := Keeps.healthPage h
  rw [e] at k
  exact k

theorem Keeps.logPage_some {i : Nat} {page : Nat} {x0} (e : (Machine.State.logPage s i page) = some (x0, t)) (h : Keeps p m a s) : Keeps p m a t := by
  unfold Machine.State.logPage at e
  try dsimp only at e
  repeat' split at e
  all_goals first | (cases e; done) | skip
  all_goals (try cases e)
  iterate 25 (all_goals try first | with_reducible assumption | with_reducible exact Keeps.rfl _ | refine Keeps.healthPage_pair (Option.some.inj (by assumption)) ?_ | refine Keeps.healthPage_pair hm (Option.some.inj (by assumption)) ?_ | with_reducible refine Keeps.healthPage ?_ | with_reducible refine Keeps.healthPage_pair (by assumption) ?_ | with_reducible refine Keeps.ite ?_ ?_ | split | dsimp only | refine Keeps.of_mk (Eq.refl _) (Eq.refl _) (Eq.refl _) (Eq.refl _) ?_)

theorem Keeps.logRead {i : Nat} {c : Cmd} (hm : ¬m) (h : Keeps p m a s) : Keeps p m a (Machine.logRead s i c) := by
  unfold Machine.logRead
  try dsimp only
  iterate 25 (all_goals try first | with_reducible assumption | with_reducible exact Keeps.rfl _ | with_reducible refine Keeps.addAct ?_ | with_reducible refine Keeps.complete hm ?_ | with_reducible refine Keeps.logPage_some (by assumption) ?_ | with_reducible refine Keeps.hostWrite ?_ | with_reducible refine Keeps.ite ?_ ?_ | split | dsimp only | refine Keeps.of_mk (Eq.refl _) (Eq.refl _) (Eq.refl _) (Eq.refl _) ?_)

theorem Keeps.reserveAppend_some {i : Nat} {len : Nat} {ncol : Nat} {stride : Nat} {x0} {x1} (e : (Machine.State.reserveAppend s i len ncol stride) = some (x0, x1, t)) (h : Keeps p m a s) : Keeps p m a t := by
  unfold Machine.State.reserveAppend at e
  try dsimp only at e
  repeat' split at e
  all_goals first | (cases e; done) | skip
  all_goals (try cases e)
  iterate 25 (all_goals try first | with_reducible assumption | with_reducible exact Keeps.rfl _ | with_reducible refine Keeps.room_some (by assumption) ?_ | with_reducible refine Keeps.ite ?_ ?_ | split | dsimp only | refine Keeps.of_mk (Eq.refl _) (Eq.refl _) (Eq.refl _) (Eq.refl _) ?_)

theorem Keeps.holdTag {c : Cmd} (h : Keeps p m a s) : Keeps p m a (Machine.State.holdTag s c) := by
  unfold Machine.State.holdTag
  try dsimp only
  iterate 25 (all_goals try first | with_reducible assumption | with_reducible exact Keeps.rfl _ | with_reducible refine Keeps.setPort ?_ | with_reducible refine Keeps.ite ?_ ?_ | split | dsimp only | refine Keeps.of_mk (Eq.refl _) (Eq.refl _) (Eq.refl _) (Eq.refl _) ?_)

theorem Keeps.startAppend {descs : List W128} {i : Nat} {c : Cmd} (hm : ¬m) (h : Keeps p m a s) : Keeps p m a (Machine.startAppend descs s i c) := by
  unfold Machine.startAppend
  try dsimp only
  iterate 25 (all_goals try first | with_reducible assumption | with_reducible exact Keeps.rfl _ | with_reducible refine Keeps.complete hm ?_ | with_reducible refine Keeps.setWork ?_ | with_reducible refine Keeps.reserveAppend_some (by assumption) ?_ | with_reducible refine Keeps.holdTag ?_ | with_reducible refine Keeps.ite ?_ ?_ | split | dsimp only | refine Keeps.of_mk (Eq.refl _) (Eq.refl _) (Eq.refl _) (Eq.refl _) ?_)

theorem Keeps.pieceRead {i : Nat} {bs : List Byte} (hm : ¬m) (h : Keeps p m a s) : Keeps p m a (Machine.pieceRead s i bs) := by
  unfold Machine.pieceRead
  try dsimp only
  iterate 25 (all_goals try first | with_reducible assumption | with_reducible exact Keeps.rfl _ | with_reducible refine Keeps.addAct ?_ | with_reducible refine Keeps.writeMem hm ?_ | with_reducible refine Keeps.setAppend ?_ | with_reducible refine Keeps.pumpIngest ?_ | with_reducible refine Keeps.ite ?_ ?_ | split | dsimp only | refine Keeps.of_mk (Eq.refl _) (Eq.refl _) (Eq.refl _) (Eq.refl _) ?_)

theorem Keeps.startFlush {i : Nat} {c : Cmd} (hm : ¬m) (h : Keeps p m a s) : Keeps p m a (Machine.startFlush s i c) := by
  unfold Machine.startFlush
  try dsimp only
  iterate 25 (all_goals try first | with_reducible assumption | with_reducible exact Keeps.rfl _ | with_reducible refine Keeps.flushOne hm ?_ | with_reducible refine Keeps.setWork ?_ | with_reducible refine Keeps.ite ?_ ?_ | split | dsimp only | refine Keeps.of_mk (Eq.refl _) (Eq.refl _) (Eq.refl _) (Eq.refl _) ?_)

theorem Keeps.tableCreate {schema : List Byte} {i : Nat} {c : Cmd} (hm : ¬m) (h : Keeps p m a s) : Keeps p m a (Machine.tableCreate schema s i c) := by
  unfold Machine.tableCreate
  try dsimp only
  iterate 25 (all_goals try first | with_reducible assumption | with_reducible exact Keeps.rfl _ | with_reducible refine Keeps.setOwner ?_ | with_reducible refine Keeps.complete hm ?_ | with_reducible refine Keeps.writeHeader ?_ | with_reducible refine Keeps.ite ?_ ?_ | split | dsimp only | refine Keeps.of_mk (Eq.refl _) (Eq.refl _) (Eq.refl _) (Eq.refl _) ?_)

theorem Keeps.dropTable {i : Nat} {o : Owner} {t' : Table} (h : Keeps p m a s) : Keeps p m a (Machine.State.dropTable s i o t') := by
  unfold Machine.State.dropTable
  try dsimp only
  iterate 25 (all_goals try first | with_reducible assumption | with_reducible exact Keeps.rfl _ | with_reducible refine Keeps.modInst ?_ | with_reducible refine Keeps.setOwner ?_ | with_reducible refine Keeps.checkpoint ?_ | with_reducible refine Keeps.writeHeader ?_ | with_reducible refine Keeps.ite ?_ ?_ | split | dsimp only | refine Keeps.of_mk (Eq.refl _) (Eq.refl _) (Eq.refl _) (Eq.refl _) ?_)

theorem Keeps.tableDrop {i : Nat} {c : Cmd} (hm : ¬m) (h : Keeps p m a s) : Keeps p m a (Machine.tableDrop s i c) := by
  unfold Machine.tableDrop
  try dsimp only
  iterate 25 (all_goals try first | with_reducible assumption | with_reducible exact Keeps.rfl _ | with_reducible refine Keeps.complete hm ?_ | with_reducible refine Keeps.dropTable ?_ | with_reducible refine Keeps.ite ?_ ?_ | split | dsimp only | refine Keeps.of_mk (Eq.refl _) (Eq.refl _) (Eq.refl _) (Eq.refl _) ?_)

theorem Keeps.blockBytes {i : Nat} {t' : Table} {col : Nat} {b : Block} (h : Keeps p m a s) : Keeps p m a (Machine.State.blockBytes s i t' col b).2 := by
  unfold Machine.State.blockBytes
  try dsimp only
  iterate 25 (all_goals try first | with_reducible assumption | with_reducible exact Keeps.rfl _ | with_reducible refine Keeps.addAct ?_ | with_reducible refine Keeps.readMem ?_ | with_reducible refine Keeps.readMem_pair (by assumption) ?_ | with_reducible refine Keeps.readSegment ?_ | with_reducible refine Keeps.ite ?_ ?_ | split | dsimp only | refine Keeps.of_mk (Eq.refl _) (Eq.refl _) (Eq.refl _) (Eq.refl _) ?_)

theorem Keeps.blockBytes_pair {i : Nat} {t' : Table} {col : Nat} {b : Block} {x0} (e : (Machine.State.blockBytes s i t' col b) = (x0, t)) (h : Keeps p m a s) : Keeps p m a t := by
  have k : Keeps p m a (Machine.State.blockBytes s i t' col b).2 := Keeps.blockBytes h
  rw [e] at k
  exact k

theorem Keeps.exportBlocks {i t' col addr cap} {l : List Block} {n k : Nat} (h : Keeps p m a s) :
    Keeps p m a (Machine.exportBlocks i t' col addr cap l n k s).2.2.2 := by
  induction l generalizing s n k with
  | nil => exact h
  | cons b l ih =>
    simp only [Machine.exportBlocks]
    split
    · exact h
    · split
      · exact Keeps.blockBytes_pair (by assumption) h
      · exact ih (Keeps.hostWrite (Keeps.blockBytes_pair (by assumption) h))

theorem Keeps.blockExport {i : Nat} {c : Cmd} (hm : ¬m) (h : Keeps p m a s) : Keeps p m a (Machine.blockExport s i c) := by
  unfold Machine.blockExport
  try dsimp only
  iterate 25 (all_goals try first | with_reducible assumption | with_reducible exact Keeps.rfl _ | with_reducible refine Keeps.addAct ?_ | with_reducible refine Keeps.complete hm ?_ | with_reducible refine Keeps.exportBlocks ?_ | with_reducible refine Keeps.ite ?_ ?_ | split | dsimp only | refine Keeps.of_mk (Eq.refl _) (Eq.refl _) (Eq.refl _) (Eq.refl _) ?_)

theorem Keeps.startPort {g f} (hm : ¬m) (hf : ∀ u q, Keeps p m u (f u q)) (h : Keeps p m a s) : Keeps p m a (Machine.startPort s g f) := by
  unfold Machine.startPort
  split
  · exact h
  · have k := Keeps.nextStart_some (by assumption) h
    split
    · exact h
    · split
      · exact Keeps.complete hm k
      · split
        · exact Keeps.complete hm k
        · exact Keeps.complete hm (k.trans (hf _ _))

theorem Keeps.setPortFlags {p' : Nat} {x : Bool × Bool} (h : Keeps p m a s) : Keeps p m a (Machine.State.setPortFlags s p' x) :=
  Keeps.of_mk (Eq.refl _) (Eq.refl _) (Eq.refl _) (Eq.refl _) h

theorem Keeps.endPort {p' : Nat} {reason : Nat} (hm : ¬m) (h : Keeps p m a s) : Keeps p m a (Machine.State.endPort s p' reason) := by
  unfold Machine.State.endPort
  try dsimp only
  iterate 25 (all_goals try first | with_reducible assumption | with_reducible exact Keeps.rfl _ | with_reducible refine Keeps.closeSession hm ?_ | with_reducible refine Keeps.dropPending ?_ | with_reducible refine Keeps.dropOpens ?_ | with_reducible refine Keeps.ite ?_ ?_ | split | dsimp only | refine Keeps.of_mk (Eq.refl _) (Eq.refl _) (Eq.refl _) (Eq.refl _) ?_)

theorem Keeps.portDisable {p' : Nat} (hm : ¬m) (h : Keeps p m a s) : Keeps p m a (Machine.portDisable s p') := by
  unfold Machine.portDisable
  try dsimp only
  iterate 25 (all_goals try first | with_reducible assumption | with_reducible exact Keeps.rfl _ | with_reducible refine Keeps.setPortFlags ?_ | with_reducible refine Keeps.endPort hm ?_ | with_reducible refine Keeps.ite ?_ ?_ | split | dsimp only | refine Keeps.of_mk (Eq.refl _) (Eq.refl _) (Eq.refl _) (Eq.refl _) ?_)

theorem Keeps.portEnable {p' : Nat} (h : Keeps p m a s) : Keeps p m a (Machine.portEnable s p') := by
  unfold Machine.portEnable
  try dsimp only
  iterate 25 (all_goals try first | with_reducible assumption | with_reducible exact Keeps.rfl _ | with_reducible refine Keeps.setPort ?_ | with_reducible refine Keeps.setPortFlags ?_ | with_reducible refine Keeps.ite ?_ ?_ | split | dsimp only | refine Keeps.of_mk (Eq.refl _) (Eq.refl _) (Eq.refl _) (Eq.refl _) ?_)

theorem Keeps.portRelease {p' : Nat} (h : Keeps p m a s) : Keeps p m a (Machine.portRelease s p') := by
  unfold Machine.portRelease
  try dsimp only
  iterate 25 (all_goals try first | with_reducible assumption | with_reducible exact Keeps.rfl _ | with_reducible refine Keeps.setPort ?_ | with_reducible refine Keeps.setPortFlags ?_ | with_reducible refine Keeps.ite ?_ ?_ | split | dsimp only | refine Keeps.of_mk (Eq.refl _) (Eq.refl _) (Eq.refl _) (Eq.refl _) ?_)

theorem Keeps.rekey {i : Nat} {no : Nat} {o : Owner} {oek : W512} (hm : ¬m) (h : Keeps p m a s) : Keeps p m a (Machine.State.rekey s i no o oek) := by
  unfold Machine.State.rekey
  try dsimp only
  iterate 25 (all_goals try first | with_reducible assumption | with_reducible exact Keeps.rfl _ | with_reducible refine Keeps.setOwner ?_ | with_reducible refine Keeps.setSlot ?_ | with_reducible refine Keeps.complete hm ?_ | with_reducible refine Keeps.writeHeaders ?_ | with_reducible refine Keeps.ite ?_ ?_ | split | dsimp only | refine Keeps.of_mk (Eq.refl _) (Eq.refl _) (Eq.refl _) (Eq.refl _) ?_)

theorem Keeps.ownerRekey {i : Nat} {c : Cmd} (hm : ¬m) (h : Keeps p m a s) : Keeps p m a (Machine.ownerRekey s i c) := by
  unfold Machine.ownerRekey
  try dsimp only
  iterate 25 (all_goals try first | with_reducible assumption | with_reducible exact Keeps.rfl _ | with_reducible refine Keeps.complete hm ?_ | with_reducible refine Keeps.setWork ?_ | with_reducible refine Keeps.rekey hm ?_ | with_reducible refine Keeps.ite ?_ ?_ | split | dsimp only | refine Keeps.of_mk (Eq.refl _) (Eq.refl _) (Eq.refl _) (Eq.refl _) ?_)

theorem Keeps.selftestStart {i : Nat} {c : Cmd} (hm : ¬m) (h : Keeps p m a s) : Keeps p m a (Machine.selftestStart s i c) := by
  unfold Machine.selftestStart
  try dsimp only
  iterate 25 (all_goals try first | with_reducible assumption | with_reducible exact Keeps.rfl _ | with_reducible refine Keeps.complete hm ?_ | with_reducible refine Keeps.ite ?_ ?_ | split | dsimp only | refine Keeps.of_mk (Eq.refl _) (Eq.refl _) (Eq.refl _) (Eq.refl _) ?_)

theorem Keeps.selftestAbort {i : Nat} {c : Cmd} (hm : ¬m) (h : Keeps p m a s) : Keeps p m a (Machine.selftestAbort s i c) := by
  unfold Machine.selftestAbort
  try dsimp only
  iterate 25 (all_goals try first | with_reducible assumption | with_reducible exact Keeps.rfl _ | with_reducible refine Keeps.complete hm ?_ | with_reducible refine Keeps.endTest ?_ | with_reducible refine Keeps.ite ?_ ?_ | split | dsimp only | refine Keeps.of_mk (Eq.refl _) (Eq.refl _) (Eq.refl _) (Eq.refl _) ?_)

theorem Keeps.fwDownload {bs : List Byte} {i : Nat} {c : Cmd} (hm : ¬m) (h : Keeps p m a s) : Keeps p m a (Machine.fwDownload bs s i c) := by
  unfold Machine.fwDownload
  try dsimp only
  iterate 25 (all_goals try first | with_reducible assumption | with_reducible exact Keeps.rfl _ | with_reducible refine Keeps.complete hm ?_ | with_reducible refine Keeps.ite ?_ ?_ | split | dsimp only | refine Keeps.of_mk (Eq.refl _) (Eq.refl _) (Eq.refl _) (Eq.refl _) ?_)

theorem Keeps.retryAll {i : Nat} (hm : ¬m) (h : Keeps p m a s) : Keeps p m a (Machine.State.retryAll s i) := by
  unfold Machine.State.retryAll
  try dsimp only
  iterate 25 (all_goals try first | with_reducible assumption | with_reducible exact Keeps.rfl _ | with_reducible refine Keeps.complete hm ?_ | (with_reducible refine Keeps.foldl _ ?_ (fun u e => ?_)) | with_reducible refine Keeps.ite ?_ ?_ | split | dsimp only | refine Keeps.of_mk (Eq.refl _) (Eq.refl _) (Eq.refl _) (Eq.refl _) ?_)

theorem Keeps.fwActivate {i : Nat} {c : Cmd} (hm : ¬m) (h : Keeps p m a s) : Keeps p m a (Machine.fwActivate s i c) := by
  unfold Machine.fwActivate
  try dsimp only
  iterate 25 (all_goals try first | with_reducible assumption | with_reducible exact Keeps.rfl _ | with_reducible refine Keeps.complete hm ?_ | with_reducible refine Keeps.setWork ?_ | with_reducible refine Keeps.retryAll hm ?_ | with_reducible refine Keeps.fwCheck ?_ | with_reducible refine Keeps.fwCheck_pair (by assumption) ?_ | (with_reducible refine Keeps.foldl _ ?_ (fun u e => ?_)) | with_reducible refine Keeps.ite ?_ ?_ | split | dsimp only | refine Keeps.of_mk (Eq.refl _) (Eq.refl _) (Eq.refl _) (Eq.refl _) ?_)

theorem Keeps.fwSwitch {ok : Bool} (hm : ¬m) (h : Keeps p m a s) : Keeps p m a (Machine.fwSwitch s ok) := by
  unfold Machine.fwSwitch
  try dsimp only
  iterate 25 (all_goals try first | with_reducible assumption | with_reducible exact Keeps.rfl _ | with_reducible refine Keeps.free ?_ | with_reducible refine Keeps.free_pair (by assumption) ?_ | with_reducible refine Keeps.vfEvent ?_ | with_reducible refine Keeps.logEvent ?_ | with_reducible refine Keeps.complete hm ?_ | (with_reducible refine Keeps.foldl _ ?_ (fun u e => ?_)) | with_reducible refine Keeps.ite ?_ ?_ | split | dsimp only | refine Keeps.of_mk (Eq.refl _) (Eq.refl _) (Eq.refl _) (Eq.refl _) ?_)

theorem Keeps.modPort {p' : Nat} {f : Port → Port} (h : Keeps p m a s) : Keeps p m a (Machine.State.modPort s p' f) :=
  Keeps.of_mk (Eq.refl _) (Eq.refl _) (Eq.refl _) (Eq.refl _) h

theorem Keeps.countProto {p' : Nat} (h : Keeps p m a s) : Keeps p m a (Machine.State.countProto s p') :=
  Keeps.of_mk (Eq.refl _) (Eq.refl _) (Eq.refl _) (Eq.refl _) h

theorem Keeps.authFail {p' : Nat} (hm : ¬m) (h : Keeps p m a s) : Keeps p m a (Machine.State.authFail s p') := by
  unfold Machine.State.authFail
  try dsimp only
  iterate 25 (all_goals try first | with_reducible assumption | with_reducible exact Keeps.rfl _ | with_reducible refine Keeps.setPort ?_ | with_reducible refine Keeps.logEvent ?_ | with_reducible refine Keeps.setPortFlags ?_ | with_reducible refine Keeps.endPort hm ?_ | with_reducible refine Keeps.svEdge ?_ | with_reducible refine Keeps.ite ?_ ?_ | split | dsimp only | refine Keeps.of_mk (Eq.refl _) (Eq.refl _) (Eq.refl _) (Eq.refl _) ?_)

theorem Keeps.refuse {p' : Nat} {mac : BitVec 48} {st : W16} {gen : W32} (h : Keeps p m a s) : Keeps p m a (Machine.State.refuse s p' mac st gen) := by
  unfold Machine.State.refuse
  try dsimp only
  iterate 25 (all_goals try first | with_reducible assumption | with_reducible exact Keeps.rfl _ | with_reducible refine Keeps.setPort ?_ | with_reducible refine Keeps.emit ?_ | with_reducible refine Keeps.countProto ?_ | with_reducible refine Keeps.ite ?_ ?_ | split | dsimp only | refine Keeps.of_mk (Eq.refl _) (Eq.refl _) (Eq.refl _) (Eq.refl _) ?_)

theorem Keeps.rxOpen {p' : Nat} {f : Frame} (hm : ¬m) (h : Keeps p m a s) : Keeps p m a (Machine.State.rxOpen s p' f) := by
  unfold Machine.State.rxOpen
  try dsimp only
  iterate 25 (all_goals try first | with_reducible assumption | with_reducible exact Keeps.rfl _ | with_reducible refine Keeps.setSlot ?_ | with_reducible refine Keeps.modPort ?_ | with_reducible refine Keeps.authFail hm ?_ | with_reducible refine Keeps.refuse ?_ | with_reducible refine Keeps.ite ?_ ?_ | split | dsimp only | refine Keeps.of_mk (Eq.refl _) (Eq.refl _) (Eq.refl _) (Eq.refl _) ?_)

theorem Keeps.openAck {p' : Nat} (h : Keeps p m a s) : Keeps p m a (Machine.openAck s p') := by
  unfold Machine.openAck
  try dsimp only
  iterate 25 (all_goals try first | with_reducible assumption | with_reducible exact Keeps.rfl _ | with_reducible refine Keeps.setPort ?_ | with_reducible refine Keeps.setSlot ?_ | with_reducible refine Keeps.zeroSlot ?_ | with_reducible refine Keeps.wire ?_ | with_reducible refine Keeps.dropPending ?_ | with_reducible refine Keeps.ite ?_ ?_ | split | dsimp only | refine Keeps.of_mk (Eq.refl _) (Eq.refl _) (Eq.refl _) (Eq.refl _) ?_)

theorem Keeps.promote {p' : Nat} (hm : ¬m) (h : Keeps p m a s) : Keeps p m a (Machine.State.promote s p') := by
  unfold Machine.State.promote
  try dsimp only
  iterate 25 (all_goals try first | with_reducible assumption | with_reducible exact Keeps.rfl _ | with_reducible refine Keeps.setPort ?_ | with_reducible refine Keeps.setSlot ?_ | with_reducible refine Keeps.zeroSlot ?_ | with_reducible refine Keeps.closeSession hm ?_ | with_reducible refine Keeps.ite ?_ ?_ | split | dsimp only | refine Keeps.of_mk (Eq.refl _) (Eq.refl _) (Eq.refl _) (Eq.refl _) ?_)

theorem Keeps.reject {p' : Nat} {b : List Byte} {st : W16} (hm : ¬m) (h : Keeps p m a s) : Keeps p m a (Machine.State.reject s p' b st) := by
  unfold Machine.State.reject
  try dsimp only
  iterate 25 (all_goals try first | with_reducible assumption | with_reducible exact Keeps.rfl _ | with_reducible refine Keeps.send hm ?_ | with_reducible refine Keeps.countProto ?_ | with_reducible refine Keeps.ite ?_ ?_ | split | dsimp only | refine Keeps.of_mk (Eq.refl _) (Eq.refl _) (Eq.refl _) (Eq.refl _) ?_)

theorem Keeps.takeTag {i : Nat} {p' : Nat} {x : Session} {b : List Byte} {opc : Nat} {len : Nat} (hm : ¬m) (h : Keeps p m a s) : Keeps p m a (Machine.State.takeTag s i p' x b opc len) := by
  unfold Machine.State.takeTag
  try dsimp only
  iterate 25 (all_goals try first | with_reducible assumption | with_reducible exact Keeps.rfl _ | with_reducible refine Keeps.modInst ?_ | with_reducible refine Keeps.setPort ?_ | with_reducible refine Keeps.complete hm ?_ | with_reducible refine Keeps.pauseTest ?_ | with_reducible refine Keeps.ite ?_ ?_ | split | dsimp only | refine Keeps.of_mk (Eq.refl _) (Eq.refl _) (Eq.refl _) (Eq.refl _) ?_)

theorem Keeps.rxData {i : Nat} {p' : Nat} {x : Session} {b : List Byte} (hm : ¬m) (h : Keeps p m a s) : Keeps p m a (Machine.State.rxData s i p' x b) := by
  unfold Machine.State.rxData
  try dsimp only
  iterate 25 (all_goals try first | with_reducible assumption | with_reducible exact Keeps.rfl _ | with_reducible refine Keeps.setPort ?_ | with_reducible refine Keeps.addAct ?_ | with_reducible refine Keeps.writeMem hm ?_ | with_reducible refine Keeps.setAppend ?_ | with_reducible refine Keeps.pumpIngest ?_ | with_reducible refine Keeps.complete hm ?_ | with_reducible refine Keeps.countProto ?_ | with_reducible refine Keeps.ite ?_ ?_ | split | dsimp only | refine Keeps.of_mk (Eq.refl _) (Eq.refl _) (Eq.refl _) (Eq.refl _) ?_)

theorem Keeps.rxAbort {i : Nat} {p' : Nat} {x : Session} {b : List Byte} (hm : ¬m) (h : Keeps p m a s) : Keeps p m a (Machine.State.rxAbort s i p' x b) := by
  unfold Machine.State.rxAbort
  try dsimp only
  iterate 25 (all_goals try first | with_reducible assumption | with_reducible exact Keeps.rfl _ | with_reducible refine Keeps.send hm ?_ | with_reducible refine Keeps.abortTarget hm ?_ | with_reducible refine Keeps.abortTarget_pair hm (by assumption) ?_ | with_reducible refine Keeps.ite ?_ ?_ | split | dsimp only | refine Keeps.of_mk (Eq.refl _) (Eq.refl _) (Eq.refl _) (Eq.refl _) ?_)

theorem Keeps.report {i : Nat} {p' : Nat} {x : Session} {tag : Nat} (hm : ¬m) (h : Keeps p m a s) : Keeps p m a (Machine.State.report s i p' x tag) := by
  unfold Machine.State.report
  try dsimp only
  iterate 25 (all_goals try first | with_reducible assumption | with_reducible exact Keeps.rfl _ | with_reducible refine Keeps.send hm ?_ | with_reducible refine Keeps.ite ?_ ?_ | split | dsimp only | refine Keeps.of_mk (Eq.refl _) (Eq.refl _) (Eq.refl _) (Eq.refl _) ?_)

theorem Keeps.rxSession {p' : Nat} {b : List Byte} (hm : ¬m) (h : Keeps p m a s) : Keeps p m a (Machine.State.rxSession s p' b) := by
  unfold Machine.State.rxSession
  try dsimp only
  iterate 25 (all_goals try first | with_reducible assumption | with_reducible exact Keeps.rfl _ | with_reducible refine Keeps.send hm ?_ | with_reducible refine Keeps.pauseTest ?_ | with_reducible refine Keeps.reject hm ?_ | with_reducible refine Keeps.takeTag hm ?_ | with_reducible refine Keeps.rxData hm ?_ | with_reducible refine Keeps.rxAbort hm ?_ | with_reducible refine Keeps.report hm ?_ | with_reducible refine Keeps.ite ?_ ?_ | split | dsimp only | refine Keeps.of_mk (Eq.refl _) (Eq.refl _) (Eq.refl _) (Eq.refl _) ?_)

theorem Keeps.rxAccept {p' : Nat} {x : Session} {pending : Bool} {b : List Byte} (hm : ¬m) (h : Keeps p m a s) : Keeps p m a (Machine.State.rxAccept s p' x pending b) := by
  unfold Machine.State.rxAccept
  try dsimp only
  iterate 25 (all_goals try first | with_reducible assumption | with_reducible exact Keeps.rfl _ | with_reducible refine Keeps.setPort ?_ | with_reducible refine Keeps.closeSession hm ?_ | with_reducible refine Keeps.promote hm ?_ | with_reducible refine Keeps.rxSession hm ?_ | with_reducible refine Keeps.ite ?_ ?_ | split | dsimp only | refine Keeps.of_mk (Eq.refl _) (Eq.refl _) (Eq.refl _) (Eq.refl _) ?_)

theorem Keeps.rxFrame {p' : Nat} {f : Frame} (hm : ¬m) (h : Keeps p m a s) : Keeps p m a (Machine.State.rxFrame s p' f) := by
  unfold Machine.State.rxFrame
  try dsimp only
  iterate 25 (all_goals try first | with_reducible assumption | with_reducible exact Keeps.rfl _ | with_reducible refine Keeps.setPort ?_ | with_reducible refine Keeps.replay hm ?_ | with_reducible refine Keeps.countProto ?_ | with_reducible refine Keeps.authFail hm ?_ | with_reducible refine Keeps.rxOpen hm ?_ | with_reducible refine Keeps.rxAccept hm ?_ | with_reducible refine Keeps.ite ?_ ?_ | split | dsimp only | refine Keeps.of_mk (Eq.refl _) (Eq.refl _) (Eq.refl _) (Eq.refl _) ?_)

theorem Keeps.grant (hm : ¬m) (h : Keeps p m a s) : Keeps p m a (Machine.grant s) := by
  unfold Machine.grant
  try dsimp only
  iterate 25 (all_goals try first | with_reducible assumption | with_reducible exact Keeps.rfl _ | with_reducible refine Keeps.setPort ?_ | with_reducible refine Keeps.send hm ?_ | with_reducible refine Keeps.setAppend ?_ | with_reducible refine Keeps.ite ?_ ?_ | split | dsimp only | refine Keeps.of_mk (Eq.refl _) (Eq.refl _) (Eq.refl _) (Eq.refl _) ?_)

theorem Keeps.grantExpiry {p' : Nat} {tag : Nat} (hm : ¬m) (h : Keeps p m a s) : Keeps p m a (Machine.grantExpiry s p' tag) := by
  unfold Machine.grantExpiry
  try dsimp only
  iterate 25 (all_goals try first | with_reducible assumption | with_reducible exact Keeps.rfl _ | with_reducible refine Keeps.complete hm ?_ | with_reducible refine Keeps.ite ?_ ?_ | split | dsimp only | refine Keeps.of_mk (Eq.refl _) (Eq.refl _) (Eq.refl _) (Eq.refl _) ?_)

theorem Keeps.imageLoad {image : List Byte} {i : Nat} {c : Cmd} (hm : ¬m) (hp : ∀ c, ¬p c) (h : Keeps p m a s) : Keeps p m a (Machine.imageLoad image s i c) := by
  unfold Machine.imageLoad
  try dsimp only
  iterate 25 (all_goals try first | with_reducible assumption | with_reducible exact Keeps.rfl _ | with_reducible refine Keeps.modInst ?_ | with_reducible refine Keeps.addAct ?_ | with_reducible refine Keeps.writeMem hm ?_ | with_reducible refine Keeps.room_some (by assumption) ?_ | with_reducible refine Keeps.complete hm ?_ | with_reducible refine Keeps.imageCheck hm hp ?_ | with_reducible refine Keeps.setWork ?_ | with_reducible refine Keeps.ite ?_ ?_ | split | dsimp only | refine Keeps.of_mk (Eq.refl _) (Eq.refl _) (Eq.refl _) (Eq.refl _) ?_)

theorem Keeps.imageUnload {i : Nat} {c : Cmd} (hm : ¬m) (h : Keeps p m a s) : Keeps p m a (Machine.imageUnload s i c) := by
  unfold Machine.imageUnload
  try dsimp only
  iterate 25 (all_goals try first | with_reducible assumption | with_reducible exact Keeps.rfl _ | with_reducible refine Keeps.modInst ?_ | with_reducible refine Keeps.freeRegion ?_ | with_reducible refine Keeps.complete hm ?_ | with_reducible refine Keeps.ite ?_ ?_ | split | dsimp only | refine Keeps.of_mk (Eq.refl _) (Eq.refl _) (Eq.refl _) (Eq.refl _) ?_)

theorem Keeps.openFlumes {i : Nat} {ctx : Nat} {code : List Byte} {fl : List Nat} (h : Keeps p m a s) : Keeps p m a (Machine.State.openFlumes s i ctx code fl) := by
  unfold Machine.State.openFlumes
  try dsimp only
  iterate 25 (all_goals try first | with_reducible assumption | with_reducible exact Keeps.rfl _ | with_reducible refine Keeps.setFlume ?_ | (with_reducible refine Keeps.foldl _ ?_ (fun u e => ?_)) | with_reducible refine Keeps.ite ?_ ?_ | split | dsimp only | refine Keeps.of_mk (Eq.refl _) (Eq.refl _) (Eq.refl _) (Eq.refl _) ?_)

theorem Keeps.writeMorsels {q : Query} (hm : ¬m) (h : Keeps p m a s) : Keeps p m a (Machine.State.writeMorsels s q) := by
  unfold Machine.State.writeMorsels
  try dsimp only
  iterate 25 (all_goals try first | with_reducible assumption | with_reducible exact Keeps.rfl _ | with_reducible refine Keeps.writeMorsel hm ?_ | (with_reducible refine Keeps.foldl _ ?_ (fun u e => ?_)) | with_reducible refine Keeps.ite ?_ ?_ | split | dsimp only | refine Keeps.of_mk (Eq.refl _) (Eq.refl _) (Eq.refl _) (Eq.refl _) ?_)

theorem Keeps.instantiate {i : Nat} {c : Cmd} {m' : Image} {o : Owner} {params : List Byte} {ctx : Nat} {pools : List (Nat × Nat)} {fl : List Nat} {arena : Nat} {len : Nat} (hm : ¬m) (h : Keeps p m a s) : Keeps p m a (Machine.State.instantiate s i c m' o params ctx pools fl arena len) := by
  unfold Machine.State.instantiate
  try dsimp only
  iterate 25 (all_goals try first | with_reducible assumption | with_reducible exact Keeps.rfl _ | with_reducible refine Keeps.setQuery ?_ | with_reducible refine Keeps.addAct ?_ | with_reducible refine Keeps.writeMem hm ?_ | with_reducible refine Keeps.setWork ?_ | with_reducible refine Keeps.openFlumes ?_ | with_reducible refine Keeps.writeMorsels hm ?_ | with_reducible refine Keeps.ite ?_ ?_ | split | dsimp only | refine Keeps.of_mk (Eq.refl _) (Eq.refl _) (Eq.refl _) (Eq.refl _) ?_)

theorem Keeps.queryRun {params : List Byte} {i : Nat} {c : Cmd} (hm : ¬m) (h : Keeps p m a s) : Keeps p m a (Machine.queryRun params s i c) := by
  unfold Machine.queryRun
  try dsimp only
  iterate 25 (all_goals try first | with_reducible assumption | with_reducible exact Keeps.rfl _ | with_reducible refine Keeps.room_some (by assumption) ?_ | with_reducible refine Keeps.complete hm ?_ | with_reducible refine Keeps.instantiate hm ?_ | with_reducible refine Keeps.ite ?_ ?_ | split | dsimp only | refine Keeps.of_mk (Eq.refl _) (Eq.refl _) (Eq.refl _) (Eq.refl _) ?_)

theorem Keeps.statClear (h : Keeps p m a s) : Keeps p m a (Machine.statClear s) :=
  Keeps.of_mk (Eq.refl _) (Eq.refl _) (Eq.refl _) (Eq.refl _) h

theorem Keeps.msixWrite {f : Fn} {o : Nat} {v : W32} (h : Keeps p m a s) : Keeps p m a (Machine.State.msixWrite s f o v) := by
  unfold Machine.State.msixWrite
  try dsimp only
  iterate 25 (all_goals try first | with_reducible assumption | with_reducible exact Keeps.rfl _ | with_reducible refine Keeps.emit ?_ | with_reducible refine Keeps.setVec ?_ | with_reducible refine Keeps.ite ?_ ?_ | split | dsimp only | refine Keeps.of_mk (Eq.refl _) (Eq.refl _) (Eq.refl _) (Eq.refl _) ?_)

theorem Keeps.hiWrite {o : Nat} {v : W32} (h : Keeps p m a s) : Keeps p m a (Machine.State.hiWrite s o v) := by
  unfold Machine.State.hiWrite
  try dsimp only
  iterate 25 (all_goals try first | with_reducible assumption | with_reducible exact Keeps.rfl _ | with_reducible refine Keeps.mbGo ?_ | with_reducible refine Keeps.msixWrite ?_ | with_reducible refine Keeps.ite ?_ ?_ | split | dsimp only | refine Keeps.of_mk (Eq.refl _) (Eq.refl _) (Eq.refl _) (Eq.refl _) ?_)

theorem Keeps.mcWrite {o : Nat} {v : W32} (h : Keeps p m a s) : Keeps p m a (Machine.State.mcWrite s o v) := by
  unfold Machine.State.mcWrite
  try dsimp only
  iterate 25 (all_goals try first | with_reducible assumption | with_reducible exact Keeps.rfl _ | with_reducible refine Keeps.resweep ?_ | with_reducible refine Keeps.reject hm ?_ | with_reducible refine Keeps.ite ?_ ?_ | split | dsimp only | refine Keeps.of_mk (Eq.refl _) (Eq.refl _) (Eq.refl _) (Eq.refl _) ?_)

theorem Keeps.fpWrite {o : Nat} {v : W32} (h : Keeps p m a s) : Keeps p m a (Machine.State.fpWrite s o v) := by
  unfold Machine.State.fpWrite
  try dsimp only
  iterate 25 (all_goals try first | with_reducible assumption | with_reducible exact Keeps.rfl _ | with_reducible refine Keeps.ite ?_ ?_ | split | dsimp only | refine Keeps.of_mk (Eq.refl _) (Eq.refl _) (Eq.refl _) (Eq.refl _) ?_)

theorem Keeps.ksWrite {o : Nat} {v : W32} (h : Keeps p m a s) : Keeps p m a (Machine.State.ksWrite s o v) := by
  unfold Machine.State.ksWrite
  try dsimp only
  iterate 25 (all_goals try first | with_reducible assumption | with_reducible exact Keeps.rfl _ | with_reducible refine Keeps.oekLoad ?_ | with_reducible refine Keeps.reject hm ?_ | with_reducible refine Keeps.ite ?_ ?_ | split | dsimp only | refine Keeps.of_mk (Eq.refl _) (Eq.refl _) (Eq.refl _) (Eq.refl _) ?_)

theorem Keeps.regStore {host : Bool} {off : Nat} {v : W32} (hp : ∀ c, ¬p c) (h : Keeps p m a s) : Keeps p m a (Machine.State.regStore s host off v) := by
  unfold Machine.State.regStore
  try dsimp only
  iterate 25 (all_goals try first | with_reducible assumption | with_reducible exact Keeps.rfl _ | with_reducible refine Keeps.pwWrite hp ?_ | with_reducible refine Keeps.paceWrite ?_ | with_reducible refine Keeps.statClear ?_ | with_reducible refine Keeps.hiWrite ?_ | with_reducible refine Keeps.mcWrite ?_ | with_reducible refine Keeps.fpWrite ?_ | with_reducible refine Keeps.ksWrite ?_ | with_reducible refine Keeps.ite ?_ ?_ | split | dsimp only | refine Keeps.of_mk (Eq.refl _) (Eq.refl _) (Eq.refl _) (Eq.refl _) ?_)

theorem Keeps.hostStore {f : Fn} {off : Nat} {v : W32} (hp : ∀ c, ¬p c) (h : Keeps p m a s) : Keeps p m a (Machine.hostStore s f off v) := by
  unfold Machine.hostStore
  try dsimp only
  iterate 25 (all_goals try first | with_reducible assumption | with_reducible exact Keeps.rfl _ | with_reducible refine Keeps.doorbell ?_ | with_reducible refine Keeps.msixWrite ?_ | with_reducible refine Keeps.regStore hp ?_ | with_reducible refine Keeps.ite ?_ ?_ | split | dsimp only | refine Keeps.of_mk (Eq.refl _) (Eq.refl _) (Eq.refl _) (Eq.refl _) ?_)

theorem Keeps.readEffect {c : Nat} {off : Nat} (h : Keeps p m a s) : Keeps p m a (Machine.readEffect s c off) := by
  unfold Machine.readEffect
  try dsimp only
  iterate 25 (all_goals try first | with_reducible assumption | with_reducible exact Keeps.rfl _ | with_reducible refine Keeps.readDgRes ?_ | with_reducible refine Keeps.ite ?_ ?_ | split | dsimp only | refine Keeps.of_mk (Eq.refl _) (Eq.refl _) (Eq.refl _) (Eq.refl _) ?_)

theorem Keeps.coreRegRead {c : Nat} {off : Nat} {size : Nat} (h : Keeps p m a s) : Keeps p m a (Machine.coreRegRead s c off size).2 := by
  unfold Machine.coreRegRead
  try dsimp only
  iterate 25 (all_goals try first | with_reducible assumption | with_reducible exact Keeps.rfl _ | with_reducible refine Keeps.readEffect ?_ | with_reducible refine Keeps.ite ?_ ?_ | split | dsimp only | refine Keeps.of_mk (Eq.refl _) (Eq.refl _) (Eq.refl _) (Eq.refl _) ?_)

theorem Keeps.coreRegRead_pair {c : Nat} {off : Nat} {size : Nat} {x0} (e : (Machine.coreRegRead s c off size) = (x0, t)) (h : Keeps p m a s) : Keeps p m a t := by
  have k : Keeps p m a (Machine.coreRegRead s c off size).2 := Keeps.coreRegRead h
  rw [e] at k
  exact k

theorem Keeps.coreRegWrite_ok {c : Nat} {off : Nat} {size : Nat} {v : Nat} (hm : ¬m) (hp : ∀ c, ¬p c) (e : (Machine.coreRegWrite s c off size v) = .ok t) (h : Keeps p m a s) : Keeps p m a t := by
  unfold Machine.coreRegWrite at e
  try dsimp only at e
  repeat' split at e
  all_goals first | (cases e; done) | skip
  all_goals (try cases e)
  iterate 25 (all_goals try first | with_reducible assumption | with_reducible exact Keeps.rfl _ | with_reducible refine Keeps.cdSubmit_some hm hp (by assumption) ?_ | with_reducible refine Keeps.dgSubmit_some hm hp (by assumption) ?_ | with_reducible refine Keeps.regStore hp ?_ | with_reducible refine Keeps.ite ?_ ?_ | split | dsimp only | refine Keeps.of_mk (Eq.refl _) (Eq.refl _) (Eq.refl _) (Eq.refl _) ?_)

theorem Keeps.coreRegWrite_inv {c : Nat} {off : Nat} {size : Nat} {v : Nat} (hm : ¬m) (hp : ∀ c, ¬p c) (e : (Machine.coreRegWrite s c off size v) = .inv t) (h : Keeps p m a s) : Keeps p m a t := by
  unfold Machine.coreRegWrite at e
  try dsimp only at e
  repeat' split at e
  all_goals first | (cases e; done) | skip
  all_goals (try cases e)
  iterate 25 (all_goals try first | with_reducible assumption | with_reducible exact Keeps.rfl _ | with_reducible refine Keeps.cdSubmit_some hm hp (by assumption) ?_ | with_reducible refine Keeps.dgSubmit_some hm hp (by assumption) ?_ | with_reducible refine Keeps.regStore hp ?_ | with_reducible refine Keeps.ite ?_ ?_ | split | dsimp only | refine Keeps.of_mk (Eq.refl _) (Eq.refl _) (Eq.refl _) (Eq.refl _) ?_)

theorem Core.wf_pushLs {k : Core} {x v} (h : k.ls.wf = true) : (k.pushLs x v).ls.wf = true := Cells.wf_writeList _ _ _ h

theorem Core.wf_storeLs {k : Core} {x b} (h : k.ls.wf = true) : (k.storeLs x b).ls.wf = true := by
  unfold Core.storeLs
  split
  · exact h
  · exact Cells.wf_writeList _ _ _ h

theorem Core.updLine_regs (k : Core) (l w off b) : (k.updLine l w off b).g = k.g ∧ (k.updLine l w off b).w = k.w ∧ (k.updLine l w off b).ls = k.ls := by
  unfold Core.updLine
  split <;> exact ⟨Eq.refl _, Eq.refl _, Eq.refl _⟩

theorem Core.noteLoad_regs (k : Core) (l) : (k.noteLoad l).g = k.g ∧ (k.noteLoad l).w = k.w ∧ (k.noteLoad l).ls = k.ls := by
  unfold Core.noteLoad
  repeat' split
  all_goals exact ⟨Eq.refl _, Eq.refl _, Eq.refl _⟩

theorem Core.wf_updLine {k : Core} {l w off b} (h : k.ls.wf = true) : (k.updLine l w off b).ls.wf = true := (Core.updLine_regs k l w off b).2.2.symm ▸ h

theorem Core.wf_noteLoad {k : Core} {l} (h : k.ls.wf = true) : (k.noteLoad l).ls.wf = true := (Core.noteLoad_regs k l).2.2.symm ▸ h

theorem Core.wf_wr {k : Core} {r v} (h : k.ls.wf = true) : (k.wr r v).ls.wf = true := (Core.wr_ls k r v).symm ▸ h

theorem Core.finishWide_ls (k : Core) (e : WEntry) : (k.finishWide e).ls = k.ls := by
  unfold Core.finishWide
  generalize e.dst = l
  induction l generalizing k with
  | nil => exact Eq.refl _
  | cons x l ih => exact (ih _).trans (Core.wr_ls _ _ _)

theorem Core.drainWide_ls (k : Core) : k.drainWide.ls = k.ls := by
  have : ∀ (l : List WEntry) (k : Core), (l.foldl Core.finishWide k).ls = k.ls := by
    intro l
    induction l with
    | nil => exact fun _ => Eq.refl _
    | cons x l ih => exact fun k => (ih _).trans (Core.finishWide_ls k x)
  exact this k.wq k

/-- Taking an exception stores to local store only, and keeps it canonical. -/
theorem enter_wf {k : Core} {e word era vres target} (h : k.ls.wf = true) : (Machine.enter k e word era vres target).ls.wf = true := by
  have h : k.drainWide.ls.wf = true := (Core.drainWide_ls k).symm ▸ h
  unfold Machine.enter
  dsimp only
  repeat' split
  all_goals first | exact h | exact Core.wf_pushLs (Core.wf_pushLs h)

theorem Keeps.raiseExc {c e word v} (hp : ¬p c) (h : Keeps p m a s) : Keeps p m a (Machine.raiseExc s c e word v) :=
  Keeps.setCoreWf hp (fun w => enter_wf w) h

theorem Keeps.takeIrq {c era} (hp : ¬p c) (h : Keeps p m a s) : Keeps p m a (Machine.takeIrq s c era) :=
  Keeps.setCoreWf hp (fun w => enter_wf w) h

theorem Keeps.wakeCore {c : Nat} (h : Keeps p m a s) : Keeps p m a (Machine.wakeCore s c) := by
  unfold Machine.wakeCore
  try dsimp only
  iterate 25 (all_goals try first | with_reducible assumption | with_reducible exact Keeps.rfl _ | ((with_reducible refine Keeps.setCore ?_ ?_); exact ⟨Eq.refl _, Eq.refl _, Eq.refl _⟩) | with_reducible refine Keeps.ite ?_ ?_ | split | dsimp only | refine Keeps.of_mk (Eq.refl _) (Eq.refl _) (Eq.refl _) (Eq.refl _) ?_)

/-- What an instruction of core c can change is what its effect and the taking of an exception can. -/
theorem Keeps.issue {c w n f} (hp : ¬p c) (e : Machine.issue c w n s f = .next t) (hf : ∀ u, Keeps p m u (f (u.core c) u)) : Keeps p m s t := by
  unfold Machine.issue at e
  split at e
  · cases e
  · split at e
    · cases e
      exact Keeps.rfl _
    · have k : Keeps p m s (Machine.wakeCore s c) := Keeps.wakeCore (Keeps.rfl _)
      revert k e
      generalize Machine.wakeCore s c = u
      intro e k
      dsimp only at e
      split at e
      · cases e
        exact Keeps.takeIrq hp k
      · split at e
        · cases e
          exact Keeps.raiseExc hp k
        · repeat' split at e
          · cases e; exact Keeps.raiseExc hp k
          · cases e; exact Keeps.raiseExc hp k
          · cases e; exact Keeps.raiseExc hp k
          · cases e; exact k
          · cases e; exact k.trans (hf _)

/-- A core retires to a state whose local store is canonical if the core's was. -/
theorem Keeps.retireAs {c k0} {k : Core} (hp : ¬p c) (e : (s.core c).ls.wf = true → k.ls.wf = true) (h : Keeps p m a s) : Keeps p m a (Machine.retireAs s c k0 k) :=
  Keeps.setCoreWf hp e h

theorem Keeps.retire {c} {k : Core} (hp : ¬p c) (e : (s.core c).ls.wf = true → k.ls.wf = true) (h : Keeps p m a s) : Keeps p m a (Machine.retire s c k) :=
  Keeps.retireAs hp e h

theorem Keeps.retireTo {c target} {k : Core} (hp : ¬p c) (e : (s.core c).ls.wf = true → k.ls.wf = true) (h : Keeps p m a s) : Keeps p m a (Machine.retireTo s c k target) :=
  Keeps.setCoreWf hp e h

theorem Keeps.regOp_next {c : Nat} {word : W32} {rd : GReg} {ra : GReg} {rb : GReg} {f : W64 → W64 → W64} (hp : ¬p c) (e : (Machine.regOp c word rd ra rb f s) = .next t) : Keeps p m s t := by
  have h : Keeps p m s s := Keeps.rfl _
  unfold Machine.regOp at e
  try dsimp only at e
  first  | skip
  refine Keeps.issue hp e (fun u => ?_)
  clear h e
  have h : Keeps p m u u := Keeps.rfl _
  try dsimp only
  iterate 25 (all_goals try first | with_reducible assumption | with_reducible exact Keeps.rfl _ | refine Keeps.retire hp ?_ ?_ | refine Keeps.retire (hp _) ?_ ?_ | exact id | exact Core.wf_storeLs | exact Core.wf_updLine | exact Core.wf_noteLoad | exact Core.wf_wr | exact fun w => Core.wf_wr (Core.wf_noteLoad w) | with_reducible refine Keeps.issue hp ?_ | with_reducible refine Keeps.ite ?_ ?_ | split | dsimp only | refine Keeps.of_mk (Eq.refl _) (Eq.refl _) (Eq.refl _) (Eq.refl _) ?_)

theorem Keeps.regOp1_next {c : Nat} {word : W32} {rd : GReg} {ra : GReg} {f : W64 → W64} (hp : ¬p c) (e : (Machine.regOp1 c word rd ra f s) = .next t) : Keeps p m s t := by
  have h : Keeps p m s s := Keeps.rfl _
  unfold Machine.regOp1 at e
  try dsimp only at e
  first  | skip
  refine Keeps.issue hp e (fun u => ?_)
  clear h e
  have h : Keeps p m u u := Keeps.rfl _
  try dsimp only
  iterate 25 (all_goals try first | with_reducible assumption | with_reducible exact Keeps.rfl _ | refine Keeps.retire hp ?_ ?_ | refine Keeps.retire (hp _) ?_ ?_ | exact id | exact Core.wf_storeLs | exact Core.wf_updLine | exact Core.wf_noteLoad | exact Core.wf_wr | exact fun w => Core.wf_wr (Core.wf_noteLoad w) | with_reducible refine Keeps.issue hp ?_ | with_reducible refine Keeps.ite ?_ ?_ | split | dsimp only | refine Keeps.of_mk (Eq.refl _) (Eq.refl _) (Eq.refl _) (Eq.refl _) ?_)

theorem Keeps.packOp_next {c : Nat} {word : W32} {bad : Bool} {rd : GReg} {ra : GReg} {rb : GReg} {f : W64 → W64 → W64} (hp : ¬p c) (e : (Machine.packOp c word bad rd ra rb f s) = .next t) : Keeps p m s t := by
  have h : Keeps p m s s := Keeps.rfl _
  unfold Machine.packOp at e
  try dsimp only at e
  first  | skip
  refine Keeps.issue hp e (fun u => ?_)
  clear h e
  have h : Keeps p m u u := Keeps.rfl _
  try dsimp only
  iterate 25 (all_goals try first | with_reducible assumption | with_reducible exact Keeps.rfl _ | refine Keeps.retire hp ?_ ?_ | refine Keeps.retire (hp _) ?_ ?_ | exact id | exact Core.wf_storeLs | exact Core.wf_updLine | exact Core.wf_noteLoad | exact Core.wf_wr | exact fun w => Core.wf_wr (Core.wf_noteLoad w) | with_reducible refine Keeps.issue hp ?_ | with_reducible refine Keeps.ite ?_ ?_ | split | dsimp only | refine Keeps.of_mk (Eq.refl _) (Eq.refl _) (Eq.refl _) (Eq.refl _) ?_)

theorem Keeps.drainWb {c} (hm : ¬m) (h : Keeps p m a s) : Keeps p m a (Machine.drainWb s c) := by
  unfold Machine.drainWb
  dsimp only
  split
  · exact h
  · have k := (Keeps.writeLine (tag := tagOfCore s.hi.n c) (line := CLine.line (by assumption)) (d := bytesOf (CLine.data (by assumption))) (p := fun _ => True) (m := False) id (Keeps.rfl s)).cores c trivial
    exact Keeps.setCore ⟨k.1.symm, k.2.1.symm, k.2.2.symm⟩ (Keeps.writeLine hm h)

theorem Keeps.placeLine {c : Nat} {mask : Byte} {l : CLine} (hm : ¬m) (h : Keeps p m a s) : Keeps p m a (Machine.placeLine s c mask l) := by
  unfold Machine.placeLine
  try dsimp only
  iterate 25 (all_goals try first | with_reducible assumption | with_reducible exact Keeps.rfl _ | with_reducible refine Keeps.drainWb hm ?_ | ((with_reducible refine Keeps.setCore ?_ ?_); exact ⟨Eq.refl _, Eq.refl _, Eq.refl _⟩) | with_reducible refine Keeps.ite ?_ ?_ | split | dsimp only | refine Keeps.of_mk (Eq.refl _) (Eq.refl _) (Eq.refl _) (Eq.refl _) ?_)

theorem Keeps.writeBack {c : Nat} {line : Nat} (hm : ¬m) (h : Keeps p m a s) : Keeps p m a (Machine.writeBack s c line) := by
  unfold Machine.writeBack
  try dsimp only
  iterate 25 (all_goals try first | with_reducible assumption | with_reducible exact Keeps.rfl _ | with_reducible refine Keeps.writeLine hm ?_ | with_reducible refine Keeps.drainWb hm ?_ | ((with_reducible refine Keeps.setCore ?_ ?_); exact ⟨Eq.refl _, Eq.refl _, Eq.refl _⟩) | with_reducible refine Keeps.ite ?_ ?_ | split | dsimp only | refine Keeps.of_mk (Eq.refl _) (Eq.refl _) (Eq.refl _) (Eq.refl _) ?_)

theorem Keeps.writeBackAll {c : Nat} {mask : Byte} (hm : ¬m) (h : Keeps p m a s) : Keeps p m a (Machine.writeBackAll s c mask) := by
  unfold Machine.writeBackAll
  try dsimp only
  iterate 25 (all_goals try first | with_reducible assumption | with_reducible exact Keeps.rfl _ | with_reducible refine Keeps.drainWb hm ?_ | with_reducible refine Keeps.writeBack hm ?_ | (with_reducible refine Keeps.foldl _ ?_ (fun u e => ?_)) | with_reducible refine Keeps.ite ?_ ?_ | split | dsimp only | refine Keeps.of_mk (Eq.refl _) (Eq.refl _) (Eq.refl _) (Eq.refl _) ?_)

theorem Keeps.flushStreamerWays {c : Nat} (hm : ¬m) (h : Keeps p m a s) : Keeps p m a (Machine.flushStreamerWays s c) := by
  unfold Machine.flushStreamerWays
  try dsimp only
  iterate 25 (all_goals try first | with_reducible assumption | with_reducible exact Keeps.rfl _ | with_reducible refine Keeps.writeBackAll hm ?_ | ((with_reducible refine Keeps.setCore ?_ ?_); exact ⟨Eq.refl _, Eq.refl _, Eq.refl _⟩) | with_reducible refine Keeps.ite ?_ ?_ | split | dsimp only | refine Keeps.of_mk (Eq.refl _) (Eq.refl _) (Eq.refl _) (Eq.refl _) ?_)

theorem Keeps.doLoad {c : Nat} {rd : GReg} {a' : Nat} {size : Nat} {sgn : Bool} (hp : ¬p c) (h : Keeps p m a s) : Keeps p m a (Machine.doLoad s c rd a' size sgn) := by
  unfold Machine.doLoad
  try dsimp only
  iterate 25 (all_goals try first | with_reducible assumption | with_reducible exact Keeps.rfl _ | with_reducible refine Keeps.coreRegRead ?_ | with_reducible refine Keeps.coreRegRead_pair (by assumption) ?_ | refine Keeps.retire hp ?_ ?_ | refine Keeps.retire (hp _) ?_ ?_ | exact id | exact Core.wf_storeLs | exact Core.wf_updLine | exact Core.wf_noteLoad | exact Core.wf_wr | exact fun w => Core.wf_wr (Core.wf_noteLoad w) | with_reducible refine Keeps.ite ?_ ?_ | split | dsimp only)

theorem Keeps.loadOp_next {c : Nat} {word : W32} {rd : GReg} {base : GReg} {imm : W16} {size : Nat} {sgn : Bool} (hp : ¬p c) (e : (Machine.loadOp c word rd base imm size sgn s) = .next t) : Keeps p m s t := by
  have h : Keeps p m s s := Keeps.rfl _
  unfold Machine.loadOp at e
  try dsimp only at e
  first  | skip
  refine Keeps.issue hp e (fun u => ?_)
  clear h e
  have h : Keeps p m u u := Keeps.rfl _
  try dsimp only
  iterate 25 (all_goals try first | with_reducible assumption | with_reducible exact Keeps.rfl _ | with_reducible refine Keeps.raiseExc hp ?_ | with_reducible refine Keeps.doLoad hp ?_ | with_reducible refine Keeps.issue hp ?_ | with_reducible refine Keeps.ite ?_ ?_ | split | dsimp only | refine Keeps.of_mk (Eq.refl _) (Eq.refl _) (Eq.refl _) (Eq.refl _) ?_)

theorem Keeps.doStore {c word x size v} (hm : ¬m) (hp : ∀ c, ¬p c) (h : Keeps p m a s) : Keeps p m a (Machine.doStore s c word x size v) := by
  unfold Machine.doStore
  dsimp only
  split
  · exact Keeps.retire (hp _) Core.wf_storeLs h
  · exact Keeps.retire (hp _) id (Keeps.setPool hm h)
  · split
    · exact Keeps.retireAs (hp _) id (Keeps.coreRegWrite_ok hm hp (by assumption) h)
    · exact Keeps.raiseExc (hp _) (Keeps.coreRegWrite_inv hm hp (by assumption) h)
    · exact Keeps.setCore ⟨Eq.refl _, Eq.refl _, Eq.refl _⟩ h
  · split
    · exact Keeps.retire (hp _) Core.wf_updLine h
    · split
      · exact h
      · exact Keeps.retire (hp _) id h
  · exact h

theorem Keeps.storeOp_next {c : Nat} {word : W32} {rs : GReg} {base : GReg} {imm : W16} {size : Nat} (hm : ¬m) (hp : ∀ c, ¬p c) (e : (Machine.storeOp c word rs base imm size s) = .next t) : Keeps p m s t := by
  have h : Keeps p m s s := Keeps.rfl _
  unfold Machine.storeOp at e
  try dsimp only at e
  first  | skip
  refine Keeps.issue (hp _) e (fun u => ?_)
  clear h e
  have h : Keeps p m u u := Keeps.rfl _
  try dsimp only
  iterate 25 (all_goals try first | with_reducible assumption | with_reducible exact Keeps.rfl _ | with_reducible refine Keeps.raiseExc (hp _) ?_ | with_reducible refine Keeps.doStore hm hp ?_ | with_reducible refine Keeps.issue hp ?_ | with_reducible refine Keeps.ite ?_ ?_ | split | dsimp only | refine Keeps.of_mk (Eq.refl _) (Eq.refl _) (Eq.refl _) (Eq.refl _) ?_)

theorem Keeps.atomicOp_next {c : Nat} {word : W32} {rd : GReg} {ra : GReg} {rb : GReg} {f : W64 → W64 → W64 → W64} (hm : ¬m) (hp : ¬p c) (e : (Machine.atomicOp c word rd ra rb f s) = .next t) : Keeps p m s t := by
  have h : Keeps p m s s := Keeps.rfl _
  unfold Machine.atomicOp at e
  try dsimp only at e
  first  | skip
  refine Keeps.issue hp e (fun u => ?_)
  clear h e
  have h : Keeps p m u u := Keeps.rfl _
  try dsimp only
  iterate 25 (all_goals try first | with_reducible assumption | with_reducible exact Keeps.rfl _ | with_reducible refine Keeps.raiseExc hp ?_ | refine Keeps.retire hp ?_ ?_ | refine Keeps.retire (hp _) ?_ ?_ | exact id | exact Core.wf_storeLs | exact Core.wf_updLine | exact Core.wf_noteLoad | exact Core.wf_wr | exact fun w => Core.wf_wr (Core.wf_noteLoad w) | with_reducible refine Keeps.setPool hm ?_ | with_reducible refine Keeps.issue hp ?_ | with_reducible refine Keeps.ite ?_ ?_ | split | dsimp only | refine Keeps.of_mk (Eq.refl _) (Eq.refl _) (Eq.refl _) (Eq.refl _) ?_)

theorem Keeps.branchOp_next {c : Nat} {word : W32} {ra : GReg} {rb : GReg} {off : W16} {cond : W64 → W64 → Bool} (hp : ¬p c) (e : (Machine.branchOp c word ra rb off cond s) = .next t) : Keeps p m s t := by
  have h : Keeps p m s s := Keeps.rfl _
  unfold Machine.branchOp at e
  try dsimp only at e
  first  | skip
  refine Keeps.issue hp e (fun u => ?_)
  clear h e
  have h : Keeps p m u u := Keeps.rfl _
  try dsimp only
  iterate 25 (all_goals try first | with_reducible assumption | with_reducible exact Keeps.rfl _ | refine Keeps.retire hp ?_ ?_ | refine Keeps.retire (hp _) ?_ ?_ | exact id | exact Core.wf_storeLs | exact Core.wf_updLine | exact Core.wf_noteLoad | exact Core.wf_wr | exact fun w => Core.wf_wr (Core.wf_noteLoad w) | refine Keeps.retireTo hp ?_ ?_ | refine Keeps.retireTo (hp _) ?_ ?_ | exact id | exact Core.wf_storeLs | exact Core.wf_updLine | exact Core.wf_noteLoad | exact Core.wf_wr | exact fun w => Core.wf_wr (Core.wf_noteLoad w) | with_reducible refine Keeps.issue hp ?_ | with_reducible refine Keeps.ite ?_ ?_ | split | dsimp only | refine Keeps.of_mk (Eq.refl _) (Eq.refl _) (Eq.refl _) (Eq.refl _) ?_)

theorem Keeps.jumpOp_next {c : Nat} {word : W32} {ra : GReg} {link : Bool} (hp : ¬p c) (e : (Machine.jumpOp c word ra link s) = .next t) : Keeps p m s t := by
  have h : Keeps p m s s := Keeps.rfl _
  unfold Machine.jumpOp at e
  try dsimp only at e
  first  | skip
  refine Keeps.issue hp e (fun u => ?_)
  clear h e
  have h : Keeps p m u u := Keeps.rfl _
  try dsimp only
  iterate 25 (all_goals try first | with_reducible assumption | with_reducible exact Keeps.rfl _ | with_reducible refine Keeps.raiseExc hp ?_ | refine Keeps.retireTo hp ?_ ?_ | refine Keeps.retireTo (hp _) ?_ ?_ | exact id | exact Core.wf_storeLs | exact Core.wf_updLine | exact Core.wf_noteLoad | exact Core.wf_wr | exact fun w => Core.wf_wr (Core.wf_noteLoad w) | with_reducible refine Keeps.issue hp ?_ | with_reducible refine Keeps.ite ?_ ?_ | split | dsimp only | refine Keeps.of_mk (Eq.refl _) (Eq.refl _) (Eq.refl _) (Eq.refl _) ?_)

theorem Keeps.loopOp_next {c : Nat} {word : W32} {regs : List GReg} {count : Core → W64} {len : W16} (hp : ¬p c) (e : (Machine.loopOp c word regs count len s) = .next t) : Keeps p m s t := by
  have h : Keeps p m s s := Keeps.rfl _
  unfold Machine.loopOp at e
  try dsimp only at e
  first  | skip
  refine Keeps.issue hp e (fun u => ?_)
  clear h e
  have h : Keeps p m u u := Keeps.rfl _
  try dsimp only
  iterate 25 (all_goals try first | with_reducible assumption | with_reducible exact Keeps.rfl _ | refine Keeps.retireTo hp ?_ ?_ | refine Keeps.retireTo (hp _) ?_ ?_ | exact id | exact Core.wf_storeLs | exact Core.wf_updLine | exact Core.wf_noteLoad | exact Core.wf_wr | exact fun w => Core.wf_wr (Core.wf_noteLoad w) | with_reducible refine Keeps.issue hp ?_ | with_reducible refine Keeps.ite ?_ ?_ | split | dsimp only | refine Keeps.of_mk (Eq.refl _) (Eq.refl _) (Eq.refl _) (Eq.refl _) ?_)

theorem crRead_ls (c : Nat) (k : Core) (i : Nat) : (Machine.crRead c k i).2.ls = k.ls := by
  unfold Machine.crRead
  repeat' split
  all_goals exact Eq.refl _

theorem crWrite_ls (c n : Nat) (k : Core) (i : Nat) (v : W64) : (Machine.crWrite c n k i v).ls = k.ls := by
  unfold Machine.crWrite
  repeat' split
  all_goals exact Eq.refl _

theorem Keeps.cgetOp_next {c : Nat} {word : W32} {rd : GReg} {i : Nat} (hp : ¬p c) (e : (Machine.cgetOp c word rd i s) = .next t) : Keeps p m s t := by
  have h : Keeps p m s s := Keeps.rfl _
  unfold Machine.cgetOp at e
  try dsimp only at e
  first  | skip
  refine Keeps.issue hp e (fun u => ?_)
  clear h e
  have h : Keeps p m u u := Keeps.rfl _
  try dsimp only
  iterate 25 (all_goals try first | with_reducible assumption | with_reducible exact Keeps.rfl _ | exact fun w => Core.wf_wr ((crRead_ls _ _ _).symm ▸ w) | refine Keeps.retire hp ?_ ?_ | refine Keeps.retire (hp _) ?_ ?_ | exact id | exact Core.wf_storeLs | exact Core.wf_updLine | exact Core.wf_noteLoad | exact Core.wf_wr | exact fun w => Core.wf_wr (Core.wf_noteLoad w) | with_reducible refine Keeps.issue hp ?_ | with_reducible refine Keeps.ite ?_ ?_ | split | dsimp only | refine Keeps.of_mk (Eq.refl _) (Eq.refl _) (Eq.refl _) (Eq.refl _) ?_)

theorem Keeps.cputOp_next {c : Nat} {word : W32} {rs : GReg} {i : Nat} (hp : ¬p c) (e : (Machine.cputOp c word rs i s) = .next t) : Keeps p m s t := by
  have h : Keeps p m s s := Keeps.rfl _
  unfold Machine.cputOp at e
  try dsimp only at e
  first  | skip
  refine Keeps.issue hp e (fun u => ?_)
  clear h e
  have h : Keeps p m u u := Keeps.rfl _
  try dsimp only
  iterate 25 (all_goals try first | with_reducible assumption | with_reducible exact Keeps.rfl _ | exact fun w => (crWrite_ls _ _ _ _ _).symm ▸ w | refine Keeps.retire hp ?_ ?_ | refine Keeps.retire (hp _) ?_ ?_ | exact id | exact Core.wf_storeLs | exact Core.wf_updLine | exact Core.wf_noteLoad | exact Core.wf_wr | exact fun w => Core.wf_wr (Core.wf_noteLoad w) | with_reducible refine Keeps.issue hp ?_ | with_reducible refine Keeps.ite ?_ ?_ | split | dsimp only | refine Keeps.of_mk (Eq.refl _) (Eq.refl _) (Eq.refl _) (Eq.refl _) ?_)

theorem Keeps.timerEdge {c : Nat} (h : Keeps p m a s) : Keeps p m a (Machine.timerEdge s c) := by
  unfold Machine.timerEdge
  try dsimp only
  iterate 25 (all_goals try first | with_reducible assumption | with_reducible exact Keeps.rfl _ | ((with_reducible refine Keeps.setCore ?_ ?_); exact ⟨Eq.refl _, Eq.refl _, Eq.refl _⟩) | with_reducible refine Keeps.ite ?_ ?_ | split | dsimp only | refine Keeps.of_mk (Eq.refl _) (Eq.refl _) (Eq.refl _) (Eq.refl _) ?_)

theorem Keeps.submitResume {c : Nat} {off : Nat} {v : W64} (hm : ¬m) (hp : ∀ c, ¬p c) (h : Keeps p m a s) : Keeps p m a (Machine.submitResume s c off v) := by
  unfold Machine.submitResume
  try dsimp only
  iterate 25 (all_goals try first | with_reducible assumption | with_reducible exact Keeps.rfl _ | with_reducible refine Keeps.coreRegWrite_ok hm hp (by assumption) ?_ | with_reducible refine Keeps.coreRegWrite_inv hm hp (by assumption) ?_ | with_reducible refine Keeps.raiseExc (hp _) ?_ | refine Keeps.retire hp ?_ ?_ | refine Keeps.retire (hp _) ?_ ?_ | exact id | exact Core.wf_storeLs | exact Core.wf_updLine | exact Core.wf_noteLoad | exact Core.wf_wr | exact fun w => Core.wf_wr (Core.wf_noteLoad w) | ((with_reducible refine Keeps.setCore ?_ ?_); exact ⟨Eq.refl _, Eq.refl _, Eq.refl _⟩) | ((with_reducible refine Keeps.setCoreRegs (hp _) ?_ ?_); exact Eq.refl _) | ((with_reducible refine Keeps.setCoreEmpty (hp _) ?_ ?_); exact Eq.refl _) | with_reducible refine Keeps.ite ?_ ?_ | split | dsimp only | refine Keeps.of_mk (Eq.refl _) (Eq.refl _) (Eq.refl _) (Eq.refl _) ?_)

theorem Keeps.stagePost {slot : Nat} {twin : Bool} {t' : Item} {sel : Bool} {f : Nat} {w1 : W64} {w2 : W64} (h : Keeps p m a s) : Keeps p m a (Machine.State.stagePost s slot twin t' sel f w1 w2) := by
  unfold Machine.State.stagePost
  try dsimp only
  iterate 25 (all_goals try first | with_reducible assumption | with_reducible exact Keeps.rfl _ | with_reducible refine Keeps.setItem ?_ | with_reducible refine Keeps.setFlume ?_ | with_reducible refine Keeps.ite ?_ ?_ | split | dsimp only | refine Keeps.of_mk (Eq.refl _) (Eq.refl _) (Eq.refl _) (Eq.refl _) ?_)

theorem Keeps.tryPost_some {slot : Nat} {twin : Bool} {t' : Item} {sel : Bool} {w1 : W64} {w2 : W64}  (e : (Machine.tryPost s slot twin t' sel w1 w2) = some t) (h : Keeps p m a s) : Keeps p m a t := by
  unfold Machine.tryPost at e
  try dsimp only at e
  repeat' split at e
  all_goals first | (cases e; done) | skip
  all_goals (try cases e)
  iterate 25 (all_goals try first | with_reducible assumption | with_reducible exact Keeps.rfl _ | with_reducible refine Keeps.stagePost ?_ | with_reducible refine Keeps.ite ?_ ?_ | split | dsimp only | refine Keeps.of_mk (Eq.refl _) (Eq.refl _) (Eq.refl _) (Eq.refl _) ?_)

theorem Keeps.doneFailed {c : Nat} {slot : Nat} {t' : Item} {st : W16} (hm : ¬m) (h : Keeps p m a s) : Keeps p m a (Machine.doneFailed s c slot t' st) := by
  unfold Machine.doneFailed
  try dsimp only
  iterate 25 (all_goals try first | with_reducible assumption | with_reducible exact Keeps.rfl _ | with_reducible refine Keeps.failItem hm ?_ | with_reducible refine Keeps.coreLoop ?_ | with_reducible refine Keeps.ite ?_ ?_ | split | dsimp only | refine Keeps.of_mk (Eq.refl _) (Eq.refl _) (Eq.refl _) (Eq.refl _) ?_)

theorem Keeps.donePark {c : Nat} {slot : Nat} {t' : Item} {waitall : Bool} {mask : W64} (hm : ¬m) (h : Keeps p m a s) : Keeps p m a (Machine.donePark s c slot t' waitall mask) := by
  unfold Machine.donePark
  try dsimp only
  iterate 25 (all_goals try first | with_reducible assumption | with_reducible exact Keeps.rfl _ | with_reducible refine Keeps.setItem ?_ | with_reducible refine Keeps.discardItem hm ?_ | with_reducible refine Keeps.coreLoop ?_ | with_reducible refine Keeps.writeBackAll hm ?_ | with_reducible refine Keeps.doneFailed hm ?_ | with_reducible refine Keeps.ite ?_ ?_ | split | dsimp only | refine Keeps.of_mk (Eq.refl _) (Eq.refl _) (Eq.refl _) (Eq.refl _) ?_)

theorem Keeps.doneCommit {c : Nat} {slot : Nat} {twin : Bool} {sig : W64} {st : W16} (hm : ¬m) (h : Keeps p m a s) : Keeps p m a (Machine.doneCommit s c slot twin sig st) := by
  unfold Machine.doneCommit
  try dsimp only
  iterate 25 (all_goals try first | with_reducible assumption | with_reducible exact Keeps.rfl _ | with_reducible refine Keeps.setItem ?_ | with_reducible refine Keeps.coreLoop ?_ | with_reducible refine Keeps.writeBackAll hm ?_ | ((with_reducible refine Keeps.setCore ?_ ?_); exact ⟨Eq.refl _, Eq.refl _, Eq.refl _⟩) | with_reducible refine Keeps.ite ?_ ?_ | split | dsimp only | refine Keeps.of_mk (Eq.refl _) (Eq.refl _) (Eq.refl _) (Eq.refl _) ?_)

theorem Keeps.doneOp_next {c : Nat} {word : W32} {ra : GReg} {rb : GReg} (hm : ¬m) (hp : ¬p c) (e : (Machine.doneOp c word ra rb s) = .next t) : Keeps p m s t := by
  have h : Keeps p m s s := Keeps.rfl _
  unfold Machine.doneOp at e
  try dsimp only at e
  first  | skip
  refine Keeps.issue hp e (fun u => ?_)
  clear h e
  have h : Keeps p m u u := Keeps.rfl _
  try dsimp only
  iterate 25 (all_goals try first | with_reducible assumption | with_reducible exact Keeps.rfl _ | with_reducible refine Keeps.coreLoop ?_ | with_reducible refine Keeps.doneFailed hm ?_ | with_reducible refine Keeps.donePark hm ?_ | with_reducible refine Keeps.doneCommit hm ?_ | with_reducible refine Keeps.issue hp ?_ | with_reducible refine Keeps.ite ?_ ?_ | split | dsimp only | refine Keeps.of_mk (Eq.refl _) (Eq.refl _) (Eq.refl _) (Eq.refl _) ?_)

theorem Keeps.cacheOp_next {c word ra f near} (hp : ¬p c) (hf : ∀ u n, Keeps p m u (f (u.core c) n u)) (hn : ∀ u r, Keeps p m u (near (u.core c) r u))
    (e : Machine.cacheOp c word ra s f near = .next t) : Keeps p m s t := by
  refine Keeps.issue hp e (fun u => ?_)
  dsimp only
  repeat' split
  all_goals first | exact hf _ _ | exact hn _ _ | exact Keeps.rfl _ | exact Keeps.raiseExc hp (Keeps.rfl _)

theorem Keeps.wideOp_next {c word x lim bad regs dst f} (hp : ¬p c) (e : Machine.wideOp c word x lim bad regs s f dst = .next t) (hf : ∀ k n, (f k n).ls = k.ls) :
    Keeps p m s t :=
  Keeps.issue hp e (fun u => Keeps.retire hp (fun w => (hf (u.core c) (u.core c).vln.toNat).symm ▸ w) (Keeps.rfl _))

theorem Keeps.wElemOp_next {c : Nat} {word : W32} {u : WUnit} {bad : Bool} {sz : WSize} {wd : WReg} {wa : WReg} {b : WSrc} {f : Nat → Nat → Nat → Nat} (hp : ¬p c) (e : (Machine.wElemOp c word u bad sz wd wa b f s) = .next t) : Keeps p m s t := by
  have h : Keeps p m s s := Keeps.rfl _
  unfold Machine.wElemOp at e
  try dsimp only at e
  first | exact Keeps.wideOp_next hp e (fun k n => Eq.refl _) | exact Keeps.wideOp_next hp e (fun k n => Core.wr_ls _ _ _) | exact Keeps.wideOp_next hp e (fun k n => (Core.wr_ls _ _ _).trans (Core.wr_ls _ _ _)) | skip
  repeat' split at e
  all_goals first | exact Keeps.wideOp_next hp e (fun k n => Eq.refl _) | exact Keeps.wideOp_next hp e (fun k n => Core.wr_ls _ _ _) | exact Keeps.wideOp_next hp e (fun k n => (Core.wr_ls _ _ _).trans (Core.wr_ls _ _ _)) | (cases e; done) | skip
  all_goals (try cases e)
  try dsimp only
  iterate 25 (all_goals try first | with_reducible assumption | with_reducible exact Keeps.rfl _ | with_reducible refine Keeps.ite ?_ ?_ | split | dsimp only | refine Keeps.of_mk (Eq.refl _) (Eq.refl _) (Eq.refl _) (Eq.refl _) ?_)

theorem Keeps.wCmpOp_next {c : Nat} {word : W32} {bad : Bool} {sz : WSize} {wd : WReg} {wa : WReg} {b : WSrc} {f : Nat → Nat → Nat → Bool} (hp : ¬p c) (e : (Machine.wCmpOp c word bad sz wd wa b f s) = .next t) : Keeps p m s t := by
  have h : Keeps p m s s := Keeps.rfl _
  unfold Machine.wCmpOp at e
  try dsimp only at e
  first | exact Keeps.wideOp_next hp e (fun k n => Eq.refl _) | exact Keeps.wideOp_next hp e (fun k n => Core.wr_ls _ _ _) | exact Keeps.wideOp_next hp e (fun k n => (Core.wr_ls _ _ _).trans (Core.wr_ls _ _ _)) | skip
  repeat' split at e
  all_goals first | exact Keeps.wideOp_next hp e (fun k n => Eq.refl _) | exact Keeps.wideOp_next hp e (fun k n => Core.wr_ls _ _ _) | exact Keeps.wideOp_next hp e (fun k n => (Core.wr_ls _ _ _).trans (Core.wr_ls _ _ _)) | (cases e; done) | skip
  all_goals (try cases e)
  try dsimp only
  iterate 25 (all_goals try first | with_reducible assumption | with_reducible exact Keeps.rfl _ | with_reducible refine Keeps.ite ?_ ?_ | split | dsimp only | refine Keeps.of_mk (Eq.refl _) (Eq.refl _) (Eq.refl _) (Eq.refl _) ?_)

theorem Keeps.wMulOp_next {c : Nat} {word : W32} {lim : Nat} {bad : Bool} {wd : WReg} {wa : WReg} {wb : WReg} {f : Nat → Wide → Wide → Wide → Wide} (hp : ¬p c) (e : (Machine.wMulOp c word lim bad wd wa wb f s) = .next t) : Keeps p m s t := by
  have h : Keeps p m s s := Keeps.rfl _
  unfold Machine.wMulOp at e
  try dsimp only at e
  first | exact Keeps.wideOp_next hp e (fun k n => Eq.refl _) | exact Keeps.wideOp_next hp e (fun k n => Core.wr_ls _ _ _) | exact Keeps.wideOp_next hp e (fun k n => (Core.wr_ls _ _ _).trans (Core.wr_ls _ _ _)) | skip
  repeat' split at e
  all_goals first | exact Keeps.wideOp_next hp e (fun k n => Eq.refl _) | exact Keeps.wideOp_next hp e (fun k n => Core.wr_ls _ _ _) | exact Keeps.wideOp_next hp e (fun k n => (Core.wr_ls _ _ _).trans (Core.wr_ls _ _ _)) | (cases e; done) | skip
  all_goals (try cases e)
  try dsimp only
  iterate 25 (all_goals try first | with_reducible assumption | with_reducible exact Keeps.rfl _ | with_reducible refine Keeps.ite ?_ ?_ | split | dsimp only | refine Keeps.of_mk (Eq.refl _) (Eq.refl _) (Eq.refl _) (Eq.refl _) ?_)

theorem Keeps.wBitOp_next {c : Nat} {word : W32} {wd : WReg} {wa : WReg} {wb : WReg} {f : Bool → Bool → Bool} (hp : ¬p c) (e : (Machine.wBitOp c word wd wa wb f s) = .next t) : Keeps p m s t := by
  have h : Keeps p m s s := Keeps.rfl _
  unfold Machine.wBitOp at e
  try dsimp only at e
  first | exact Keeps.wideOp_next hp e (fun k n => Eq.refl _) | exact Keeps.wideOp_next hp e (fun k n => Core.wr_ls _ _ _) | exact Keeps.wideOp_next hp e (fun k n => (Core.wr_ls _ _ _).trans (Core.wr_ls _ _ _)) | skip
  repeat' split at e
  all_goals first | exact Keeps.wideOp_next hp e (fun k n => Eq.refl _) | exact Keeps.wideOp_next hp e (fun k n => Core.wr_ls _ _ _) | exact Keeps.wideOp_next hp e (fun k n => (Core.wr_ls _ _ _).trans (Core.wr_ls _ _ _)) | (cases e; done) | skip
  all_goals (try cases e)
  try dsimp only
  iterate 25 (all_goals try first | with_reducible assumption | with_reducible exact Keeps.rfl _ | with_reducible refine Keeps.ite ?_ ?_ | split | dsimp only | refine Keeps.of_mk (Eq.refl _) (Eq.refl _) (Eq.refl _) (Eq.refl _) ?_)

theorem Keeps.wRedOp_next {c : Nat} {word : W32} {lim : Nat} {bad : Bool} {wa : WReg} {gs : GReg} {f : Core → Nat → W64} (hp : ¬p c) (e : (Machine.wRedOp c word lim bad wa gs f s) = .next t) : Keeps p m s t := by
  have h : Keeps p m s s := Keeps.rfl _
  unfold Machine.wRedOp at e
  try dsimp only at e
  first | exact Keeps.wideOp_next hp e (fun k n => Eq.refl _) | exact Keeps.wideOp_next hp e (fun k n => Core.wr_ls _ _ _) | exact Keeps.wideOp_next hp e (fun k n => (Core.wr_ls _ _ _).trans (Core.wr_ls _ _ _)) | skip
  repeat' split at e
  all_goals first | exact Keeps.wideOp_next hp e (fun k n => Eq.refl _) | exact Keeps.wideOp_next hp e (fun k n => Core.wr_ls _ _ _) | exact Keeps.wideOp_next hp e (fun k n => (Core.wr_ls _ _ _).trans (Core.wr_ls _ _ _)) | (cases e; done) | skip
  all_goals (try cases e)
  try dsimp only
  iterate 25 (all_goals try first | with_reducible assumption | with_reducible exact Keeps.rfl _ | with_reducible refine Keeps.ite ?_ ?_ | split | dsimp only | refine Keeps.of_mk (Eq.refl _) (Eq.refl _) (Eq.refl _) (Eq.refl _) ?_)

theorem Keeps.wShiftOp_next {c : Nat} {word : W32} {sz : WSize} {wd : WReg} {wa : WReg} {n : Nat} {f : Nat → Nat → Nat → Nat} (hp : ¬p c) (e : (Machine.wShiftOp c word sz wd wa n f s) = .next t) : Keeps p m s t := by
  have h : Keeps p m s s := Keeps.rfl _
  unfold Machine.wShiftOp at e
  try dsimp only at e
  first | exact Keeps.wideOp_next hp e (fun k n => Eq.refl _) | exact Keeps.wideOp_next hp e (fun k n => Core.wr_ls _ _ _) | exact Keeps.wideOp_next hp e (fun k n => (Core.wr_ls _ _ _).trans (Core.wr_ls _ _ _)) | skip
  repeat' split at e
  all_goals first | exact Keeps.wideOp_next hp e (fun k n => Eq.refl _) | exact Keeps.wideOp_next hp e (fun k n => Core.wr_ls _ _ _) | exact Keeps.wideOp_next hp e (fun k n => (Core.wr_ls _ _ _).trans (Core.wr_ls _ _ _)) | (cases e; done) | skip
  all_goals (try cases e)
  try dsimp only
  iterate 25 (all_goals try first | with_reducible assumption | with_reducible exact Keeps.rfl _ | with_reducible refine Keeps.ite ?_ ?_ | split | dsimp only | refine Keeps.of_mk (Eq.refl _) (Eq.refl _) (Eq.refl _) (Eq.refl _) ?_)

theorem Keeps.wBmrgOp_next {c : Nat} {word : W32} {sz : WSize} {sgn : Bool} {wd : WReg} {wa : WReg} {d : Nat} {kk : Nat} (hp : ¬p c) (e : (Machine.wBmrgOp c word sz sgn wd wa d kk s) = .next t) : Keeps p m s t := by
  have h : Keeps p m s s := Keeps.rfl _
  unfold Machine.wBmrgOp at e
  try dsimp only at e
  first | exact Keeps.wideOp_next hp e (fun k n => Eq.refl _) | exact Keeps.wideOp_next hp e (fun k n => Core.wr_ls _ _ _) | exact Keeps.wideOp_next hp e (fun k n => (Core.wr_ls _ _ _).trans (Core.wr_ls _ _ _)) | skip
  repeat' split at e
  all_goals first | exact Keeps.wideOp_next hp e (fun k n => Eq.refl _) | exact Keeps.wideOp_next hp e (fun k n => Core.wr_ls _ _ _) | exact Keeps.wideOp_next hp e (fun k n => (Core.wr_ls _ _ _).trans (Core.wr_ls _ _ _)) | (cases e; done) | skip
  all_goals (try cases e)
  try dsimp only
  iterate 25 (all_goals try first | with_reducible assumption | with_reducible exact Keeps.rfl _ | with_reducible refine Keeps.ite ?_ ?_ | split | dsimp only | refine Keeps.of_mk (Eq.refl _) (Eq.refl _) (Eq.refl _) (Eq.refl _) ?_)

theorem Keeps.wideFill {c line : Nat} (hm : ¬m) (h : Keeps p m a s) : Keeps p m a (Machine.wideFill s c line).2 := by
  unfold Machine.wideFill
  dsimp only
  split
  · exact h
  · split
    · exact Keeps.setCore ⟨Eq.refl _, Eq.refl _, Eq.refl _⟩ (Keeps.readLine (Keeps.drainWb hm h))
    · exact Keeps.placeLine hm (Keeps.readLine (Keeps.drainWb hm h))

theorem Keeps.wideFill_pair {c line : Nat} (hm : ¬m) {x} (e : Machine.wideFill s c line = (x, t)) (h : Keeps p m a s) : Keeps p m a t := by
  have k : Keeps p m a (Machine.wideFill s c line).2 := Keeps.wideFill hm h
  rw [e] at k
  exact k

/-- A load of one element, by a `put` that leaves local store alone. -/
theorem Keeps.wideLoadElem {c w i} {put : Core → Nat → Nat → Core} (hm : ¬m) (hp : ¬p c) (hl : ∀ k i v, (put k i v).ls = k.ls) (h : Keeps p m a s) :
    Keeps p m a (Machine.wideLoadElem s c w put i) := by
  unfold Machine.wideLoadElem
  dsimp only
  repeat' split
  · exact Keeps.setCoreRegs hp (hl _ _ _) h
  · exact Keeps.setCoreRegs hp (hl _ _ _) h
  · exact Keeps.setCoreRegs hp ((hl _ _ _).trans (Core.noteLoad_regs _ _).2.2) (Keeps.wideFill hm h)
  · exact Keeps.wideFill hm h
  · exact h

theorem Keeps.wideStoreElem {c w i} (hm : ¬m) (hp : ¬p c) (h : Keeps p m a s) : Keeps p m a (Machine.wideStoreElem s c w i) := by
  unfold Machine.wideStoreElem
  dsimp only
  repeat' split
  · exact Keeps.setCoreWf hp Core.wf_storeLs h
  · exact Keeps.setPool hm h
  · exact Keeps.setCore (Core.updLine_regs _ _ _ _ _) h
  · exact Keeps.storeLine hm (Keeps.drainWb hm h)
  · exact Keeps.setCore ⟨Eq.refl _, Eq.refl _, Eq.refl _⟩ (Keeps.storeLine hm (Keeps.drainWb hm h))
  · exact Keeps.placeLine hm h
  · exact Keeps.setCore (Core.updLine_regs _ _ _ _ _) (Keeps.wideFill hm h)
  · exact Keeps.wideFill hm h
  · exact h

theorem Keeps.wideElems {c w} {l : List Nat} (hm : ¬m) (hp : ¬p c) (hl : ∀ put, w.load = some put → ∀ k i v, (put k i v).ls = k.ls) (h : Keeps p m a s) :
    Keeps p m a (Machine.wideElems c w l s) := by
  induction l generalizing s with
  | nil => exact h
  | cons i l ih =>
    cases e : w.load with
    | some put =>
      have k := Keeps.wideLoadElem (w := w) (i := i) hm hp (hl put e) h
      simp only [Machine.wideElems, e]
      split
      · exact k
      · exact ih k
    | none =>
      have k := Keeps.wideStoreElem (w := w) (i := i) hm hp h
      simp only [Machine.wideElems, e]
      split
      · exact k
      · exact ih k

theorem Keeps.wideMem_next {c word lim bad regs dst mk} (hm : ¬m) (hp : ¬p c) (e : Machine.wideMem c word lim bad regs mk dst s = .next t)
    (hl : ∀ k n put, (mk k n).load = some put → ∀ k i v, (put k i v).ls = k.ls) : Keeps p m s t := by
  refine Keeps.issue hp e (fun u => ?_)
  have k : ∀ l ok, Keeps p m u (Machine.wideElems c { mk (u.core c) (u.core c).vln.toNat with elems := l } ok u) := fun l ok => Keeps.wideElems hm hp (hl _ _) (Keeps.rfl _)
  dsimp only
  split
  · exact Keeps.rfl _
  · split
    · exact k _ _
    · split
      · exact Keeps.raiseExc hp (k _ _)
      · exact Keeps.retire hp id (k _ _)

theorem Keeps.wStride_next {c : Nat} {word : W32} {sz : WSize} {wv : WReg} {ga : GReg} {gb : Option GReg} {isLoad : Bool} (hm : ¬m) (hp : ¬p c) (e : (Machine.wStride c word sz wv ga gb isLoad s) = .next t) : Keeps p m s t := by
  have h : Keeps p m s s := Keeps.rfl _
  unfold Machine.wStride at e
  try dsimp only at e
  first | exact Keeps.wideMem_next hm hp e (by intro k n put e2; dsimp only [wLoad] at e2; repeat' split at e2; all_goals first | (cases e2; done) | (cases e2; exact fun _ _ _ => Eq.refl _)) | skip
  repeat' split at e
  all_goals first | exact Keeps.wideMem_next hm hp e (by intro k n put e2; dsimp only [wLoad] at e2; repeat' split at e2; all_goals first | (cases e2; done) | (cases e2; exact fun _ _ _ => Eq.refl _)) | (cases e; done) | skip
  all_goals (try cases e)
  try dsimp only
  iterate 25 (all_goals try first | with_reducible assumption | with_reducible exact Keeps.rfl _ | with_reducible refine Keeps.ite ?_ ?_ | split | dsimp only | refine Keeps.of_mk (Eq.refl _) (Eq.refl _) (Eq.refl _) (Eq.refl _) ?_)

theorem Keeps.wExtLoad_next {c : Nat} {word : W32} {sz : WSize} {sgn : Bool} {wv : WReg} {ga : GReg} (hm : ¬m) (hp : ¬p c) (e : (Machine.wExtLoad c word sz sgn wv ga s) = .next t) : Keeps p m s t := by
  have h : Keeps p m s s := Keeps.rfl _
  unfold Machine.wExtLoad at e
  try dsimp only at e
  first | exact Keeps.wideMem_next hm hp e (by intro k n put e2; dsimp only [wLoad] at e2; repeat' split at e2; all_goals first | (cases e2; done) | (cases e2; exact fun _ _ _ => Eq.refl _)) | skip
  repeat' split at e
  all_goals first | exact Keeps.wideMem_next hm hp e (by intro k n put e2; dsimp only [wLoad] at e2; repeat' split at e2; all_goals first | (cases e2; done) | (cases e2; exact fun _ _ _ => Eq.refl _)) | (cases e; done) | skip
  all_goals (try cases e)
  try dsimp only
  iterate 25 (all_goals try first | with_reducible assumption | with_reducible exact Keeps.rfl _ | with_reducible refine Keeps.ite ?_ ?_ | split | dsimp only | refine Keeps.of_mk (Eq.refl _) (Eq.refl _) (Eq.refl _) (Eq.refl _) ?_)

theorem Keeps.wIndexed_next {c : Nat} {word : W32} {sz : WSize} {wv : WReg} {wi : WReg} {ga : GReg} {isLoad : Bool} (hm : ¬m) (hp : ¬p c) (e : (Machine.wIndexed c word sz wv wi ga isLoad s) = .next t) : Keeps p m s t := by
  have h : Keeps p m s s := Keeps.rfl _
  unfold Machine.wIndexed at e
  try dsimp only at e
  first | exact Keeps.wideMem_next hm hp e (by intro k n put e2; dsimp only [wLoad] at e2; repeat' split at e2; all_goals first | (cases e2; done) | (cases e2; exact fun _ _ _ => Eq.refl _)) | skip
  repeat' split at e
  all_goals first | exact Keeps.wideMem_next hm hp e (by intro k n put e2; dsimp only [wLoad] at e2; repeat' split at e2; all_goals first | (cases e2; done) | (cases e2; exact fun _ _ _ => Eq.refl _)) | (cases e; done) | skip
  all_goals (try cases e)
  try dsimp only
  iterate 25 (all_goals try first | with_reducible assumption | with_reducible exact Keeps.rfl _ | with_reducible refine Keeps.ite ?_ ?_ | split | dsimp only | refine Keeps.of_mk (Eq.refl _) (Eq.refl _) (Eq.refl _) (Eq.refl _) ?_)

end Sys2Proof.Machine
end

