-- ==== Sys2Proof/Tests/Slice0.lean ====
section
/-! SUPPORT. Tests: ill-formed commands that the check refuses, words written out from the spec's encodings, the spec's worked examples, and for each statement
states and operands that meet the hypotheses of its clauses. -/
namespace Sys2Proof.Tests
-- One theorem at a time: elaborated side by side they would all wait, each in a thread of its own, for the kernel to finish Laws/Keeps.lean.
set_option Elab.async false
open Sys2Proof Sys2Proof.Machine

/-! ## Small states -/

/-- A core at 0x100 with a keeper stack. -/
def kc : Machine.Core := { Core.reset with pc := 0x100, evec := 0x800, ksp := 0x3F000 }
/-- A READY module with n instances at tick 10^10. -/
def up (n : Nat) : State :=
  { State.reset with
    pw := { State.reset.pw with state := .ready, tick := 10 ^ 10, perstA := false, perstB := false },
    hi := { State.reset.hi with n := n, linkA := some ⟨5, 16⟩ } }
/-- Core 5 of eight instances in state k. -/
def on (k : Machine.Core) : State := (up 8).setCore 5 k
/-- Core 5 in stage mode. -/
def stage : Machine.Core := { kc with keeper := false }
/-- Core 5 at the end of an armed loop. -/
def atEnd : Machine.Core := { kc with lps := 0x80, lpe := 0x100, lpc := 2 }
/-- Core 5 with its window at DA 0 to 0x100000 and a base register in device memory. -/
def winc : Machine.Core := { kc with winLo := 0, winHi := 0x100000, g := kc.g.set 1 0x10000001000 }
/-- The same with line 0x40 cached, dirty, in way 0. -/
def cachedc : Machine.Core := { winc with cache := [(wayKey 0x40 0, { line := 0x40, dirty := true, data := 5 })] }

/-! ## Core instructions -/

theorem witness_StepTakesTheFrontCommand : ({ up 1 with pending := [.prepDone] } : State).pending = .prepDone :: [] ∧ (up 1).pending = [] ∧
    (up 1).engineUp = true ∧ State.reset.engineUp = false := by decide

theorem witness_RegistersReadAndWritten : (1 : GReg) ≠ 0 ∧ (2 : GReg) ≠ 1 ∧ issues (on kc) 5 { regs := [1] } = true ∧
    issues (on kc) 5 { regs := [1], keeperOnly := true } = true ∧ issues (on kc) 5 { regs := [1], drains := true } = true ∧
    issues (on kc) 5 { regs := [1], notLoopEnd := true } = true ∧ ((kc.wr 1 512).rd 1).toNat = 512 ∧ ¬(8 ≤ (kc.rd 1).toNat) := by decide
theorem witness_stackGood : stackGood kc := by simp only [stackGood]; decide

theorem witness_ScalarRegisterResults : issues (on kc) 5 { regs := [1, 2, 3] } = true := by decide
theorem witness_DivisionAndBitCounts : issues (on kc) 5 { regs := [1, 2] } = true ∧ issues (on kc) 5 { regs := [1, 2, 3] } = true ∧
    (kc.wr 2 (BitVec.intMin 64)).rd 2 = BitVec.intMin 64 ∧ (kc.wr 3 (BitVec.allOnes 64)).rd 3 = BitVec.allOnes 64 := by decide
theorem witness_ImmediateResults : issues (on kc) 5 { regs := [1, 2] } = true ∧ issues (on kc) 5 { regs := [1] } = true := by decide
theorem witness_PackedResults : issues (on kc) 5 { regs := [1, 2, 3] } = true ∧ issues (on kc) 5 { regs := [1, 2] } = true ∧ reaches (on kc) 5 = true ∧
    PSize.h ≠ .b := by decide
theorem witness_ControlTransfers : issues (on kc) 5 { regs := [1, 2], notLoopEnd := true } = true ∧ issues (on kc) 5 { notLoopEnd := true } = true ∧
    issues (on kc) 5 { regs := [31], notLoopEnd := true } = true ∧ issues (on kc) 5 { regs := [1, 31], notLoopEnd := true } = true ∧
    (kc.rd 1).toNat % 4 = 0 ∧ issues (on (kc.wr 1 2)) 5 { regs := [1, 31], notLoopEnd := true } = true ∧ ((kc.wr 1 2).rd 1).toNat % 4 ≠ 0 := by decide
theorem witness_HardwareLoops : issues (on kc) 5 { regs := [1], notLoopEnd := true } = true ∧ issues (on kc) 5 { notLoopEnd := true } = true ∧
    (1 : W16) ≠ 0 ∧ issues (on atEnd) 5 { regs := [1, 2, 3] } = true ∧ atEnd.lpc ≠ 0 ∧ atEnd.pc = atEnd.lpe ∧ reaches (on atEnd) 5 = true ∧ kc.lpc = 0 := by
  decide
theorem witness_ControlAndInterruptRegisters : issues (on kc) 5 { regs := [1], keeperOnly := true } = true ∧
    issues ((up 8).setCore 96 kc) 96 { regs := [1], keeperOnly := true } = true ∧
    (let k := { kc with ic := { kc.ic with pend := 0x30, en := 0x20 } }
     issues (on k) 5 { regs := [1], keeperOnly := true } = true ∧ (k.ic.pend &&& k.ic.en).getLsbD 5 = true ∧
       (∀ m, m < 5 → 0 < m → (k.ic.pend &&& k.ic.en).getLsbD m = false) ∧ k.ic.act = 0) ∧
    (let k := { kc with ic := { kc.ic with act := 4 } }
     issues (on k) 5 { regs := [1], keeperOnly := true } = true ∧ k.ic.act ≠ 0 ∧ (k.rd 1).setWidth 6 ≠ k.ic.act) ∧
    (kc.rd 1).setWidth 6 = kc.ic.act ∧ (kc.rd 1).toNat ≤ (on kc).pw.tick ∧ (on kc).pw.tick < ((kc.wr 1 (BitVec.allOnes 64)).rd 1).toNat := by decide
theorem witness_Exceptions : reaches (on kc) 5 = true ∧ decodeInsn 5 0 = none ∧ reaches (on stage) 5 = true ∧ stage.keeper = false ∧ stage.lpc = 0 ∧
    issues (on kc) 5 { regs := [1, 2], isMem := true } = true ∧ (kc.rd 2 + (1 : W16).signExtend 64).toNat % 2 ≠ 0 ∧
    ((kc.wr 2 0x40000).rd 2 + (0 : W16).signExtend 64).toNat = 0x40000 ∧ winc.winHi.toNat ≤ ((winc.wr 2 0x10000100000).rd 2 + (0 : W16).signExtend 64).toNat - devBase ∧
    reaches (on { kc with ksp := 0x3F008 }) 5 = true ∧ reaches (on { kc with ksp := 8, spstk := 0x3FC01 }) 5 = true ∧ (0x3FC01 : W64).getLsbD 0 = true ∧
    reaches (on { kc with spill := true }) 5 = true := by decide
theorem witness_badStacks : ¬stackGood { kc with ksp := 0x3F008 } ∧ ¬stackGood { kc with ksp := 8, spstk := 0x3FC01 } := by simp only [stackGood]; decide
/-- CR_GTBASE of R201's example on core 5 with entry 5 at handler 0x30400, two pairs, and no entry 6. -/
def gatec : Machine.Core :=
  { kc with gtbase := 0x10F03E000, ls := Cells.writeList [] 0x3E050 (leBytes 8 0x30400 ++ leBytes 8 5), g := (kc.g.set 12 0x30000).set 13 1 }
theorem witness_GateCalls : issues (on gatec) 5 { regs := [10, 11, 12, 13, 14, 15], notLoopEnd := true, drains := true } = true ∧
    gatec.gtbase.getLsbD 32 = true ∧ 5 ≤ bits gatec.gtbase 24 8 ∧ leNat (Cells.readList gatec.ls 0x3E058 8) % 2 = 1 ∧
    leNat (Cells.readList gatec.ls 0x3E058 8) / 2 % 4 = 2 ∧ leNat (Cells.readList gatec.ls 0x3E068 8) % 2 ≠ 1 ∧ (gatec.rd 11).toNat = 0 ∧
    ¬((gatec.rd 12).toNat + (gatec.rd 13).toNat ≤ 0x30000) ∧ poolShare 8 5 = some (0, 2 ^ 22) := by decide
theorem witness_ReturnAndWait : issues (on kc) 5 { keeperOnly := true, notLoopEnd := true, drains := true } = true ∧ kc.era.toNat % 4 = 0 ∧
    ({ kc with era := 2 } : Machine.Core).era.toNat % 4 ≠ 0 ∧ kc.ic.pend &&& kc.ic.en = 0 ∧
    (let k := { kc with ic := { kc.ic with pend := 2, en := 2 } }
     issues (on k) 5 { keeperOnly := true, notLoopEnd := true, drains := true } = true ∧ k.ic.hold = false ∧ k.ic.pend &&& k.ic.en ≠ 0) := by decide
theorem witness_Interrupts :
    let k := { kc with ie := true, ic := { kc.ic with pend := 2, en := 2 } }
    (on k).engineUp = true ∧ k.ic.pend &&& k.ic.en ≠ 0 ∧ k.ic.act = 0 ∧ k.ic.hold = false ∧ k.act ≠ .inDone ∧ k.act ≠ .halted ∧ kc.ie = false ∧
      (on kc).pw.tick < kc.ic.timer.toNat ∧ ({ kc.ic with timer := 5 } : ICtl).timer.toNat ≤ (on kc).pw.tick ∧ kc.ic.fired = false := by decide
theorem witness_LoadsAndStores : issues (on kc) 5 { regs := [1, 2], isMem := true } = true ∧ (kc.rd 2).toNat < 0x40000 ∧
    poolShare (on kc).hi.n 5 = some (0, 2 ^ 22) ∧ issues (on winc) 5 { regs := [2, 1], isMem := true } = true ∧
    winc.findWay 0x40 = none ∧ winc.miss = none ∧ (winc.rd 1).toNat - devBase = 0x1000 ∧ winc.winLo.toNat ≤ 0x1000 ∧ 0x1000 < winc.winHi.toNat ∧
    issues (on cachedc) 5 { regs := [2, 1], isMem := true } = true ∧ cachedc.findWay 0x40 = some 0 ∧
    (SMap.find cachedc.cache (wayKey 0x40 0)).isSome = true ∧ issues (on { kc with spstk := 1 }) 5 { regs := [1, 2], isMem := true } = true ∧
    bits (1 : W64) 10 8 * 1024 = 0 := by decide
theorem witness_AtomicResults : issues (on kc) 5 { regs := [1, 2, 3], isMem := true } = true ∧ (kc.rd 2).toNat % 8 = 0 ∧ (kc.rd 2).toNat < 0x10000000 ∧
    ((kc.wr 2 0x10000008).rd 2).toNat % 8 = 0 ∧ ((kc.wr 2 3).rd 2).toNat % 8 ≠ 0 := by decide
theorem witness_CacheInstructions : issues (on kc) 5 { regs := [2], isMem := true } = true ∧ kc.spstk.getLsbD 0 = false ∧
    issues (on cachedc) 5 { regs := [1], isMem := true } = true ∧ cachedc.miss = none ∧ issues (on { winc with g := winc.g.set 2 64 }) 5 { regs := [1, 2], isMem := true } = true ∧
    issues (on kc) 5 { isMem := true } = true ∧ issues (on kc) 5 { keeperOnly := true } = true ∧ (on kc).mc.sweep = false := by decide
/-- Core 5 of one instance with a miss of line 0x40; slot 2 holds instance 0's memory key. -/
def missc : State :=
  { (up 1).setCore 5 { winc with miss := some { line := 0x40, use := .load 3 0x1008 8 false } } with
    keys := { Keys.reset with slots := [(memKeySlot 0, 7)] } }
theorem witness_FillsAndWideQueue : (missc.core 5).miss = some { line := 0x40, use := .load 3 0x1008 8 false } ∧ (missc.core 5).wbuf = none ∧ missc.mc.sweep = false ∧
    (missc.readLine (tagOfCore 1 5) 0x40).1 = some (List.replicate 64 0) ∧
    (let k := { cachedc with strm := some { next := 0x40, stop := 0x41, used := 0x40 } }
     k.miss = none ∧ k.act ≠ .halted ∧ k.inWindow (64 * 0x40) = true ∧ (k.findWay 0x40).isSome = true) ∧
    ({ kc with strm := some { next := 5, stop := 5, used := 4 } } : Machine.Core).strm = some { next := 5, stop := 5, used := 4 } ∧
    (let e : WEntry := ⟨.mu, false, [1], [2], []⟩
     let d : WEntry := ⟨.px, false, [2], [3], [(4, 9)]⟩
     ({ kc with wq := [e, { d with reads := [1] }] } : Machine.Core).wq = [e] ++ { d with reads := [1] } :: [] ∧ (∀ x ∈ [e], x.unit ≠ d.unit) ∧
       (∀ x ∈ [e], ∀ r ∈ x.writes, r ∉ ({ d with reads := [1] } : WEntry).reads) ∧ ∃ x ∈ [e], ∃ r ∈ x.writes, r ∈ d.reads) := by decide

/-! ## Wide instructions -/

theorem witness_wideIssue : issues (on kc) 5 { isWide := true } = true ∧ issues (on kc) 5 { regs := [1], isWide := true } = true ∧
    issues (on kc) 5 { regs := (elemRegs 1 2 (.scl 1)).g, isWide := true } = true ∧ issues (on kc) 5 { regs := (elemRegs 1 2 (.vec 3)).g, isWide := true } = true ∧
    issues (on kc) 5 { regs := [1, 1 + 1], isWide := true } = true ∧ kc.vln.toNat = 64 ∧ 64 % 2 ^ 6 = 0 ∧ kc.vln.toNat ≤ 4096 / wsizeBits .d := by decide
theorem witness_WideElementwise : issues (on kc) 5 { regs := (elemRegs 1 2 (.scl 1)).g, isWide := true } = true ∧ kc.vln.toNat ≤ 4096 / wsizeBits .d ∧
    (2 : Byte).toNat < kc.vln.toNat ∧ (63 : BitVec 9).toNat < kc.vln.toNat ∧ kc.vln.toNat % 2 ^ (6 : Byte).toNat = 0 := by decide
theorem witness_WideWidening : issues (on kc) 5 { isWide := true } = true ∧ (1 : WReg) ≠ 2 ∧ (1 : WReg) ≠ 3 ∧ WSize.w ≠ .d ∧ kc.vln.toNat ≤ 4096 / (2 * wsizeBits .w) ∧
    kc.vln.toNat ≤ 4096 / wsizeBits .h := by decide
theorem witness_WideBitmaps : issues (on kc) 5 { regs := (elemRegs 1 2 (.vec 3)).g, isWide := true } = true ∧ kc.vln.toNat ≤ 512 ∧
    issues (on kc) 5 { isWide := true } = true ∧ issues (on kc) 5 { regs := [1], isWide := true } = true := by decide
theorem witness_WidePermutations : issues (on kc) 5 { isWide := true } = true ∧ kc.vln.toNat ≤ 4096 / wsizeBits .d ∧ 2 ^ (5 : BitVec 4).toNat < kc.vln.toNat ∧
    (9 : BitVec 4).toNat ≤ 9 ∧ (15 : BitVec 4).toNat = 15 ∧ (1 : WReg) ≠ 2 ∧ kc.vln.toNat ≤ 64 := by decide
theorem witness_WideReductions : issues (on kc) 5 { regs := [1], isWide := true } = true ∧ 0 < kc.vln.toNat ∧ kc.vln.toNat ≤ 4096 / wsizeBits .d ∧ (1 : GReg) ≠ 31 ∧
    issues (on kc) 5 { regs := [1, 1 + 1], isWide := true } = true := by decide
theorem witness_WideFloat : issues (on kc) 5 { regs := (elemRegs 1 2 (.vec 3)).g, isWide := true } = true ∧ kc.vln.toNat ≤ 4096 / wsizeBits .d ∧
    floatExpMax 64 * 2 ^ floatFrac 64 < 0x7FF8000000000000 ∧ ¬(floatExpMax 64 * 2 ^ floatFrac 64 < 0x3FF0000000000000) := by decide
theorem witness_WideLoads : issues (on kc) 5 { regs := [1, 2], isWide := true, isMem := true, resumable := true } = true ∧ kc.vres.toNat ≤ 0 ∧
    (∀ j, j < 64 → (kc.rd 1 + BitVec.ofNat 64 (j * 8)).toNat % 8 = 0 ∧ (kc.rd 1 + BitVec.ofNat 64 (j * 8)).toNat < 0x40000) ∧ (1 : WReg) ≠ 2 ∧
    issues (on { kc with vres := 3 }) 5 { regs := [1, 2], isWide := true, isMem := true, resumable := true } = true ∧
    (let k := kc.wr 2 3
     issues (on k) 5 { regs := [1, 2], isWide := true, isMem := true, resumable := true } = true ∧ (k.rd 1 + BitVec.ofNat 64 1 * k.rd 2).toNat % 8 ≠ 0 ∧
       (k.rd 1 + BitVec.ofNat 64 0 * k.rd 2).toNat % 8 = 0) := by decide
theorem witness_WideStores : issues (on kc) 5 { regs := [1, 2], isWide := true, isMem := true, resumable := true } = true ∧ kc.spstk.getLsbD 0 = false ∧
    issues (on kc) 5 { regs := [1], isWide := true, isMem := true, resumable := true } = true ∧ kc.vln.toNat ≤ 128 := by decide
theorem witness_IllegalForms : reaches (on { kc with vln := 512 }) 5 = true ∧ 256 < ({ kc with vln := 512 } : Machine.Core).vln.toNat ∧ reaches (on kc) 5 = true ∧
    kc.vln.toNat ≤ (64 : BitVec 9).toNat := by decide

/-! ## Headgate and queries -/

/-- Bytes with some of them replaced. -/
def put (l : List Byte) (e : Nat × List Byte) : List Byte := l.take e.1 ++ e.2 ++ l.drop (e.1 + e.2.length)
/-- Code of four stages (ROOT, FLUME, EXCH, BARRIER), two flumes (0 feeds stage 1, 1 is RESULT_FLUME), one exchange of one buffer of 8 B tuples, one scan. -/
def code : List Byte :=
  [(18, [4, 2, 1, 1, 1]), (28, leBytes 4 128), (32, leBytes 4 256), (36, leBytes 4 320), (40, leBytes 4 384),
   (128, [0, 0, 0, 3, 0, 0, 0xFF, 0, 0, 0xFF]), (160, [1, 1, 0, 2, 2, 0, 0xFF, 0xFF, 1, 0xFF]), (192, [2, 2, 0, 1, 0, 0, 0xFF, 0xFF, 0xFF, 0xFF]),
   (224, [3, 3, 0, 0, 0, 0xFF, 0xFF, 0xFF, 0xFF, 0xFF]), (248, [4]), (256, [0, 1, 4]), (264, [1, 0xFF, 4]), (320, [0, 8, 1, 0, 0, 2]),
   (384, [0, 0, 1])].foldl put (List.replicate 448 0)
/-- A query of instance 0 in context 1. -/
def q0 : Query :=
  { inst := 0, cmd := 3, cid := 7, image := 1, code := code, snapshot := 0, flumes := [0, 1], clusters := [0], poolBase := [(0, 0)], arenaDa := 0x10000,
    arenaLen := 0x40000, leaseNeed := 0x20000, paramDa := 0x30000, morsels := [], rootTurn := 0, exchMade := [], barrierMade := [], used := [], handed := [],
    nextHanded := 0, parcels := [], written := 0, raw := [], dest := (0x1000, 256, 0), next := 0, buf := none, status := none, fin := false }
/-- An item of its ROOT stage, waiting. -/
def it0 : Item :=
  { inst := 0, ctx := 1, stage := 0, prio := 3, rmode := false, waitall := false, mirror := false, replayable := true, phase := 0, replays := 0, w2 := 1,
    w3 := 2, w4 := 0xFF00001000, w5 := 4, stamp := 5, flags := 0, mask := 0, isParked := false, parked := none, bound := none, replay := none, draining := [],
    order := 0, handed := none, append := none, prim := Run.fresh none, twin := none }
def fl0 : Flume := { inst := 0, ctx := 1, image := 0, depth := 16, pages := [], staged := 0, posts := [] }
def inst0 : Inst := { Inst.reset with state := .running, sqLog := 6, cqLog := 6 }
/-- One RUNNING instance with that query and those items, core 5 in state k. -/
def hgs (items : SMap Item) (q : Query) (k : Machine.Core) : State :=
  { ((up 1).setInst 0 inst0).setCore 5 k with
    hg := { Hg.reset with items := items, queries := [(1, q)], flumes := [(0, fl0), (1, { fl0 with image := 1 })] },
    keys := { Keys.reset with slots := [(memKeySlot 0, 7)] } }
/-- Core 5 running item slot 9. -/
def itc : Machine.Core := { kc with keeper := false, item := some (9, false) }
def running : Item := { it0 with prim := { Run.fresh none with state := .running 5 } }
def taking : Machine.Core := { kc with act := .taking 3 }
def fullFlume (s : State) : State := s.setFlume 0 { fl0 with staged := 16 }

theorem witness_TakeAndDispatch : issues (on kc) 5 { regs := [16, 17, 18, 19, 20, 21, 22, 23], keeperOnly := true, notLoopEnd := true, drains := true } = true ∧
    (on kc).mc.sweep = false ∧ (hgs [(9, it0)] q0 taking).engineUp = true ∧ (hgs [(9, it0)] q0 taking).pairing 0 = some (5, 9, it0) ∧
    (hgs [] q0 taking).pairing 0 = none := by decide +kernel
theorem witness_pump : ∀ i, i < (hgs [(9, it0)] q0 taking).hi.n → (hgs [(9, it0)] q0 taking).pumpIngest i = hgs [(9, it0)] q0 taking := by
  intro i hi
  obtain rfl : i = 0 := by simp [hgs, up, State.setCore, State.setInst] at hi; omega
  rfl
/-- A send of one tuple of item 9 in its open parcel. -/
def pq : Query :=
  { q0 with parcels := [{ exch := 0, cl := 0, buf := 0, slot := 9, state := 0, seq := 0, tuples := [], spilled := false, addr := 0 }] }
def sender : Item := { running with w4 := 0x1000 }
theorem witness_PostsSignalsAndSends :
    let s := hgs [(9, running)] q0 itc
    s.runOf 5 = some (9, false, running) ∧ running.output false = some 0 ∧ s.doomed running = false ∧ s.flume? 0 = some fl0 ∧ fl0.full = false ∧
      issues s 5 { regs := [1, 2] } = true ∧ (fullFlume s).flume? 0 = some { fl0 with staged := 16 } ∧ ({ fl0 with staged := 16 } : Flume).full = true ∧
      (let s := hgs [(9, sender)] pq itc
       s.runOf 5 = some (9, false, sender) ∧ s.query? 1 = some pq ∧ bits sender.w4 32 8 = 0 ∧ exTuple (exchEnt code 0) = 8 ∧
         localCluster 1 1 0 = 0 ∧ 0 % exBufs (exchEnt code 0) = 0 ∧ issues s 5 { regs := tupleRegs 1 8 } = true ∧ tupleRegs 1 8 = [1] ∧
         (let k := { itc with vln := 1 }
          issues (hgs [(9, sender)] pq k) 5 { isWide := true } = true ∧ k.vln.toNat * 8 = 8) ∧ s.injects 5 8 = true ∧
         { s with mc := { s.mc with sweep := true } }.injects 5 8 = false) := by decide +kernel
def rItem : Item := { running with rmode := true }
def committing : Item := { it0 with prim := { Run.fresh none with state := .committing 5, posts := [{ flume := 0, sel := false, w1 := 1, w2 := 2 }] } }
theorem witness_ItemEnds :
    let s := hgs [(9, rItem)] q0 itc
    s.runOf 5 = some (9, false, rItem) ∧ rItem.append = none ∧ issues s 5 { regs := [1, 2], notLoopEnd := true, drains := true } = true ∧
      s.query? 1 = some q0 ∧ q0.status = none ∧ q0.fin = false ∧ ((itc.wr 1 0x501).rd 1).setWidth 16 = (0x501 : W16) ∧
      (itc.wr 1 0x10000).rd 1 = 0x10000 ∧ rItem.phase ≠ 15 ∧ s.doomed rItem = false ∧ rItem.mirror = false ∧
      (let s := hgs [(9, committing)] q0 itc
       s.item? 9 = some committing ∧ committing.prim.state = .committing 5 ∧ s.mc.sweep = false ∧ (s.core 5).miss = none ∧ s.hasJobs 9 = false ∧ (2 : W64).getLsbD 63 = false ∧ fl0.image ≠ imgResult code) := by
  decide +kernel
def m0 : Morsel := { da := 0x10040, rows := 1, no := 0, first := 0, blocks := 1, segs := [] }
def owner0 : Owner :=
  { no := 0, nonce := [], oek := none, gen := 0, tables := [], nextTable := 0, dry := false, nextLsn := 1, dur := 0, lost := [], lostDropped := false, nextRun := 0,
    origins := [], bad := [] }
theorem witness_ItemCreation :
    let q := { q0 with morsels := [(0, [m0])] }
    let s := (hgs [] q kc).setOwner 0 owner0
    s.query? 1 = some q ∧ slotsPer 1 ≤ 8 * (slotsPer 1 - s.slotsUsed 0) ∧ nextRoot q = some (0, m0, []) ∧ s.morselLost q (scanEnt code 0) m0 = false ∧
      s.morselReady 0 m0 = true ∧ (s.freeSlot 0).isSome = true ∧ (q.grantTwin (stPages (stageEnt code 0)) (stMirror (stageEnt code 0))).isSome = true ∧
      ((hgs [] q0 kc).setFlume 0 { fl0 with posts := [(1, 2, none)] }).flume? 0 = some { fl0 with posts := [(1, 2, none)] } ∧ fl0.image ≠ imgResult code ∧
      stagesOf code 2 = [2] ∧ inputsOf (stageEnt code 2) = [0] ∧ senders code 0 = [0] ∧ (hgs [] q0 kc).drained 1 0 = true ∧
      partitions { pq with parcels := pq.parcels.map (fun p => { p with state := 1 }) } (stageEnt code 2) = [(0, 0)] ∧ stagesOf code 3 = [3] ∧
      (∀ y, y < 64 → (stWaits (stageEnt code 3)).testBit y = true → y = 2) ∧ (hgs [] q0 kc).drained 1 2 = true := by decide +kernel
/-- Every core of instance 0 stalled in POST on the full flume. -/
def jammed : State :=
  let s := fullFlume (hgs [(9, running)] q0 kc)
  { s with
    cores := (List.range 96).map (fun c => (c, { itc with act := .stalled 1 (.post false 1 2) })), hg := { s.hg with flumes := [(0, { fl0 with staged := 16 })] } }
theorem witness_FlumeExtend : jammed.liveCores 0 ≠ [] ∧ (∀ c ∈ jammed.liveCores 0, stalledSend (jammed.core c) = true) ∧
    (∃ c ∈ jammed.liveCores 0, jammed.postBlocked c = true) ∧ ({ fl0 with staged := 16 } : Flume).full = true ∧ (q0.grant 1).isSome = true := by
  decide +kernel
def runCmd : Cmd := { no := 3, src := .ring, cid := 7, opc := 0x10, cls := 1, fence := false, bytes := [], phase := .started, work := .query 1, batch := none }
/-- One byte 5 at DA 0x10000 of instance 0, and a sealed segment of one block wanted back. -/
def result : State := (((hgs [] q0 kc).setFlume 1 { fl0 with image := 1, posts := [(0x10000, 1, none)] }).setInst 0 { inst0 with cmds := [runCmd] }).writeMem 0 0x10000 [5]
def segBlk : SegBlock := { table := 2, col := 0, lsn := 1, firstRow := 0, rows := 1, lost := false, bytes := [9], gone := false }
def seg1 : Segment :=
  { seq := 4, owner := 0, table := 2, col := 0, extent := 0, lsnLo := 1, lsnHi := 1, dur := 1, sup := [], blocks := [segBlk], slot := 0, scanned := 0, key := 7,
    dies := [List.range 17], failed := [], seals := [{ die := 0, good := true }, { die := 1, good := true }], reads := 0, scrubTick := 0 }
def blk1 : Block := { lsn := 1, rows := 1, firstRow := 0, len := 64, da := none, lost := false, landedTick := 0, seg := some 4, run := 0, taken := false }
def tb2 : Table := { id := 2, cols := [⟨0, 0, 0⟩], rows := 1, blocks := [[blk1]] }
def owner2 : Owner := { owner0 with tables := [tb2], nextTable := 3, nextLsn := 2 }
theorem witness_QueryResults : imgStreamOut code = false ∧ result.flume? 1 = some { fl0 with image := 1, posts := [(0x10000, 1, none)] } ∧
    (result.readMem 0 0x10000 1).1 = some [5] ∧ 1 ≤ q0.dest.2.1 ∧ q0.flumes.getD (imgResult code) 0 = 1 := by decide +kernel
def finished : State := (hgs [] { q0 with barrierMade := [3] } kc).setInst 0 { inst0 with cmds := [runCmd] }
theorem witness_QueryComplete : finished.resultsDone 1 { q0 with barrierMade := [3] } = true ∧ (finished.inst 0).cmds = [runCmd] := by decide +kernel
/-- A query that scans table 2 waits for segment 4 (R350). -/
def wantsq : Query := { q0 with code := put (put code (388, [2])) (392, [1]), snapshot := 1, morsels := [(0, [{ m0 with segs := [4] }])] }
def wanting : State :=
  let s := (hgs [] wantsq kc).setOwner 0 owner2
  { s with flash := { s.flash with segments := [seg1], ready := true }, keys := { s.keys with slots := [(memKeySlot 0, 7), (storeKeySlot 0, 7)] } }
theorem witness_SegmentReadComplete : wanting.isUp = true ∧ wanting.mc.sweep = false ∧ wanting.seg? 4 = some seg1 ∧
    wanting.slotKey (storeKeySlot 0) = some seg1.key ∧ seg1.lostPages wanting.flash.dieFail = [] ∧ wanting.owner? 0 = some owner2 ∧
    wanting.wanted owner2 seg1 = true ∧ owner2.table? 2 = some tb2 ∧ tb2.col 0 = [blk1] ∧ blk1.isOf 4 segBlk = true ∧ (wanting.alloc 0 64 1).isSome = true := by
  decide +kernel
theorem witness_FaultsAndReplay :
    let s := hgs [(9, running)] q0 { itc with progress := 0 }
    s.engineUp = true ∧ s.hg.oos.contains 5 = false ∧ instOfCore 1 5 = some 0 ∧ 4 ∈ s.liveCores 0 ∧ clusterOf 4 = clusterOf 5 ∧
      (clustersOf 1 0).any (fun e => e.1 == clusterOf 5) = true ∧ (s.core 5).item = some (9, false) ∧ s.item? 9 = some running ∧
      (s.core 5).act = .running ∧ s.mc.sweep = false ∧ 4000 ≤ s.now ∧ s.query? 1 = some q0 ∧ running.replays + running.draining.length < 2 ∧
      (hgs [(9, { it0 with draining := [false] })] q0 kc).item? 9 = some { it0 with draining := [false] } ∧
      (hgs [(9, { it0 with draining := [false] })] q0 kc).hasJobs 9 = false ∧ s.isUp = true := by decide +kernel

/-! ## Codec, digest engines, keys, flash store, memory controllers, Lantern -/

/-- Core 5 of one instance with a codec or digest descriptor at local store 0x1000, its record at 0x2000, g1 at it and g2 at a register. -/
def jobc (d : List Byte) (reg : W64) : Machine.Core :=
  { kc with ls := Cells.writeList [] 0x1000 (put (slice d 0 64) (56, leBytes 4 0x2000)), g := (kc.g.set 1 0x1000).set 2 reg }
def job0 : CodecJob := { desc := slice [1] 0 64, by_ := { core := 5, inst := some 0, slot := none, twin := false }, order := 0 }
def unitOf (x : CodecUnit) : State := ((up 1).setCore 5 kc).setUnit 1 x
theorem witness_Submissions :
    let s := (up 1).setCore 5 (jobc [1, 1] 0x40032000)
    let d := (s.unitRead (s.clientOf 5) 0x1000 64).1.getD []
    s.codec.reissue = [] ∧ s.dg.held = [] ∧ issues s 5 { regs := [1, 2], isMem := true } = true ∧ s.submitOk (s.clientOf 5) 0x1000 = true ∧
      s.submitOk (s.clientOf 5) (compOf d) = true ∧ compOf d = 0x2000 ∧ jUnit d = 1 ∧ gEngine (slice [7, 0x10, 0] 0 64) = 1 ∧ (s.unit 1).oos = false ∧
      (s.unit 1).queue.length < 64 ∧ 64 ≤ ((s.setUnit 1 { CodecUnit.reset with queue := List.replicate 64 job0 }).unit 1).queue.length ∧
      (s.engine 1).queue.length < 32 := by decide +kernel
/-- A digest job of core 5. -/
def dj (d : List Byte) : DigestJob :=
  { desc := slice d 0 64, by_ := { core := 5, inst := some 0, slot := none, twin := false }, why := .core, order := 0, started := false, key := [], msg := [],
    absorbed := 0, total := 0, st := none, preempts := 0, fail := none, onDie := true }
/-- Core 5 stalled in a submission under UNIT 0xFF, and what gains room. -/
def anyUnit (x : CodecUnit) (gained : List Nat) : State :=
  let s := ((((((up 1).setCore 5 { jobc [1, 0xFF] 0x40032000 with act := .stalled 1 (.codec 0x1000) }).setUnit 0 x).setUnit 1 x).setUnit 2 x).setUnit 3 x)
  { s with codec := { s.codec with gained := gained } }
def fullUnit : CodecUnit := { CodecUnit.reset with queue := List.replicate 64 job0 }
theorem witness_anyUnit :
    (let s := anyUnit CodecUnit.reset [2]
     let d := (s.unitRead (s.clientOf 5) 0x1000 64).1.getD []
     jUnit d = 0xFF ∧ compOf d = 0x2000 ∧ s.submitOk (s.clientOf 5) 0x2000 = true ∧ s.engineUp = true ∧ s.codec.gained = [2] ∧ 2 / 4 = 5 / 8 ∧ (s.unit 2).oos = false ∧
       (s.unit 2).queue.length < 64 ∧ (∀ v, v < 4 → (s.unit 0).load < (s.unit v).load ∨ ((s.unit 0).load = (s.unit v).load ∧ 0 ≤ v))) ∧
    (let s := anyUnit fullUnit []
     (s.unit 0).oos = false ∧ ∀ v, v / 4 = 5 / 8 → v < 4 ∧ ∀ u, u < 4 → ¬((s.unit u).queue.length < 64)) ∧
    (((up 1).setEngine 1 { Engine.reset with queue := List.replicate 32 (dj []) }).engine 1).queue.length = 32 := by
  refine ⟨by decide +kernel, ⟨by decide, fun v h => ⟨by omega, by decide +kernel⟩⟩, by decide +kernel⟩
theorem witness_CodecJobs :
    (let s := unitOf { CodecUnit.reset with queue := [job0] }
     (s.unit 1).oos = false ∧ (s.unit 1).run = none ∧ (s.unit 1).next 1 = some job0 ∧ jKind job0.desc = 1 ∧ descOk (slice [1, 0, 0x80] 0 64) = false) ∧
    (let s := unitOf { CodecUnit.reset with run := some (job0, { status := 2, record := List.replicate 64 1, writes := [] }) }
     (s.unit 1).run = some (job0, { status := 2, record := List.replicate 64 1, writes := [] }) ∧ compOf job0.desc + 64 ≤ 0x40000 ∧ (s.unit 1).runTick + 10000 ≤ s.now) ∧
    (let s := { up 1 with codec := { Codec.reset with reissue := [job0] } }
     s.codecCluster (clusterOf 5) = some 0 ∧ s.leastLoad ((s.unitsOf 0).filter s.unitRoom) = some 0) := by decide +kernel
/-- A codec descriptor: kind, form, type, COUNT, IN and PREDS, with PMASK 1, OUT of 4 KiB in the pool and the record at 0x2000. -/
def cdesc (kind form ty count inp preds : Nat) : List Byte :=
  [BitVec.ofNat 8 (kind + 16 * form), 1, 1, BitVec.ofNat 8 ty] ++ leBytes 4 count ++ leBytes 8 inp ++ leBytes 8 0 ++ leBytes 8 0x10000000 ++ leBytes 4 4096 ++
    leBytes 4 0 ++ leBytes 8 0 ++ leBytes 8 preds ++ leBytes 8 0x2000
/-- A block of four unsigned bytes. -/
def vals4 : List Nat := [1, 2, 3, 4]
def blk4 : List Byte := encodeBlock 1 1 none true vals4
def hdr4 : BlkHdr := parseHdr (blk4.take 64)
/-- Unit 1 of one instance with a job waiting; bytes 1 to 4 at DA 0x1000 and the block at DA 0x2000. -/
def codecSt (d : List Byte) : State :=
  let s := { (up 1).setCore 5 { kc with winLo := 0, winHi := 0x100000 } with keys := { Keys.reset with slots := [(memKeySlot 0, 7)] } }
  ((s.writeMem 0 0x1000 [1, 2, 3, 4]).writeMem 0 0x2000 blk4).setUnit 1 { CodecUnit.reset with queue := [{ job0 with desc := d }] }
/-- The job starts as its statement asks: next on a free unit, a good descriptor, its range in the window, and its input read as `inp`. -/
def codecReady (d inp : List Byte) : Bool :=
  let s := codecSt d
  (s.unit 1).next 1 == some { job0 with desc := d } && !s.mc.sweep && !(s.unit 1).oos && (s.unit 1).run.isNone && descOk d && s.jobWindow (s.clientOf 5) d &&
    (s.unitRead (s.clientOf 5) (jIn d) inp.length).1 == some inp
def encDesc : List Byte := cdesc 1 0 1 4 (devBase + 0x1000) 0
def strDesc : List Byte := cdesc 3 0 0 4 (devBase + 0x1000) 0
def scanDesc (form preds : Nat) : List Byte := cdesc 2 form 0 1 (devBase + 0x2000) preds
def verDesc : List Byte := cdesc 4 0 0 1 (devBase + 0x2000) 0
theorem witness_encodeAndStream : (codecReady encDesc [1, 2, 3, 4] = true ∧ jKind encDesc = 1 ∧ jCount encDesc = 4 ∧ jXref encDesc = 0 ∧ inLen encDesc = 4) ∧
    (encodeBlock 1 1 none true (valuesOfBytes (colW 1) 4 [1, 2, 3, 4])).length ≤ jCap encDesc ∧ (codecReady strDesc [1, 2, 3, 4] = true ∧ jKind strDesc = 3) ∧
    (encodeFrame 1 true [1, 2, 3, 4]).length ≤ jCap strDesc := by refine ⟨?_, ?_, ?_, ?_⟩ <;> decide +kernel
theorem witness_blockReady : codecReady (scanDesc 0 0) (blk4.take 64) = true ∧ codecReady (scanDesc 3 0x3000) (blk4.take 64) = true ∧
    codecReady (scanDesc 4 0x3000) (blk4.take 64) = true ∧ codecReady verDesc (blk4.take 64) = true := by refine ⟨?_, ?_, ?_, ?_⟩ <;> decide +kernel
theorem witness_blockHeader : hdr4.ok = true ∧ hdr4.xcol = false ∧ devOk ((codecSt verDesc).clientOf 5) (jIn verDesc) (64 + hdr4.plen) = true := by decide +kernel
theorem witness_blockPayload :
    let s := codecSt verDesc
    ((s.unitRead (s.clientOf 5) (jIn verDesc) 64).2.unitRead (s.clientOf 5) (jIn verDesc + 64) hdr4.plen).1 = some (slice blk4 64 hdr4.plen) ∧
      (s.unitRead (s.clientOf 5) 0x3000 64).1 = some (List.replicate 64 0) := by decide +kernel
theorem witness_blockChecks : payloadOk hdr4 (slice blk4 64 hdr4.plen) = true ∧ checkOk hdr4 (decodePayload hdr4 (slice blk4 64 hdr4.plen) []) = true := by decide +kernel
theorem witness_blockCheckFails : checkOk { hdr4 with check := hdr4.check + 1 } (decodePayload hdr4 (slice blk4 64 hdr4.plen) []) = false := by decide +kernel
theorem witness_blockBounds : boundsOf hdr4.ty (decodePayload hdr4 (slice blk4 64 hdr4.plen) []) = (hdr4.mn, hdr4.mx, hdr4.nan) := by decide +kernel
theorem witness_scanResults : (parsePreds (List.replicate 64 0)).isSome = true ∧ colFloat hdr4.ty = false ∧
    (scanUnit 3 hdr4.ty 0 (vals4.map (fun v => (true, v)))).length ≤ 4096 ∧ minBy (boundKey hdr4.ty) vals4 = some 1 ∧
    maxBy (boundKey hdr4.ty) vals4 = some 4 := by decide +kernel
/-- A job that has used all the time of its input and 10 µs more. -/
def late : State :=
  { unitOf { CodecUnit.reset with run := some (job0, { status := 0, record := [], writes := [] }) } with
    pw := { (up 1).pw with tick := Config.codecTime (inLen job0.desc) + 10000 } }
theorem witness_watchdog : late.mc.sweep = false ∧ (late.unit 1).run = some (job0, { status := 0, record := [], writes := [] }) ∧
    (late.unit 1).runTick + Config.codecTime (inLen job0.desc) + 10000 ≤ late.now := by
  refine ⟨rfl, rfl, ?_⟩
  have h : (late.unit 1).runTick = 0 := rfl
  have n : late.now = Config.codecTime (inLen job0.desc) + 10000 := by simp only [late, State.now]
  exact Nat.le_of_eq (by rw [h, n, Nat.zero_add])
theorem witness_EncodedBlocksDecode : (colWidth 1).isSome = true ∧ (∀ v ∈ vals4, v < 2 ^ colW 1) ∧ streamCands 0 ≠ [] ∧
    (∀ r, some ({ da := 0, vals := vals4 } : RefBlock) = some r → r.vals.length = vals4.length ∧ ∀ v ∈ r.vals, v < 2 ^ colW 1) ∧
    (let pb := (parsePreds ([4] ++ List.replicate 7 0 ++ [9] ++ List.replicate 55 0)).getD ⟨⟨0, 0, 0⟩, ⟨0, 0, 0⟩, false⟩
     parsePreds ([4] ++ List.replicate 7 0 ++ [9] ++ List.replicate 55 0) = some pb ∧ boundsOf 1 vals4 = (hdr4.mn, hdr4.mx, hdr4.nan)) := by decide +kernel
def eng (x : Engine) : State := ((up 1).setCore 5 kc).setEngine 2 x
theorem witness_DigestJobsAndKeyLoads :
    (let s := eng { Engine.reset with queue := [dj [1, 8]] }
     (s.engine 2).next 1 = .fresh (dj [1, 8]) ∧ digestDescOk (dj [0]).desc false = false ∧ digestDescOk (dj [1, 8]).desc false = true) ∧
    slotDenied (dj [1 + 64, 8]).desc = true ∧ gUrgent (dj [1, 8]).desc = false ∧ gShmem (dj [1, 8]).desc = false ∧
    ({ Engine.reset with queue := [dj [1, 9]] } : Engine).urgents ≠ 0 ∧ (up 1).shadowUsed < 64 ∧ gFinal (dj [1, 8]).desc = true ∧ gDest (dj [1, 8]).desc = 0 ∧
    algHmac (gAlg (dj [1, 8]).desc) = false ∧ ((eng Engine.reset).engine 3).oos = false ∧
    (let s := ((up 1).setInst 0 { Inst.reset with state := .stopped }).setOwner 0 owner0
     s.keys.busy = none ∧ bits (0x100 : W32) 0 5 < s.hi.n ∧ (s.inst 0).state = .stopped ∧ s.owner? 0 = some owner0 ∧ owner0.oek = none ∧ (0x100 : W32).getLsbD 8 = true ∧
       s.isUp = true) := by
  refine ⟨⟨rfl, ?_⟩, ?_⟩ <;> decide +kernel
theorem witness_digestFails : (up 1).mc.sweep = false ∧ (up 1).dg.held = [] ∧ slotNamed (dj [1, 8]).desc = false ∧ slotNamed (slice [5 + 64, 8] 0 64) = true ∧
    (let ok := put (put (slice [1, 8] 0 64) (8, leBytes 8 0x3000)) (40, leBytes 8 0x4000)
     let far := put ok (8, leBytes 8 0x80000)
     digestDescOk ok false = true ∧ (up 1).digestWindow ((up 1).clientOf 5) ok = true ∧ digestDescOk (put far (16, [64])) false = true ∧
       (up 1).digestWindow ((up 1).clientOf 5) (put far (16, [64])) = false) ∧
    (let named := put (slice [1 + 16, 8] 0 64) (40, leBytes 8 5)
     digestDescOk named true = true ∧ slotDenied named = true) := by decide +kernel
def openBlk : Block := { blk1 with len := 2 ^ 20, da := some 0, seg := none }
def owner3 : Owner := { owner2 with tables := [{ tb2 with blocks := [[openBlk]] }] }
def store (o : Owner) : State := ((up 1).setInst 0 inst0).setOwner 0 o
def sealJob0 : SealJob := { owner := 0, table := 2, col := 0, sup := [], blocks := [(2, 0, 0)] }
def sealing : State :=
  let s := store { owner3 with tables := [{ tb2 with blocks := [[{ openBlk with len := 64, taken := true }]] }] }
  { s with flash := { s.flash with jobs := [sealJob0] } }
def sealed : State :=
  let s := store owner2
  { s with flash := { s.flash with segments := [seg1], sealSeq := 4 } }
theorem witness_FlashStoreSteps :
    (store owner3).isUp = true ∧ owner3.dry = false ∧ (∃ x ∈ owner3.allBlocks, x.isOpen = true ∧ x.landedTick + 10 ^ 9 ≤ (store owner3).now) ∧
    owner3.openSegs = [(2 ^ 20, [(2, 0, 0)])] ∧ sealing.flash.jobs.find? (fun y => y.owner == 0) = some sealJob0 ∧ sealing.liveCores 0 ≠ [] ∧ (sealing.inst 0).cmds = [] ∧
    (let s := (up 1)
     s.flash.unusable = false ∧ ({ s with pw := { s.pw with tick := 30 * 10 ^ 9 } } : State).flash.ckptTick + 30 * 10 ^ 9 ≤ 30 * 10 ^ 9) ∧
    sealed.flash.segments.find? (fun y => y.seq == 4) = some seg1 ∧ [4].Nodup ∧ (∃ g ∈ sealed.flash.segments, g.seq = 4 ∧ g.owner = 0 ∧ sealed.flash.dead g = false) ∧
    sealed.liveBlocks { owner2 with dur := 1 } [4] ≠ [] ∧
    extentOf ((sealed.liveBlocks { owner2 with dur := 1 } [4]).map (fun b => b.bytes.length)).sum 1 ≤ 2 ^ 24 ∧
    (up 1).flash.dieFail.contains 3 = false ∧ (up 1).engineUp = true := by decide +kernel
def sealed1 : State := sealed.setOwner 0 { owner2 with dur := 1 }
theorem witness_flashSegments : sealing.allocOrder 1 ≠ [] ∧ sealing.mc.sweep = false ∧ seg1.failed = [] ∧ seg1.lostPages sealed.flash.dieFail = [] ∧ seg1.reads + 1 < 50000 ∧
    sealed1.owner? 0 = some { owner2 with dur := 1 } ∧ sealed1.allocOrder 1 ≠ [] ∧ (∀ b ∈ owner2.allBlocks, ∀ q, b.seg = some q → q ∈ [4] → b.lsn ≤ 1) ∧
    sealed1.liveBlocks { owner2 with dur := 1 } [4] ≠ [] ∧ sealed1.isUp = true ∧ sealed1.seg? 4 = some seg1 ∧ sealed1.flash.dead seg1 = false := by
  refine ⟨by decide +kernel, by decide +kernel, by decide, by decide +kernel, by decide, by decide +kernel, by decide +kernel, fun b h q e _ => ?_, by decide +kernel, by decide +kernel,
    by decide +kernel, by decide +kernel⟩
  have : b = blk1 := by simpa [owner2, owner0, tb2, Owner.allBlocks] using h
  subst this; decide
theorem witness_dies : (up 1).engineUp = true ∧ (up 1).part.variant ≠ .c ∧ (up 1).keys.oosFlash.contains 0 = false ∧ (up 1).hasDie 3 = true ∧
    (let s := { up 1 with flash := { Flash.reset with dieFail := [3] } }
     s.flash.dieFail.contains 3 = true) ∧
    (let s := { sealed with flash := { sealed.flash with reserveUsed := 2 ^ 60 } }
     s.reserveBytes < s.flash.reserveUsed + s.flash.liveBytes 3 ∧ 0 ∈ s.flash.ownersOn 3 ∧ s.owner? 0 = some owner2) ∧
    (let s := { up 1 with flash := { Flash.reset with rebuild := [(3, 5)] } }
     s.isUp = true ∧ s.flash.rebuild = [(3, 5)]) ∧ (up 1).flash.unusable = false ∧ 8192 ≤ ({ Flash.reset with sealsSince := 8192 } : Flash).sealsSince := by decide +kernel
/-- A trained module with errors in row 0 of channel 2. -/
def mem (e : List SymErr) : State := { up 1 with mc := { Mc.reset with trained := true, errs := [(rowKey 2 0, e)] } }
theorem witness_RankSteps : (mem []).chanRuns 2 = true ∧ ((mem []).rank 2 0).power = .awake ∧ ((mem []).rank 2 0).refTick + 3906 ≤ (mem []).now ∧
    ((mem []).rank 2 0).zqTick + 1000000 ≤ (mem []).now ∧ (mem []).mc.pdn ≠ 0 ∧ (mem []).mc.sref ≠ 0 ∧ ((mem []).rank 2 0).mrTick + 16000000 ≤ (mem []).now ∧
    (((mem []).setRank 2 0 { Rank.reset with power := .selfRefresh }).rank 2 0).power = .selfRefresh := by decide +kernel
theorem witness_ScrubSweepAndLoss : (mem []).isUp = true ∧ (mem []).chanRuns 2 = true ∧ SMap.get (mem []).mc.errs [] (rowKey 2 0) = [] ∧
    ((mem []).rank 2 ((mem []).rankOf 0)).power ≠ .selfRefresh ∧ SMap.get (mem [⟨3, 0, 9⟩]).mc.errs [] (rowKey 2 0) = [⟨3, 0, 9⟩] ∧
    ((mem []).chan 2).buf = none ∧ (mem []).keys.oosMem.contains (2 / 4) = false ∧ ((mem []).chan 2).lost = false ∧ ((mem []).inst 0).failing = false ∧
    (let s := { up 1 with mc := { Mc.reset with sweep := true } }
     s.isUp = true ∧ s.mc.sweep = true ∧ { s with pw := { s.pw with state := .train } }.pw.state = .train) ∧
    (let e : Eye := ⟨0, 8, 10, 40, 10, 40⟩
     (eyeWord e).getLsbD 31 = true ∧ (eyeWord { e with rdHi := 12 }).getLsbD 31 = false) ∧
    (∀ i, i < (up 1).hi.n → ((up 1).inst i).state = .none) ∧ (up 1).sl.act = false ∧ (up 1).sl.test = .idle ∧ ((store owner0).inst 0).state = .running := by
  decide +kernel
def sensors0 : Sensors := { railUJ := [50000, 1, 2, 3, 4], railMW := [], temps := [] }
theorem witness_LanternSamples : (up 1).tl.mark + 1000000 ≤ (up 1).now ∧ (up 1).isUp = true ∧ 0 < (up 1).hi.n ∧ State.reset.pw.state ≠ .off ∧ State.reset.isUp = false ∧
    ({ up 1 with tl := { Tl.reset with mark := 10 ^ 10 } } : State).now < 10 ^ 10 + 1000000 ∧ (up 1).tl.pace.getLsbD 0 = false ∧
    ({ up 1 with tl := { Tl.reset with pace := 1 } } : State).tl.pace.getLsbD 0 = true ∧ sensors0.railUJ.length = 5 ∧
    ({ up 1 with pw := { (up 1).pw with state := .off } } : State).pw.state = .off := by decide +kernel

/-! ## PW island, supervisor, host interface -/

/-- A module in a state, with the engine's READY registers. -/
def pwIn (x : PwState) : State := { up 1 with pw := { (up 1).pw with state := x } }
/-- STANDBY with every rail but VCORE_IN stable and VCORE_IN risen. -/
def rising : State :=
  { State.reset with pw := { State.reset.pw with vana := ⟨true, true⟩, vio := ⟨true, true⟩, vcore := ⟨true, false⟩ } }
theorem witness_RailSequencing : (pwIn .off).pw.state = .off ∧ Rail.vio ≠ .vaux ∧ State.reset.pw.state ≠ .off ∧
    (∀ e ∈ earlier .vio, (rising.pw.rail e).stable = true) ∧ (∃ e ∈ earlier .vio, (State.reset.pw.rail e).stable = false) ∧ State.reset.pw.seqFault = 0 ∧
    (rising.pw.rail .vcore).up = true ∧ (up 1).engineUp = true ∧ (up 1).pw.state ≠ .quiesced ∧ State.reset.engineUp = false ∧
    (pwIn .quiesced).pw.state = .quiesced ∧ rising.pw.state = .standby ∧ rising.pw.vcore.up = true ∧ rising.pw.vaux.stable = true ∧ rising.pw.vana.stable = true ∧
    rising.pw.vio.stable = true ∧
    (let s := { State.reset with pw := { State.reset.pw with state := .hold } }
     s.pw.state = .hold ∧ s.pw.vana.up = false ∧ s.pw.vio.up = false ∧ s.pw.vcore.up = false) := by decide +kernel
def quiescing : State := { up 1 with pw := { (up 1).pw with quiesce := true, quiescing := true } }
theorem witness_StartupStates : (pwIn .prep).pw.state = .prep ∧ (pwIn .prep).pw.perstA = false ∧
    (let s := { pwIn .prep with pw := { (pwIn .prep).pw with perstA := true, prepDone := true } }
     s.pw.state = .prep ∧ s.pw.perstA = true ∧ s.pw.prepDone = true) ∧
    (let s := { pwIn .train with mc := { Mc.reset with trained := true } }
     s.pw.state = .train ∧ s.mc.trained = true) ∧ (pwIn .recover).pw.state = .recover ∧ (up 1).pw.state = .ready ∧ (up 1).pw.quiescing = false ∧
    quiescing.pw.state = .ready ∧ quiescing.pw.quiescing = true ∧ (∀ i, i < quiescing.hi.n → ∀ c ∈ (quiescing.inst i).cmds, c.phase ≠ .started) ∧
    (∀ e ∈ quiescing.flash.owners, e.2.unsettled = false) ∧ (up 1).engineUp = true ∧
    (let s := ((up 1).setCore 96 { Core.reset with act := .halted }).setCore 97 { Core.reset with act := .halted }
     s.engineUp = true ∧ (s.core 96).act = .halted ∧ (s.core 97).act = .halted ∧ (∀ i, i < s.hi.n → (s.inst i).cmds = [])) := by decide +kernel
/-- A trained module about to recover, with an owner's header and its checkpoint, and one with both checkpoint areas bad. -/
def recovering : State :=
  let h : Header := { gen := 1, no := 1, nonce := [], oek := none, keyGen := 0, schemas := [], nextTable := 1, dry := false, key := none, good := true }
  { pwIn .train with mc := { Mc.reset with trained := true }, flash := { Flash.reset with owners := [(0, { owner0 with no := 1 })], headers := [(0, [h, h])] } }
theorem witness_trainDone : recovering.pw.state = .train ∧ recovering.mc.trained = true ∧ recovering.sl.test = .idle ∧ (∀ e ∈ recovering.flash.owners, e.1 < 24) ∧
    recovering.pickCkpt.isSome = true ∧ (recovering.headerOf 0).isSome = true ∧
    ({ recovering with flash := recovering.flash.damage [0, 1] { seals := [], headers := [] } } : State).pickCkpt = none := by decide +kernel
theorem witness_SetpointsAndThermal : State.reset.pw.state ≠ .off ∧ (up 1).engineUp = true ∧ (up 1).pw.changing = false ∧
    ({ up 1 with pw := { (up 1).pw with changing := true, target := .spate } } : State).pw.changing = true := by decide +kernel
theorem witness_thermal : (up 1).pw.plateCap = false ∧ (up 1).pw.junctionCap ≠ .still ∧ (up 1).pw.hot = none ∧ 5 + 1000000000 ≤ (up 1).now ∧ 0 + 10000000000 ≤ (up 1).now ∧
    ({ (up 1).pw with plateCap := true, plateCool := some 0, hot := some 5 } : Power).plateCool = some 0 ∧
    ({ (up 1).pw with junctionCap := .flow, cool := some 5, plateHot := some 5 } : Power).junctionCap ≠ .spate := by decide +kernel
theorem witness_TimeAndManagementBus : (up 1).engineUp = true ∧ (up 1).pw.ppsLock = false ∧ (up 1).clocked = true ∧
    ({ pwIn .hold with pw := { (pwIn .hold).pw with vcore := ⟨true, true⟩ } } : State).clocked = true ∧
    (let s := { up 1 with pw := { (up 1).pw with ppsLock := true, todPend := some 7, alert := 2 } }
     s.pw.ppsLock = true ∧ s.pw.todPend = some 7 ∧ s.pw.alert &&& s.pw.alertMask ≠ 0) ∧ (up 1).pw.todPend = none ∧ (up 1).pw.state ≠ .off ∧
    (BitVec.ofNat 7 (up 1).pw.address).toNat = (up 1).pw.address ∧ (some 0 : Option Byte) ≠ some (pec [2, 0x14, 1]) ∧
    (up 1).pw.alert &&& (up 1).pw.alertMask = 0 := by decide +kernel
def split8 : State := { up 8 with hi := { (up 8).hi with split := true, linkB := some ⟨4, 8⟩ } }
theorem witness_LinksAndResets :
    (let s := (up 1).setInst 0 inst0
     (s.link .a).isSome = true ∧ s.linksOn = true ∧ s.pw.state ≠ .train ∧ s.portUsed .a = true ∧ s.link .a = some ⟨5, 16⟩ ∧ s.portOf 0 = .a ∧
       (s.inst 0).state = .running ∧ (4 : BitVec 4).toNat < (5 : BitVec 4).toNat ∧ 0 < s.hi.n ∧ s.isUp = true) ∧
    split8.linksOn = true ∧ split8.hi.split = true ∧ split8.portOf 5 = .b ∧ split8.portUsed .b = true ∧ split8.pw.perstB = false ∧ split8.pw.state ≠ .train ∧
    (let s := (up 1).setInst 0 { Inst.reset with state := .resetting }
     s.isUp = true ∧ (s.inst 0).state = .resetting ∧ s.liveCores 0 ≠ []) := by decide +kernel
/-- n instances, the first in state st, and a mailbox request of the given bytes. -/
def mb (n : Nat) (st : InstState) (b : List Byte) : State :=
  let s := (up n).setInst 0 { Inst.reset with state := st }
  { s with hi := { s.hi with mbBusy := true, mbCur := some { bytes := slice b 0 64, fin := none } } }
def ringBytes : List Byte := put (put (slice [3] 0 64) (16, [6, 7, 2, 0, 100])) (8, leBytes 8 0x1000)
def mbWaits (s : State) (mopc : Nat) : Prop :=
  (∃ r, s.hi.mbCur = some r ∧ r.fin = none ∧ fieldLE r.bytes 0 2 = mopc) ∧ s.isUp = true ∧ s.svUp = true ∧ s.sl.act = false
theorem witness_mbWaits : mbWaits (mb 0 .none [1, 0, 0, 0, 0, 0, 0, 0, 8]) 1 ∧ mbWaits (mb 1 .stopped [2]) 2 ∧ mbWaits (mb 1 .stopped ringBytes) 3 ∧
    mbWaits (mb 1 .running (put ringBytes (0, [4]))) 4 ∧ mbWaits (mb 0 .none [5]) 5 ∧ mbWaits (mb 0 .none [6, 0, 0, 0, 0, 0, 0, 0, 23]) 6 := by
  refine ⟨⟨⟨_, rfl, rfl, ?_⟩, ?_⟩, ⟨⟨_, rfl, rfl, ?_⟩, ?_⟩, ⟨⟨_, rfl, rfl, ?_⟩, ?_⟩, ⟨⟨_, rfl, rfl, ?_⟩, ?_⟩, ⟨⟨_, rfl, rfl, ?_⟩, ?_⟩, ⟨⟨_, rfl, rfl, ?_⟩, ?_⟩⟩ <;>
    decide +kernel
theorem witness_MailboxRequests : (up 1).linksOn = true ∧ (mb 1 .stopped [2]).hi.mbBusy = true ∧ (up 1).hi.mbBusy = false ∧
    fieldLE ([1, 0, 0, 0, 0, 0, 0, 0, 8] : List Byte) 8 1 ∈ [1, 2, 3, 4, 6, 8, 12, 24] ∧ 5 ∉ [1, 2, 3, 4, 6, 8, 12, 24] ∧ (mb 1 .stopped [1]).hi.split = false ∧
    (mb 1 .stopped [1]).hi.n ≠ 0 ∧ (∀ j, j < 1 → ((mb 1 .stopped [2]).inst j).state = .stopped) ∧ ((mb 1 .running [2]).inst 0).state ≠ .stopped ∧
    (let s := mb 1 .stopped ringBytes
     (s.inst 0).state = .stopped ∧ s.flash.unusable = false ∧ (∀ e ∈ s.mc.chans, e.2.lost = false)) ∧
    (let b := ringBytes
     6 ≤ fieldLE b 16 1 ∧ fieldLE b 16 1 ≤ 16 ∧ 6 ≤ fieldLE b 17 1 ∧ fieldLE b 17 1 ≤ 16 ∧ fieldLE b 8 8 % 4096 = 0 ∧ fieldLE b 24 8 % 4096 = 0 ∧ fieldLE b 32 8 % 64 = 0 ∧
       1 ≤ fieldLE b 18 2 ∧ fieldLE b 18 2 ≤ 256 ∧ fieldLE b 20 4 ≤ 1000 ∧ ¬(1 < fieldLE b 18 2 ∧ fieldLE b 20 4 = 0)) ∧
    ((mb 1 .running ringBytes).inst 0).state = .running ∧ (mb 0 .none [5]).hi.n = 0 ∧
    (let s := mb 1 .stopped [2]
     { s with hi := { s.hi with mbCur := some { bytes := [], fin := some 0 } } }.hi.mbCur = some { bytes := [], fin := some 0 }) ∧
    (fieldLE (put ringBytes (0, [4])) 0 2 = 4 ∧ fieldLE (put ringBytes (0, [4])) 4 1 = 0 ∧ ((mb 1 .running (put ringBytes (0, [4]))).inst 0).state = .running) ∧
    (fieldLE ([9] : List Byte) 0 2 ∉ [1, 2, 3, 4, 5, 6] ∧ (mb 1 .stopped [9]).hi.mbCur = some { bytes := slice [9] 0 64, fin := none }) := by decide +kernel
/-- One RUNNING instance with rings of 64 entries and the given fields. -/
def ring (x : Inst) : State := ((up 1).setInst 0 x).setOwner 0 owner0
/-- A FLUSH with CID 9 at priority class 1. -/
def flushEntry : W512 := BitVec.ofNat 512 (leNat [2, 0, 9, 0, 1])
theorem witness_DoorbellsAndFetching :
    (let x := { inst0 with reads := 1 }
     ((ring x).inst 0).state = .running ∧ ((ring x).inst 0).reads ≠ 0 ∧ x.culvert = [] ∧ (ring x).liveCores 0 ≠ [] ∧ ((64 : W32) - x.sqCi).toNat ≤ 2 ^ x.sqLog ∧
       2 ^ x.sqLog < ((65 : W32) - x.sqCi).toNat ∧ 2 ^ x.cqLog < (x.cqPi - 1).toNat) ∧ Inst.reset.state ≠ .running ∧
    (let x := { inst0 with cqBad := true, done := [soloCqe 9 0 0 [9]] }
     ((ring x).inst 0).cqFull = true ∧ x.done ≠ [] ∧ x.readTick + 10000 ≤ (ring x).now) ∧
    (let x := { inst0 with limit := 1, sqPi := 1 }
     (ring x).canFetch 0 1 = true ∧ x.openBatch = none ∧ entryCheck x (bytesOf flushEntry) = none ∧ fieldLE (bytesOf flushEntry) 5 1 % 4 = 0 ∧
       fieldLE (bytesOf flushEntry) 0 2 ≠ 3 ∧ x.cmds = []) ∧
    (let x := { inst0 with reads := 1, culvert := [soloCqe 9 0 0 [9]], cqPi := 64, cqBase := 0x1000 }
     x.done = [] ∧ x.stall = false ∧ (ring x).liveCores 0 ≠ [] ∧ (x.cqPi - 1).toNat < 2 ^ x.cqLog ∧ x.idxAddr + 12 ≤ x.cqBase) := by decide +kernel
theorem witness_CompletionsAndMessages :
    (let x := { inst0 with done := [soloCqe 9 0 0 [9]] }
     (ring x).inst 0 = x ∧ x.state = .running ∧ x.culvert = [] ∧ x.cqFull = false ∧ (ring x).liveCores 0 ≠ [] ∧ ({ x with cqBad := true } : Inst).cqFull = true ∧
       ({ x with culvert := List.replicate 511 (soloCqe 0 0 0 []) } : Inst).culvert.length = 511 ∧ x.stall = false) ∧
    (let x := { inst0 with unsigTick := some 5, modTime := 100 }
     ((ring x).inst 0).unsigTick = some 5 ∧ 5 + 1000 * x.modTime ≤ (ring x).now) ∧ ((ring inst0).vec (.vf 0) 0).mask = true ∧ 1 < vecCount (.vf 3) ∧
    (up 1).isUp = true ∧ (up 1).linksOn = true ∧ (pwIn .train).linksOn = true ∧ (pwIn .train).isUp = false ∧ 0x10000 ≤ 0x90000 ∧
    ((up 1).hi.mbReq.length = 64 ∧ (up 1).mc.bankx.length = 6 ∧ (up 0).hi.n = 0 ∧ (up 1).keys.oekData.length = 64 ∧ (up 1).part.variant ≠ .b ∧
      ({ up 1 with part := { (up 1).part with variant := .b } } : State).part.variant = .b ∧ ((up 1).vec .pf0 0).pend = false) := by decide +kernel

/-! ## The Sluice and its commands -/

/-- A queued ring command with the given operand fields (offset, bytes). -/
def cm (opc : Nat) (e : List (Nat × List Byte)) : Cmd :=
  { no := 3, src := .ring, cid := 9, opc := opc, cls := 1, fence := false, bytes := e.foldl put (List.replicate 64 0), phase := .queued, work := .none, batch := none }
def code2 : List Byte := put code (388, [2])
/-- Instance i with that command and an image, its owner with table 2 of one open block in memory. -/
def cmdAt (n i : Nat) (c : Cmd) : State :=
  let o : Owner := { owner0 with oek := some 5, gen := 1, nextTable := 3, nextLsn := 2, tables := [{ tb2 with blocks := [[{ blk1 with len := 1, da := some 0x10000, seg := none }]] }] }
  let im : Image := { id := 1, da := 0x20000, bytes := code2, loading := false }
  let s := ((up n).setInst i { inst0 with cmds := [c], images := [im] }).setOwner i o
  { s with keys := { Keys.reset with slots := [(memKeySlot i, 7)] } }.writeMem i 0x10000 [5]
def cmds (c : Cmd) : State := cmdAt 1 0 c
/-- A command of instance i starts, alone in it, and the state that results meets p. -/
def starts (s : State) (p : Nat → Cmd → State → Bool) : Bool :=
  match s.nextStart with
  | some (i, c, t) => decide ((t.inst i).cmds = [c]) && c.src == .ring && c.batch == none && p i c t
  | none => false
/-- APPEND of eight bytes to table 2, inline. -/
def appendCmd : Cmd := cm 1 [(8, [2]), (16, [8]), (24, [64])]
def schema1 : List Byte := [1, 0, 0, 0, 0, 0, 0, 0, 1, 0, 0xFF, 0, 0, 0, 0, 0]
theorem witness_CommandStarts :
    starts (cmds appendCmd) (fun i c t => hostAppendBad c [] == none && (t.owner? i).any (fun o => (o.table? c.handle).any (fun tb => !o.dry && c.op 16 4 % tb.stride == 0 &&
      t.flashRoom i o (c.op 16 4) && (t.reserveAppend i (c.op 16 4) tb.cols.length tb.stride).isSome))) = true ∧
    starts (cmds (cm 1 [])) (fun _ c _ => c.work == .none && hostAppendBad c [] == some 0x0107) = true ∧
    starts (cmds (cm 2 [])) (fun i _ t => (t.owner? i).any (fun o => o.origins.isEmpty && o.bad.isEmpty)) = true ∧
    starts (cmds (cm 0x11 [(16, [64]), (24, leBytes 4 448)])) (fun i c t => addrOk (c.op 16 8) && (t.alloc i 64 (c.op 24 4)).isSome && (t.inst i).images.length == 1) = true ∧
    160 ≤ 448 ∧ ((up 1).engine 0).oos = false ∧ (cmds appendCmd).mc.sweep = false ∧
    starts (cmds (cm 0x12 [(8, [1])])) (fun i c t => c.work == .none && ((t.inst i).image? c.handle).isSome && t.hg.queries.isEmpty) = true ∧
    starts (cmds (cm 0x20 [(16, [64]), (24, [16])])) (fun i c t => c.work == .none && addrOk (c.op 16 8) && schemaOk schema1 (c.op 24 2) && (t.owner? i).any (fun o => !o.dry)) = true ∧
    starts (cmds (cm 0x21 [(8, [2])])) (fun i c t => (t.owner? i).any (fun o => (o.table? c.handle).any (fun tb => !t.tableBusy i tb.id))) = true ∧
    starts (cmds (cm 0x22 [(8, [2]), (32, [1]), (36, [8]), (40, leBytes 8 4096)])) (fun i c t => c.op 40 8 != 0 && c.op 40 8 % 4096 == 0 && (t.owner? i).any (fun o =>
      (o.table? c.handle).any (fun tb => decide (c.op 16 1 < tb.cols.length) && c.op 32 4 == 1 && ((tb.col (c.op 16 1))[c.op 24 8]?).any (fun b => !b.lost &&
        b.da == some 0x10000 && decide (b.len ≤ c.op 36 4) && (t.readMem i 0x10000 b.len).1 == some [5])))) = true ∧
    starts (cmds (cm 0x30 [(16, [1]), (24, [64]), (32, [64])])) (fun i c t => addrOk (c.op 32 8) && (t.logPage i (c.op 16 1)).isSome && c.op 24 4 == 64) = true ∧
    starts (cmdAt 2 1 (cm 0x40 [(16, [1])])) (fun i c _ => i == 1 && c.work == .none) = true := by decide +kernel
theorem witness_QueryStarts :
    starts (cmds (cm 0x10 [(8, [1]), (32, [64])])) (fun i c t => queryAddrs c && ((t.inst i).image? c.handle).isSome && c.op 24 4 == imgParamLen code2 &&
      (t.freeCtx i).isSome && ((t.liveClusters i).mapM (fun cl => (t.freePool i cl (imgPoolNeed code2)).map (fun b => (cl, b)))).isSome &&
      (t.freeFlumes i (imgFlumes code2)).isSome && (t.owner? i).any (fun o => scansBad o code2 == none &&
        (t.alloc i 4096 (max (allMorsels o code2 (o.nextLsn - 1) (roundUp (imgLeaseNeed code2) 64 + roundUp (imgParamLen code2) 64)).2 64)).isSome)) = true := by decide +kernel
theorem witness_AdministeringCommands :
    starts (cmds (cm 0x31 [])) (fun i c t => c.work == .none && instOfPort t.hi.n (c.op 16 2) == some i && c.op 18 1 == 0 && !(t.portFlags 0).1 &&
      (t.port 0).sess == none) = true ∧
    (let s := (cmds (cm 0x31 [(18, [1])])).setPortFlags 0 (true, false)
     starts s (fun _ c t => c.op 18 1 == 1 && (t.portFlags 0).1) = true) ∧
    starts (cmds (cm 0x31 [(18, [2])])) (fun _ c _ => c.op 18 1 == 2) = true ∧
    (cmds (cm 0x32 [(16, [1])])).waitingRekey = none ∧
    starts (cmds (cm 0x32 [(16, [1])])) (fun i c t => c.op 16 1 == 1 && (t.owner? i).any (fun o => o.oek == some 5 && o.gen == 1) && !t.keyedFrom (imageKeySlot i)) = true ∧
    starts (cmds (cm 0x40 [(16, [1])])) (fun i c t => i == 0 && c.op 16 1 == 1 && t.sl.test == .idle && !t.sl.act) = true ∧
    (let s := cmds (cm 0x41 [])
     starts { s with sl := { s.sl with test := .running } } (fun _ _ t => t.sl.test == .running) = true) ∧
    starts (cmds (cm 0x42 [(20, leBytes 4 4096), (24, [64])])) (fun _ c t => addrOk (c.op 24 8) && c.op 20 4 == 4096 && !t.sl.act) = true ∧
    (up 1).isUp = true ∧ (up 1).svUp = true ∧ (up 1).part.variant ≠ .b := by decide +kernel
/-- A staged image of one byte with its tag under FWK. -/
def firmware : State :=
  let s := cmds (cm 0x43 [])
  { s with sl := { s.sl with staged := [1] ++ hmac .sha384 ((bytesOf (7 : W512)).take 48) [1] }, keys := { s.keys with slots := (1, 7) :: s.keys.slots } }
theorem witness_fwActivate : firmware.sl.staged ≠ [] ∧ firmware.sl.test = .idle ∧ firmware.sl.act = false ∧ (firmware.fwCheck firmware.sl.staged).1 = true := by decide +kernel
theorem witness_fwSwitch :
    let c := { cm 0x43 [] with work := .activate, phase := .started }
    let s := cmds c
    let u := { s with sl := { s.sl with act := true, actNo := 3 } }
    u.sl.act = true ∧ u.svUp = true ∧ (∀ i, i < u.hi.n → (u.inst i).runsOn = false) ∧ (u.inst 0).cmds = [c] ∧ c.no = u.sl.actNo ∧ c.src = .ring ∧ c.batch = none := by
  decide +kernel
theorem witness_selftest :
    (let s := { up 1 with sl := { Sluice.reset with test := .running } }
     s.sl.test = .running ∧ s.isUp = true ∧ s.svUp = true) ∧
    (let s := { up 1 with sl := { Sluice.reset with test := .paused, lastCmd := 0 } }
     s.sl.test = .paused ∧ s.sl.lastCmd + 10000000 ≤ s.now) := by decide +kernel
/-- A command of an instance in its phase, with its work. -/
def cw (no : Nat) (cid : W16) (opc : Nat) (ph : Phase) (w : Work) : Cmd := { cm opc [(16, [4])] with no := no, cid := cid, phase := ph, work := w }
def aw : AppendWork := { table := 2, len := 64, bufDa := 0x40000, roomDa := some 0x50000, got := 0, charges := 0, full := false, made := 0, committed := 0 }
theorem witness_AppendPiecesAndAborts : (([5] : List Byte) ≠ [] ∧ aw.got + 1 < aw.len ∧ (cmds (cw 3 9 1 .started (.append aw))).withheld 0 = false ∧ (cmds (cw 3 9 1 .started (.append aw))).mc.sweep = false) ∧
    (let d := cw 2 4 2 .queued .none
     let c := cw 3 9 3 .abortHeld .none
     d.no < c.no ∧ BitVec.ofNat 16 (c.op 16 2) = d.cid ∧ d.cid ≠ c.cid ∧ inst0.batches = [] ∧ inst0.abortCids.contains d.cid = false) ∧
    (let c := cw 3 4 3 .abortHeld .none
     BitVec.ofNat 16 (c.op 16 2) = c.cid) := by decide +kernel

/-! ## Field ports -/

def key0 : List Byte := List.replicate 32 0
/-- A frame of a session with its AUTH under the zero key. -/
def frm (ty p session seq tag a0 a1 : Nat) (pay : List Byte) : Frame :=
  let h := wfpHead ty p session seq tag 0 pay.length a0 a1
  { fcsOk := true, size := 128, etherType := 0x88B5, src := 7, payload := h ++ wfpAuth (List.replicate 64 0) h pay ++ pay }
def sess0 : Session := { id := 1, slot := 704, mac := 7, rx := 0, tx := 0, rxTick := 0, txTick := 0, tags := [] }
/-- A READY instance with an open session on port 5. -/
def fld (x : Session) (cs : List Cmd) : State :=
  let s := (cmds appendCmd).modInst 0 (fun y => { y with cmds := cs })
  { s with fp := { s.fp with ports := [(5, { Port.reset with lock := true, sess := some x })] } }
/-- A frame built with its AUTH carries it. -/
theorem authOk_frame {key h pay : List Byte} (hh : h.length = 32) (hx : (wfpAuth key h pay).length = 16) : authOk key (h ++ wfpAuth key h pay ++ pay) = true := by
  have e1 : slice (h ++ wfpAuth key h pay ++ pay) 0 32 = h := by simp [slice, hh, List.append_assoc]
  have e2 : slice (h ++ wfpAuth key h pay ++ pay) 32 16 = wfpAuth key h pay := by simp [slice, hh, hx, List.append_assoc]
  have e3 : fPay (h ++ wfpAuth key h pay ++ pay) = pay := by simp [fPay, hh, hx, List.drop_append]
  rw [authOk, e1, e2, e3]; simp
/-- The version and LENGTH of a frame hold, and R432 finds nothing wrong. -/
def good (s : State) (f : Frame) : Bool :=
  let b := f.payload
  f.fcsOk && decide (48 ≤ b.length) && fVersion b == 1 && fLen b == b.length - 48 &&
    ((s.port 5).sess).any (fun x => x.id.toNat == fSession b && decide (x.rx.toNat < fSeq b) && earlyBad b (SMap.find x.tags (fTag b)).isSome == none) &&
    middleBad b 5 == none && lateBad b == none
def tg0 : Tag := { state := .granted, cmd := 3, len := 64, next := 64, windows := [{ off := 0, len := 64, got := [], tick := 0 }], order := 0 }
theorem witness_SessionFrames : good (fld sess0 []) (frm 0x10 5 1 1 2 64 2 []) = true ∧ good (fld sess0 []) (frm 0x16 5 1 1 2 0 0 []) = true ∧
    good (fld sess0 []) (frm 0x21 5 1 1 0xFF 0 0 []) = true ∧ good (fld sess0 []) (frm 0x14 5 1 1 2 0 0 []) = true ∧
    good (fld sess0 []) (frm 0x20 5 1 1 2 1 0 []) = true ∧
    good (fld { sess0 with tags := [(2, tg0)] } [cw 3 9 1 .started (.append aw)]) (frm 0x12 5 1 1 2 0 0 [1, 2, 3]) = true := by decide +kernel
theorem witness_frameAuth : (fld sess0 []).slotBytes 704 = List.replicate 64 0 ∧
    (∀ f ∈ [frm 0x10 5 1 1 2 64 2 [], frm 0x16 5 1 1 2 0 0 [], frm 0x21 5 1 1 0xFF 0 0 [], frm 0x14 5 1 1 2 0 0 [], frm 0x20 5 1 1 2 1 0 [], frm 0x12 5 1 1 2 0 0 [1, 2, 3]],
      authOk (List.replicate 64 0) f.payload = true) := by
  refine ⟨by decide +kernel, fun f hf => ?_⟩
  simp only [List.mem_cons, List.not_mem_nil, or_false] at hf
  obtain rfl | rfl | rfl | rfl | rfl | rfl := hf <;> exact authOk_frame rfl (by decide +kernel)
theorem witness_framePort : (fld sess0 []).part.variant ≠ .b ∧ (fld sess0 []).isUp = true ∧ ((fld sess0 []).port 5).laneFault = false ∧ (fld sess0 []).portFlags 5 = (false, false) ∧
    instOfPort (fld sess0 []).hi.n 5 = some 0 ∧ (fld sess0 []).sl.act = false ∧ (fld sess0 []).owner? 0 ≠ none ∧ SMap.find sess0.tags 2 = none ∧
    sess0.tx.toNat + 1 < 0xFFFFFFFF ∧ (0x0800 : W16) ≠ 0x88B5 ∧ 3 < 64 := by decide +kernel
/-- An OPEN frame for generation 1, and the state in which its port key gives its AUTH. -/
def opening : State := fld sess0 []
def openFrm : Frame :=
  let h := wfpHead 1 5 0 0 0xFF 0 32 0 0
  let pay : List Byte := List.replicate 24 0 ++ leBytes 4 1 ++ List.replicate 4 0
  { fcsOk := true, size := 128, etherType := 0x88B5, src := 7, payload := h ++ wfpAuth (opening.portKey 0 5 ++ key0) h pay ++ pay }
theorem witness_SessionsOpenAndClose :
    (let b := openFrm.payload
     48 ≤ b.length ∧ fVersion b = 1 ∧ fLen b = b.length - 48 ∧ fType b = 1 ∧ earlyBad b false = none ∧ middleBad b 5 = none ∧ fieldLE (fPay b) 24 4 = 1 ∧
       fixedOk b = true) ∧
    opening.generalSlot = some 704 ∧ (opening.inst 0).state.closed = false ∧ (opening.port 5).lock = true ∧ sess0.rxTick + 10 ^ 9 ≤ opening.now ∧
    sess0.rxTick + 4000000 * opening.fp.ka.toNat ≤ opening.now ∧ opening.engineUp = true ∧ opening.svUp = true := by decide +kernel
theorem witness_openAuth : authOk (opening.portKey 0 5 ++ key0) openFrm.payload = true := authOk_frame rfl (by decide +kernel)
def held : Tag := { tg0 with state := .held, next := 0, windows := [] }
theorem witness_GrantsAndTimers :
    (let s := fld { sess0 with tags := [(2, held)] } [cw 3 9 1 .started (.append aw)]
     (s.port 5).sess = some { sess0 with tags := [(2, held)] } ∧ sess0.txTick + 1000000 * s.fp.ka.toNat ≤ s.now ∧ s.isUp = true ∧ s.inflight < s.fp.inflight.toNat * 2 ^ 20 ∧
       s.grantTurn 0 = some (5, 2, held) ∧ (s.inst 0).cmds = [cw 3 9 1 .started (.append aw)]) ∧
    (let c := { cw 3 9 1 .started (.append aw) with src := .field 5 2 1 }
     let s := fld { sess0 with tags := [(2, tg0)] } [c]
     SMap.find [(2, tg0)] 2 = some tg0 ∧ (∃ w ∈ tg0.windows, w.tick + 1000 * s.fp.tmo.toNat ≤ s.now) ∧ (s.inst 0).cmds = [c] ∧ c.src = .field 5 2 sess0.id) ∧
    (up 1).now < ({ sess0 with txTick := 10 ^ 10 } : Session).txTick + 1000000 * (up 1).fp.ka.toNat := by decide +kernel

/-! ## Commands that name no unit of the part are ill-formed -/

theorem test_illFormed : ([.registerWrite (.vf 24) 0 0, .memorySweepDone [⟨24, 0, 0, 0, 0, 0⟩], .resweepDone [⟨0, 16, 0, 0, 0, 0⟩], .patrolScrub 0 [⟨0, 31, 0, 1⟩],
    .cacheMissFill 0 [⟨2 ^ 23, 0, 0, 1⟩], .patrolScrub 96 [], .msixUnmask (.vf 0) 2, .msixUnmask .pf0 32, .unitWatchdogExpiry .codec 48, .unitWatchdogExpiry .digest 8,
    .vfFlr 24, .openAck 576, .grantTimerExpiry 0 64, .take 98, .coreFault 96, .progressMonitorExpiry 96, .supervisorCoreFault 95, .commit 65536, .rootItemCreate 1536,
    .flumeItemCreate 4096, .encodeJob 48, .digestJob 8 0, .dgResRead 0 8, .dieFail (.whole 256), .refresh 0 2] : List Instr).all (fun i => !i.wf) = true := by decide
theorem witness_WellFormedCommandsComplete : (Instr.vfFlr 23).wf = true ∧ (Instr.take 97).wf = true ∧ (Instr.coreFault 95).wf = true := by decide

/-! ## Words written out from R135 and R168: major, then the fields of the format -/

theorem test_words_scalar : decodeInsn 5 (0x01#6 ++ 3#5 ++ 1#5 ++ 2#5 ++ 0x002#11) = some (.and 5 3 1 2) ∧
    decodeInsn 5 (0x03#6 ++ 3#5 ++ 1#5 ++ 0xFFFF#16) = some (.addi 5 3 1 0xFFFF) := by
  decide
theorem test_words_memory : decodeInsn 5 (0x16#6 ++ 7#5 ++ 4#5 ++ 8#16) = some (.ldd 5 7 4 8) ∧ decodeInsn 5 (0x1B#6 ++ 7#5 ++ 4#5 ++ 8#16) = some (.std 5 7 4 8) ∧
    decodeInsn 5 (0x1C#6 ++ 3#5 ++ 1#5 ++ 2#5 ++ 0x002#11) = some (.amocas 5 3 1 2) ∧ decodeInsn 5 (0x1D#6 ++ 0#5 ++ 1#5 ++ 2#5 ++ 0x004#11) = some (.strm 5 1 2) := by decide
theorem test_words_control : decodeInsn 5 (0x22#6 ++ 1#5 ++ 2#5 ++ 0xFFFE#16) = some (.blt 5 1 2 0xFFFE) ∧ decodeInsn 5 (0x27#6 ++ 0x3FFFFFF#26) = some (.call 5 0x3FFFFFF) ∧
    decodeInsn 5 (0x28#6 ++ 0#5 ++ 1#5 ++ 0#5 ++ 1#11) = some (.callr 5 1) ∧ decodeInsn 5 (0x2D#6 ++ 1000#10 ++ 4#16) = some (.loopi 5 1000 4) ∧
    decodeInsn 5 (0x31#6 ++ 0#5 ++ 9#5 ++ 3#16) = some (.mts 5 9 3) ∧ decodeInsn 5 (0x32#6 ++ 9#5 ++ 0#5 ++ 3#16) = some (.cget 5 9 3) ∧
    decodeInsn 5 0xF0000005 = some (.gate 5 5) ∧ decodeInsn 5 (0x3D#6 ++ 0#5 ++ 0#5 ++ 1#8 ++ 0#8) = some (.waitIrq 5) := by decide
theorem test_words_packed : decodeInsn 5 (0x02#6 ++ 3#5 ++ 1#5 ++ 2#5 ++ 1#2 ++ 0x02#9) = some (.padds 5 .h 3 1 2) ∧
    decodeInsn 5 (0x38#6 ++ 1#5 ++ 2#5 ++ 1#8 ++ 1#8) = some (.post 5 true 1 2) ∧ decodeInsn 5 (0x38#6 ++ 4#5 ++ 0#5 ++ 4#8 ++ 7#8) = some (.dsend 5 4 7) := by decide
/-- The words of R181's and R184's worked examples, and one word of each other wide format. -/
theorem test_words_wide : decodeInsn 5 0xD04013DE = some (.wcgt 5 .d 1 0 (.scl 9)) ∧ decodeInsn 5 0xD54C80C6 = some (.wgather 5 .d 5 3 4) ∧
    decodeInsn 5 (0x34#6 ++ 1#4 ++ 2#4 ++ 3#4 ++ 0#5 ++ 2#2 ++ 0x10#7) = some (.wmulw 5 .w 1 2 3) ∧
    decodeInsn 5 (0x37#6 ++ 1#4 ++ 18#5 ++ 7#9 ++ 3#2 ++ 2#6) = some (.wins 5 .d 1 18 7) := by decide
theorem test_words_refused : decodeInsn 5 0 = none ∧ decodeInsn 5 (0x01#6 ++ 3#5 ++ 1#5 ++ 2#5 ++ 0x018#11) = none ∧ decodeInsn 5 (0x01#6 ++ 3#5 ++ 1#5 ++ 2#5 ++ 0x017#11) = none ∧
    decodeInsn 5 (0x02#6 ++ 3#5 ++ 1#5 ++ 2#5 ++ 3#2 ++ 0x00#9) = none := by decide

/-! ## Worked examples of the spec -/

/-- Core 5 of a state after an answer. -/
def core5 (r : Host.Outcome State Fault Refusal) : Option Machine.Core := match r with
  | .next t => some (t.core 5)
  | _ => none
/-- R154: ra of PADDS.H and PMULHRS.H, and its rb. -/
def packedk : Machine.Core := (kc.wr 1 0x800000648AD07530).wr 2 0x8000FF38D8F02710
theorem test_packed_example : (core5 (exec (.padds 5 .h 3 1 2) (on packedk))).map (fun k => k.rd 3) = some 0x8000FF9C80007FFF ∧
    (core5 (exec (.pmulhrs 5 .h 3 1 2) (on packedk))).map (fun k => k.rd 3) = some 0x7FFFFFFF23C323C3 := by decide +kernel
/-- R201: instance 3 of 24 takes GATE 5 in stage code; the second pair fails. -/
def gatek : Machine.Core :=
  { gatec with pc := 0x2A40, keeper := false, ie := true, evec := 0x800, ksp := 0x3F000, gtbase := 0xF03E000 + 2 ^ 32, winLo := 0x2D00000000, winHi := 0x3C00000000,
               g := (((gatec.g.set 10 0x13BFFFFF000).set 11 0x1000).set 12 0x10000000).set 13 0x200000 }
theorem test_gate_example :
    let core := match exec (.gate 14 5) ((up 24).setCore 14 gatek) with
      | .next t => some (t.core 14)
      | _ => none
    core.map (fun k => (k.pc, k.ksp, Cells.readList k.ls 0x3EFF0 8, Cells.readList k.ls 0x3EFF8 8)) =
      some (0x800, 0x3EFF0, leBytes 8 0x2A40, leBytes 8 0x100000206) := by decide +kernel
/-- R146's loop: LOOP at 0x1000 with len 4 and the count in g6. -/
theorem test_loop_example : (core5 (exec (.loop 5 6 4) (on ({ kc with pc := 0x1000 }.wr 6 4096)))).map (fun k => (k.pc, k.lps, k.lpe, k.lpc)) =
    some (0x1004, 0x1004, 0x1010, 4096) := by decide +kernel
/-- R175's WTRANS example: row r, column c holds 10r + c. -/
def rows16 : Wide := BitVec.ofNat 4096 ((List.range 16).foldl (fun a i => a + (10 * (i / 4 + 1) + i % 4 + 1) * 2 ^ (64 * i)) 0)
def cols16 : Wide := BitVec.ofNat 4096 ((List.range 16).foldl (fun a i => a + (10 * (i % 4 + 1) + i / 4 + 1) * 2 ^ (64 * i)) 0)
theorem test_wtrans_example : (core5 (exec (.wtrans 5 .d 3 2 2) (on ({ kc with vln := 16 }.wrw 2 rows16)))).map (fun k => k.rdw 3) = some cols16 := by decide +kernel

/-! ## Statements about every instruction -/

theorem witness_InstructionWords : decodeInsn 5 0xF0000005 = some (.gate 5 5) := by decide
theorem witness_StepKeepsMemoriesCanonical : State.reset.memsWf ∧ step State.reset = .next State.reset := by
  refine ⟨⟨by decide, by decide, fun _ _ h => by simp [State.reset] at h, fun _ _ h => by simp [State.reset] at h⟩, rfl⟩
theorem witness_InstructionsKeepOtherCores : 5 < 96 ∧ decodeInsn 5 (0x01#6 ++ 3#5 ++ 1#5 ++ 2#5 ++ 0x000#11) = some (.add 5 3 1 2) ∧
    (core5 (exec (.add 5 3 1 2) (on kc))).isSome = true ∧ 6 ≠ 5 ∧ 6 < 96 ∧ (on kc).codec.reissue = [] ∧ (on kc).dg.held = [] := by decide
theorem witness_EventsKeepCores : ∃ t, exec .quiesceComplete (on kc) = .next t := ⟨_, rfl⟩

end Sys2Proof.Tests
end

section
/-! PROOFS. What the operations of a field port do to the port (spec/10 R284, R292, R295), and what an event-log entry leaves alone. -/
namespace Sys2Proof.Machine

/-! ### Key slots -/

@[simp] theorem State.port_setSlot (s : State) (k p : Nat) (v : List Byte) : (s.setSlot k v).port p = s.port p := rfl
@[simp] theorem State.port_zeroSlot (s : State) (k p : Nat) : (s.zeroSlot k).port p = s.port p := rfl
@[simp] theorem State.out_setSlot (s : State) (k : Nat) (v : List Byte) : (s.setSlot k v).out = s.out := rfl
@[simp] theorem State.out_zeroSlot (s : State) (k : Nat) : (s.zeroSlot k).out = s.out := rfl
@[simp] theorem State.slotKey_setPort (s : State) (p k : Nat) (x : Port) : (s.setPort p x).slotKey k = s.slotKey k := rfl
@[simp] theorem State.slotKey_setSlot (s : State) (k : Nat) (v : List Byte) : (s.setSlot k v).slotKey k = some (BitVec.ofNat 512 (leNat v)) :=
  SMap.find_set_same _ _ _
@[simp] theorem State.slotKey_zeroSlot (s : State) (k : Nat) : (s.zeroSlot k).slotKey k = none := SMap.find_erase_same _ _

/-! ### The port -/

@[simp] theorem State.port_modPort (s : State) (p : Nat) (f : Port → Port) : (s.modPort p f).port p = f (s.port p) := State.port_setPort _ _ _
@[simp] theorem State.slotKey_modPort (s : State) (p k : Nat) (f : Port → Port) : (s.modPort p f).slotKey k = s.slotKey k := rfl
@[simp] theorem State.port_wire (s : State) (q : Nat) (x : Session) (seq ty tag a0 a1 : Nat) (pay : List Byte) (p : Nat) :
    (s.wire q x seq ty tag a0 a1 pay).port p = s.port p := rfl

/-- A pending session ends with its key (R292). -/
theorem State.dropPending_of_pend {s : State} {p : Nat} {x : Session} (h : (s.port p).pend = some x) :
    s.dropPending p = (s.zeroSlot x.slot).setPort p { s.port p with pend := none } := by
  simp [State.dropPending, h]

@[simp] theorem State.port_dropPending (s : State) (p : Nat) : (s.dropPending p).port p = { s.port p with pend := none } := by
  cases h : (s.port p).pend with
  | none =>
    simp only [State.dropPending, h]
    rw [← h]
  | some x => simp [State.dropPending_of_pend h]

@[simp] theorem State.out_dropPending (s : State) (p : Nat) : (s.dropPending p).out = s.out := by
  unfold State.dropPending
  split <;> rfl

theorem State.port_foldl_zeroSlot (l : List OpenReq) (s : State) (p : Nat) :
    (l.foldl (fun (t : State) (r : OpenReq) => t.zeroSlot r.slot) s).port p = s.port p := by
  induction l generalizing s with
  | nil => rfl
  | cons r l ih => exact ih (s.zeroSlot r.slot)

@[simp] theorem State.port_dropOpens (s : State) (p : Nat) : (s.dropOpens p).port p = { s.port p with opens := [] } := by
  simp [State.dropOpens, State.port_foldl_zeroSlot]

@[simp] theorem State.sess_closeSession (s : State) (p reason : Nat) : ((s.closeSession p reason).port p).sess = none := by
  cases h : (s.port p).sess with
  | none => simp [State.closeSession, h]
  | some x => simp [State.closeSession, h]

/-- No session, none pending and no OPEN in progress is left on a port whose sessions end (R295). -/
theorem State.port_endPort (s : State) (p reason : Nat) :
    ((s.endPort p reason).port p).sess = none ∧ ((s.endPort p reason).port p).pend = none ∧ ((s.endPort p reason).port p).opens = [] := by
  simp [State.endPort]

/-! ### Events -/

@[simp] theorem State.fp_signal (s : State) (f : Fn) (v : Nat) : (s.signal f v).fp = s.fp := by
  simp only [State.signal]
  split <;> rfl

@[simp] theorem State.cores_signal (s : State) (f : Fn) (v : Nat) : (s.signal f v).cores = s.cores := by
  simp only [State.signal]
  split <;> rfl

@[simp] theorem State.fp_vfEvent (s : State) (i bit : Nat) : (s.vfEvent i bit).fp = s.fp := by
  simp only [State.vfEvent]
  split
  · simp
  · split <;> rfl

@[simp] theorem State.cores_vfEvent (s : State) (i bit : Nat) : (s.vfEvent i bit).cores = s.cores := by
  simp only [State.vfEvent]
  split
  · simp
  · split <;> rfl

theorem State.foldl_vfEvent (l : List Nat) (bit : Nat) (s : State) :
    (l.foldl (fun (t : State) (i : Nat) => t.vfEvent i bit) s).fp = s.fp ∧ (l.foldl (fun (t : State) (i : Nat) => t.vfEvent i bit) s).cores = s.cores := by
  induction l generalizing s with
  | nil => exact ⟨rfl, rfl⟩
  | cons i l ih => simpa using ih (s.vfEvent i bit)

@[simp] theorem State.port_svEdge (s : State) (src p : Nat) : (s.svEdge src).port p = s.port p := rfl

@[simp] theorem State.port_logEvent (s : State) (code inst sev arg p : Nat) : (s.logEvent code inst sev arg).port p = s.port p := by
  have h : (s.logEvent code inst sev arg).fp = s.fp := by
    simp only [State.logEvent, (State.foldl_vfEvent _ _ _).1, State.fp_signal]
    rfl
  rw [State.port, h, State.port]

/-- An event-log entry changes the supervisor's controllers only among the cores (R403). -/
theorem State.cores_logEvent (s : State) (code inst sev arg : Nat) : (s.logEvent code inst sev arg).cores = (s.svEdge 9).cores := by
  simp only [State.logEvent, (State.foldl_vfEvent _ _ _).2, State.cores_signal]
  rfl

/-- An edge at the supervisor's controller adds its source to core 96's pending ones (R202). -/
theorem State.pend_svEdge (s : State) (src : Nat) : ((s.svEdge src).core 96).ic.pend = (s.core 96).ic.pend ||| BitVec.ofNat 64 (2 ^ src) := by
  simp [State.svEdge, State.icEdge, State.core_setCore_ne, ICtl.edge]

theorem State.pend_logEvent (s : State) (code inst sev arg : Nat) :
    ((s.logEvent code inst sev arg).core 96).ic.pend = (s.core 96).ic.pend ||| BitVec.ofNat 64 (2 ^ 9) := by
  rw [← State.pend_svEdge, State.core, State.cores_logEvent, State.core]

/-! ### OPEN -/

/-- A whole WFP frame of type OPEN on a port in service comes to the checks of R292. -/
theorem State.rxFrame_open {s : State} {p : Nat} {f : Frame} (up : s.isUp = true) (lane : (s.port p).laneFault = false) (optics : s.part.variant ≠ .b)
    (whole : frameWhole f = true) (long : 48 ≤ f.payload.length) (version : fVersion f.payload = 1) (len : fLen f.payload = f.payload.length - 48)
    (flags : s.portFlags p = (false, false)) (ty : fType f.payload = 1) : s.rxFrame p f = s.rxOpen p f := by
  simp only [frameWhole, Bool.and_eq_true, decide_eq_true_eq, beq_iff_eq] at whole
  obtain ⟨⟨⟨fcs, least⟩, most⟩, ether⟩ := whole
  simp [State.rxFrame, up, lane, optics, fcs, Nat.not_lt.mpr least, Nat.not_lt.mpr most, ether, Nat.not_lt.mpr long, version, len, flags, ty]

/-- An OPEN that passes every check of R292 step 2 has its port key derived into the lowest general slot and waits for its OPEN_ACK. -/
theorem State.rxOpen_accepted {s : State} {p i k : Nat} {f : Frame} {o : Owner} (inst : instOfPort s.hi.n p = some i) (lt : i < s.hi.n)
    (live : (s.inst i).state.closed = false) (early : earlyBad f.payload false = none) (middle : middleBad f.payload p = none)
    (owner : s.owner? i = some o) (keyed : o.gen ≠ 0) (gen : fieldLE (fPay f.payload) 24 4 = o.gen.toNat)
    (auth : authOk (s.portKey i p ++ List.replicate 32 0) f.payload = true) (fixed : fixedOk f.payload = true) (slot : s.generalSlot = some k) :
    s.rxOpen p f = (s.setSlot k (s.portKey i p)).modPort p (fun x =>
      { x with rxOk := satInc x.rxOk, opens := x.opens ++ [{ unonce := slice (fPay f.payload) 0 16, mac := f.src, slot := k }] }) := by
  have good : ¬(o.gen = 0 ∨ fieldLE (fPay f.payload) 24 4 ≠ o.gen.toNat) := fun h => h.elim keyed (fun h => h gen)
  simp only [State.rxOpen, inst, Option.getD_some, Nat.not_le.mpr lt, decide_false, Bool.false_or, live, Bool.false_eq_true, if_false, early, middle,
    Option.or_none, owner, Option.map_some, good, auth, Bool.not_true, fixed, slot]

/-- On YQ96-B, without optics, no frame arrives (R2). -/
theorem State.rxFrame_variantB {s : State} (h : s.part.variant = .b) (p : Nat) (f : Frame) : s.rxFrame p f = s := by
  simp [State.rxFrame, h]

/-- The pending session that an OPEN's OPEN_ACK makes (R292 step 3), its key in the port's own slot, or in a general one while a session holds that. -/
def ackSession (s : State) (p : Nat) (r : OpenReq) : Session :=
  let s1 := (s.dropPending p).zeroSlot r.slot
  { id := (s.port p).nextId, slot := if (s1.port p).sess.isSome then s1.generalSlot.getD (128 + p) else 128 + p, mac := r.mac, rx := 0, tx := 0,
    rxTick := s.now, txTick := s.now, tags := [] }

theorem port_openAck {s : State} {p : Nat} {r : OpenReq} {rest : List OpenReq} (sv : s.svUp = true) (h : (s.port p).opens = r :: rest) :
    (openAck s p).port p = { s.port p with opens := rest, pend := some (ackSession s p r),
                                           nextId := if (s.port p).nextId = BitVec.allOnes 32 then 1 else (s.port p).nextId + 1 } := by
  simp [openAck, h, sv, ackSession]

/-- The OPEN_ACK goes to the unit that asked, from the port's own address (R286). -/
theorem out_openAck {s : State} {p : Nat} {r : OpenReq} {rest : List OpenReq} (sv : s.svUp = true) (h : (s.port p).opens = r :: rest) :
    ∃ pl, (openAck s p).out = .frame p r.mac (portMac p) pl :: s.out := by
  simp only [openAck, h, sv, Bool.not_true, Bool.false_eq_true, if_false]
  exact ⟨_, congrArg _ (State.out_dropPending s p)⟩

/-! ### The rows

Each proof names the arm of `exec` by `change`: simplifying `exec` itself would walk through its whole match. -/

theorem exec_openAck {s : State} {p : Nat} (port : p < 576) (up : s.isUp = true) : exec (.openAck p) s = .next (openAck s p) := by
  change execOpenAck p s = _
  simp [execOpenAck, port, up]

theorem exec_pendingSessionLapse_due {s : State} {p : Nat} {x : Session} (port : p < 576) (pend : (s.port p).pend = some x)
    (due : x.rxTick + 10 ^ 9 ≤ s.now) : exec (.pendingSessionLapse p) s = .next (s.dropPending p) := by
  change execPendingSessionLapse p s = _
  rw [execPendingSessionLapse, if_neg (Nat.not_le.mpr port), pend, Option.any_some, if_pos (decide_eq_true due)]

theorem exec_keepaliveTimeout_due {s : State} {p : Nat} {x : Session} (port : p < 576) (sess : (s.port p).sess = some x)
    (due : x.rxTick + 4000000 * s.fp.ka.toNat ≤ s.now) : exec (.keepaliveTimeout p) s = .next (s.closeSession p 2) := by
  have fourMillion : 4 * 10 ^ 6 = 4000000 := by simp only [Nat.reducePow, Nat.reduceMul]
  change execKeepaliveTimeout p s = _
  simp only [execKeepaliveTimeout, fourMillion]
  rw [if_neg (Nat.not_le.mpr port), sess, Option.any_some, if_pos (decide_eq_true due)]

/-- What a lane fault leaves (R207, R284, R295). -/
theorem exec_laneFault {s : State} {p : Nat} (port : p < 576) (optics : s.part.variant ≠ .b) (up : s.engineUp = true) (lane : (s.port p).laneFault = false) :
    exec (.laneFault p) s = .next ((((s.endPort p 7).modPort p (fun z => { z with laneFault := true, lock := false })).svEdge 7).logEvent 0x0D
      ((instOfPort s.hi.n p).getD 0xFF) 1 p) := by
  change execLaneFault p s = _
  simp only [execLaneFault, Nat.not_le.mpr port, if_false, up, lane, beq_false_of_ne optics, Bool.not_true, Bool.or_false, Bool.false_eq_true]

theorem exec_fieldLinkUp {s : State} {p : Nat} (port : p < 576) (optics : s.part.variant ≠ .b) (up : s.engineUp = true)
    (lane : (s.port p).laneFault = false) : exec (.fieldLinkUp p) s = .next (s.modPort p (fun z => { z with lock := true })) := by
  change execFieldLinkUp p s = _
  simp only [execFieldLinkUp, Nat.not_le.mpr port, if_false, up, lane, bne_iff_ne.mpr optics, Bool.not_false, Bool.and_true, if_true]

theorem exec_fieldLinkDown {s : State} {p : Nat} (port : p < 576) (lock : (s.port p).lock = true) :
    exec (.fieldLinkDown p) s = .next ((s.endPort p 7).modPort p (fun z => { z with lock := false })) := by
  change execFieldLinkDown p s = _
  simp only [execFieldLinkDown, Nat.not_le.mpr port, if_false, lock, if_true]

/-- Without optics nothing happens at a field port (R2). -/
theorem exec_variantB {s : State} {p : Nat} (port : p < 576) (variant : s.part.variant = .b) (f : Frame) :
    ∀ e ∈ [Instr.openFrame p f, .otherFrame p f, .fieldLinkUp p, .laneFault p], exec e s = .next s := by
  intro e he
  simp only [List.mem_cons, List.not_mem_nil, or_false] at he
  obtain rfl | rfl | rfl | rfl := he
  · change execOpenFrame p f s = _
    simp [execOpenFrame, port, State.rxFrame_variantB variant]
  · change execOtherFrame p f s = _
    simp [execOtherFrame, port, State.rxFrame_variantB variant]
  · change execFieldLinkUp p s = _
    simp [execFieldLinkUp, port, variant]
  · change execLaneFault p s = _
    simp [execLaneFault, port, variant]

end Sys2Proof.Machine

section
open Sys2Proof Sys2Proof.Machine

/-- Settles O52: each event's equation, with what a port's operations do to the port. -/
theorem sessionsOpenAndClose : Obligations.SessionsOpenAndClose := by
  unfold Obligations.SessionsOpenAndClose
  intro s p port
  refine ⟨?opened, ?acked, ?lapsed, ?lane, ?linkUp, fun variant f => exec_variantB port variant f, ?linkDown, ?silent⟩
  case opened =>
    intro f i o k optics up lane fcs least most ether long version len flags ty inst lt live early middle owner keyed gen auth fixed slot
    have whole : frameWhole f = true := by simp [frameWhole, fcs, least, most, ether]
    have e : exec (.openFrame p f) s = .next (s.rxOpen p f) := by
      change execOpenFrame p f s = _
      simp [execOpenFrame, port, frameIs, ty, State.rxFrame_open up lane optics whole long version len flags ty]
    rw [State.rxOpen_accepted inst lt live early middle owner keyed gen auth fixed slot] at e
    exact ⟨_, e, by simp, by simp, by simp⟩
  case acked =>
    intro r rest up sv opens
    obtain ⟨pl, out⟩ := out_openAck sv opens
    have e := port_openAck sv opens
    exact ⟨_, ackSession s p r, pl, exec_openAck port up, by rw [e], by rw [e], rfl, rfl, rfl, rfl, rfl, by rw [e], out⟩
  case lapsed =>
    intro x pend due
    exact ⟨_, exec_pendingSessionLapse_due port pend due, by simp, by simp [State.dropPending_of_pend pend], by simp⟩
  case lane =>
    intro optics up lane
    refine ⟨_, exec_laneFault port optics up lane, ?_⟩
    simp [State.port_endPort, State.pend_logEvent, State.pend_svEdge]
  case linkUp =>
    intro optics up lane
    exact exec_fieldLinkUp port optics up lane
  case linkDown =>
    intro lock
    refine ⟨_, exec_fieldLinkDown port lock, ?_⟩
    simp [State.port_endPort]
  case silent =>
    intro x sess due
    exact ⟨_, exec_keepaliveTimeout_due port sess due, State.sess_closeSession _ _ _⟩

end
end

section
/-! PROOFS. Dies that a part does not have (spec/12 R332). -/
namespace Sys2Proof.Machine

/-- A command that names a die which the part does not have (R332) stops: no state follows. -/
theorem exec_dieFail_absent {s : State} {d : Nat} (h : s.hasDie d = false) : exec (.dieFail (.whole d)) s = .fault .noSuchUnit := by
  change execDieFail (.whole d) s = _
  simp [execDieFail, h]

end Sys2Proof.Machine

section
open Sys2Proof Sys2Proof.Machine

/-- Refutes O58: `Instr.wf` admits dies 0 to 255 on every variant, and on YQ96-C, which has no die with d mod 8 ≥ 4 (R332), DIE_FAIL of die 4 stops. -/
theorem not_wellFormedCommandsComplete : ¬ Obligations.WellFormedCommandsComplete := by
  unfold Obligations.WellFormedCommandsComplete
  intro h
  have absent : ({ State.reset with part := { variant := .c, grade := .s, build := 1 } } : State).hasDie 4 = false := by decide
  obtain ⟨t, completes⟩ := h _ (.dieFail (.whole 4)) (by decide)
  rw [exec_dieFail_absent absent] at completes
  cases completes

end
end

section
/-! PROOFS. The setpoint called for and the changes it begins (spec/15 R421), and what changes of settings, thermal caps and the trip leave (R422). -/
namespace Sys2Proof.Machine

/-! ### The lowest setpoint (R421) -/

theorem lowerSp_eq_still {a b : Setpoint} : lowerSp a b = .still ↔ a = .still ∨ b = .still := by
  cases a <;> cases b <;> decide

theorem lowerSp_eq_spate {a b : Setpoint} : lowerSp a b = .spate ↔ a = .spate ∧ b = .spate := by
  cases a <;> cases b <;> decide

theorem Setpoint.eq_flow_iff (a : Setpoint) : a = .flow ↔ a ≠ .still ∧ a ≠ .spate := by
  cases a <;> decide

/-- Still is called for by a request of Still, FORCE_STILL, the cold plate's cap or a junction's cap of Still, and by nothing else. -/
theorem Power.wanted_eq_still {p : Power} : p.wanted = .still ↔ p.req = .still ∨ p.forced = true ∨ p.plateCap = true ∨ p.junctionCap = .still := by
  cases hf : p.forced <;> cases hp : p.plateCap <;> simp [Power.wanted, Power.cap, lowerSp_eq_still, hf, hp]

/-- Spate is called for where the request is Spate and nothing lowers it. -/
theorem Power.wanted_eq_spate {p : Power} : p.wanted = .spate ↔ p.req = .spate ∧ p.forced = false ∧ p.plateCap = false ∧ p.junctionCap = .spate := by
  cases hf : p.forced <;> cases hp : p.plateCap <;> simp [Power.wanted, Power.cap, lowerSp_eq_spate, hf, hp]

/-- Flow is called for where nothing calls for Still, and the request or a junction's cap is Flow. -/
theorem Power.wanted_eq_flow {p : Power} (req : p.req ≠ .still) (forced : p.forced = false) (plate : p.plateCap = false) (junction : p.junctionCap ≠ .still)
    (h : p.req = .flow ∨ p.junctionCap = .flow) : p.wanted = .flow := by
  rw [Setpoint.eq_flow_iff, ne_eq, ne_eq, Power.wanted_eq_still, Power.wanted_eq_spate]
  simp only [req, forced, plate, junction, or_self, Bool.false_eq_true, not_false_eq_true, true_and]
  rintro ⟨hreq, hjunction⟩
  simp [hreq, hjunction] at h

/-! ### SETPT at the query cores (R207) -/

/-- An edge makes its source pending at its core, and keeps what is pending at any core. -/
theorem State.pend_icEdge {s : State} {c d src : Nat} (source : src < 64) (h : c = d ∨ (s.core c).ic.pend.getLsbD src = true) :
    ((s.icEdge d src).core c).ic.pend.getLsbD src = true := by
  by_cases same : c = d
  · subst same
    rw [State.icEdge, State.core_setCore, ICtl.edge, BitVec.getLsbD_or, BitVec.getLsbD_ofNat, Nat.testBit_two_pow_self]
    simp [source]
  · rw [State.icEdge, State.core_setCore_ne _ _ _ _ same]
    exact h.resolve_left same

theorem State.pend_foldl_icEdge {l : List Nat} {s : State} {c src : Nat} (source : src < 64) (h : c ∈ l ∨ (s.core c).ic.pend.getLsbD src = true) :
    ((l.foldl (fun (t : State) (d : Nat) => t.icEdge d src) s).core c).ic.pend.getLsbD src = true := by
  induction l generalizing s with
  | nil => exact h.resolve_left List.not_mem_nil
  | cons d l ih =>
    refine ih ?_
    rcases h with h | h
    · exact (List.mem_cons.mp h).symm.imp_right (fun h => State.pend_icEdge source (.inl h))
    · exact .inr (State.pend_icEdge source (.inr h))

theorem State.foldl_icEdge_frame (l : List Nat) (s : State) (src : Nat) :
    (l.foldl (fun (t : State) (d : Nat) => t.icEdge d src) s).pw = s.pw ∧ (l.foldl (fun (t : State) (d : Nat) => t.icEdge d src) s).tl = s.tl :=
  List.foldlRecOn (motive := fun (t : State) => t.pw = s.pw ∧ t.tl = s.tl) l _ ⟨rfl, rfl⟩ (fun _ same _ _ => same)

@[simp] theorem State.pw_setptEdges (s : State) : s.setptEdges.pw = s.pw := (State.foldl_icEdge_frame _ _ _).1
@[simp] theorem State.tl_setptEdges (s : State) : s.setptEdges.tl = s.tl := (State.foldl_icEdge_frame _ _ _).2

theorem State.pend_setptEdges (s : State) {c : Nat} (query : c < 96) : (s.setptEdges.core c).ic.pend.getLsbD 5 = true := by
  rw [State.setptEdges]
  exact State.pend_foldl_icEdge (by decide) (.inl (List.mem_range.mpr query))

/-! ### A change begins (R30, R421) -/

/-- The request in force changes nothing. -/
theorem State.updateSetpoint_of_eq {s : State} (h : s.pw.wanted = s.pw.cur) : s.updateSetpoint = s := by
  simp [State.updateSetpoint, h]

/-- A request that differs from the setpoint in force begins a change where none is under way. -/
theorem State.updateSetpoint_of_ne {s : State} (up : s.engineUp = true) (idle : s.pw.changing = false) (h : s.pw.wanted ≠ s.pw.cur) :
    s.updateSetpoint = ({ s with pw := { s.pw with changing := true, target := s.pw.wanted } }).setptEdges := by
  simp [State.updateSetpoint, up, idle, h]

/-- What a request looked at can do: nothing, or begin a change. -/
theorem State.updateSetpoint_cases (s : State) :
    s.updateSetpoint = s ∨ s.updateSetpoint = ({ s with pw := { s.pw with changing := true, target := s.pw.wanted } }).setptEdges := by
  unfold State.updateSetpoint
  split
  · exact .inl rfl
  · exact .inr rfl

/-- A request looked at leaves everything of the PW island but the change itself. -/
theorem State.pw_updateSetpoint (s : State) : ∃ changing target, s.updateSetpoint.pw = { s.pw with changing := changing, target := target } := by
  rcases s.updateSetpoint_cases with e | e
  · exact ⟨s.pw.changing, s.pw.target, by rw [e]⟩
  · exact ⟨true, s.pw.wanted, by rw [e, State.pw_setptEdges]⟩

@[simp] theorem State.tl_updateSetpoint (s : State) : s.updateSetpoint.tl = s.tl := by
  rcases s.updateSetpoint_cases with e | e
  · rw [e]
  · rw [e, State.tl_setptEdges]

theorem State.pend_updateSetpoint {s : State} {c : Nat} (query : c < 96) (h : (s.core c).ic.pend.getLsbD 5 = true) :
    (s.updateSetpoint.core c).ic.pend.getLsbD 5 = true := by
  rcases s.updateSetpoint_cases with e | e
  · rw [e]
    exact h
  · rw [e]
    exact State.pend_setptEdges _ query

/-! ### Settings and caps -/

/-- What the setpoint called for depends on, with BOOT (R421, R422). -/
def Power.settings (p : Power) : Setpoint × Setpoint × Bool × Bool × Setpoint := (p.req, p.boot, p.forced, p.plateCap, p.junctionCap)

theorem Power.settings_eq_iff {p q : Power} : p.settings = q.settings ↔
    p.req = q.req ∧ p.boot = q.boot ∧ p.forced = q.forced ∧ p.plateCap = q.plateCap ∧ p.junctionCap = q.junctionCap := by
  simp only [Power.settings, Prod.mk.injEq]

theorem Power.wanted_congr {p q : Power} (h : p.settings = q.settings) : p.wanted = q.wanted := by
  obtain ⟨req, -, forced, plate, junction⟩ := Power.settings_eq_iff.mp h
  simp only [Power.wanted, Power.cap, req, forced, plate, junction]

/-- In `t`, which an event on `s` has left, the settings are those of `p`; the setpoint in force is as before; and the setpoint that `p` calls for has begun its
change where it differs and none was under way (R30, R421). -/
structure Requested (s : State) (p : Power) (t : State) : Prop where
  settings : t.pw.settings = p.settings
  cur : t.pw.cur = s.pw.cur
  kept : s.engineUp = true → s.pw.changing = false → p.wanted = s.pw.cur → t.pw.changing = false
  begun : s.engineUp = true → s.pw.changing = false → p.wanted ≠ s.pw.cur →
    t.pw.changing = true ∧ t.pw.target = p.wanted ∧ ∀ c, c < 96 → (t.core c).ic.pend.getLsbD 5 = true

/-- The PW island `q` has the settings of `p` and is looked at: an event that changes other fields too, as a cap does, requests what `p` requests. -/
theorem requested_updateSetpoint {s : State} {p q : Power} (settings : q.settings = p.settings) (state : q.state = s.pw.state) (cur : q.cur = s.pw.cur)
    (changing : q.changing = s.pw.changing) : Requested s p ({ s with pw := q } : State).updateSetpoint := by
  have up : ({ s with pw := q } : State).engineUp = s.engineUp := by simp only [State.engineUp, state]
  have wanted : q.wanted = p.wanted := Power.wanted_congr settings
  obtain ⟨_, _, e⟩ := State.pw_updateSetpoint { s with pw := q }
  refine ⟨by rw [e]; exact settings, by rw [e]; exact cur, fun _ idle same => ?_, fun runs idle other => ?_⟩
  · rw [State.updateSetpoint_of_eq ((wanted.trans same).trans cur.symm)]
    exact changing.trans idle
  · rw [State.updateSetpoint_of_ne (up.trans runs) (changing.trans idle) (fun h => other ((wanted.symm.trans h).trans cur)), State.pw_setptEdges]
    exact ⟨rfl, wanted, fun _ query => State.pend_setptEdges _ query⟩

/-- A request concerns the PW island and the query cores alone. -/
theorem Requested.congr {s t u : State} {p : Power} (h : Requested s p t) (pw : u.pw = t.pw) (cores : ∀ c, c < 96 → u.core c = t.core c) : Requested s p u := by
  obtain ⟨settings, cur, kept, begun⟩ := h
  refine ⟨by rw [pw, settings], by rw [pw, cur], by rw [pw]; exact kept, fun runs idle other => ?_⟩
  obtain ⟨changing, target, pend⟩ := begun runs idle other
  exact ⟨by rw [pw, changing], by rw [pw, target], fun c query => by rw [cores c query]; exact pend c query⟩

theorem State.core_svEdge_query (s : State) (src : Nat) {c : Nat} (query : c < 96) : (s.svEdge src).core c = s.core c := by
  rw [State.svEdge, State.icEdge, State.core_setCore_ne _ _ _ _ (by omega), State.icEdge, State.core_setCore_ne _ _ _ _ (by omega)]

theorem State.core_logEvent_query (s : State) (code inst sev arg : Nat) {c : Nat} (query : c < 96) : (s.logEvent code inst sev arg).core c = s.core c := by
  rw [State.core, State.cores_logEvent, ← State.core, State.core_svEdge_query _ _ query]

@[simp] theorem State.pw_svEdge (s : State) (src : Nat) : (s.svEdge src).pw = s.pw := rfl

@[simp] theorem State.pw_signal (s : State) (f : Fn) (v : Nat) : (s.signal f v).pw = s.pw := by
  simp only [State.signal]
  split <;> rfl

@[simp] theorem State.pw_vfEvent (s : State) (i bit : Nat) : (s.vfEvent i bit).pw = s.pw := by
  simp only [State.vfEvent]
  split
  · simp
  · split <;> rfl

theorem State.pw_foldl_vfEvent (l : List Nat) (bit : Nat) (s : State) : (l.foldl (fun (t : State) (i : Nat) => t.vfEvent i bit) s).pw = s.pw :=
  List.foldlRecOn (motive := fun (t : State) => t.pw = s.pw) l _ rfl (fun t same i _ => (t.pw_vfEvent i bit).trans same)

@[simp] theorem State.pw_logEvent (s : State) (code inst sev arg : Nat) : (s.logEvent code inst sev arg).pw = s.pw := by
  simp only [State.logEvent, State.pw_foldl_vfEvent, State.pw_signal, State.pw_svEdge]

theorem Requested.svEdge {s t : State} {p : Power} (h : Requested s p t) (src : Nat) : Requested s p (t.svEdge src) :=
  h.congr (t.pw_svEdge src) (fun _ query => t.core_svEdge_query src query)

theorem Requested.logEvent {s t : State} {p : Power} (h : Requested s p t) (code inst sev arg : Nat) : Requested s p (t.logEvent code inst sev arg) :=
  h.congr (t.pw_logEvent code inst sev arg) (fun _ query => t.core_logEvent_query code inst sev arg query)

/-! ### When a cap falls and rises (R422) -/

theorem State.heldFor_iff {s : State} {since : Option Nat} {ns : Nat} : s.heldFor since ns = true ↔ ∃ t0, since = some t0 ∧ t0 + ns ≤ s.now := by
  simp [State.heldFor, Option.any_eq_true]

theorem State.capDue_plate {s : State} : s.capDue true = true ↔ s.pw.plateCap = false ∧ ∃ t0, s.pw.plateHot = some t0 ∧ t0 + 1000000000 ≤ s.now := by
  simp [State.capDue, State.heldFor_iff]

theorem State.capDue_junction {s : State} : s.capDue false = true ↔ s.pw.junctionCap ≠ .still ∧ ∃ t0, s.pw.hot = some t0 ∧ t0 + 10000000 ≤ s.now := by
  simp [State.capDue, State.heldFor_iff]

theorem State.releaseDue_plate {s : State} :
    s.releaseDue true = true ↔ s.pw.plateCap = true ∧ ∃ t0, s.pw.plateCool = some t0 ∧ t0 + 10000000000 ≤ s.now := by
  simp [State.releaseDue, State.heldFor_iff]

theorem State.releaseDue_junction {s : State} :
    s.releaseDue false = true ↔ s.pw.junctionCap ≠ .spate ∧ ∃ t0, s.pw.cool = some t0 ∧ t0 + 1000000000 ≤ s.now := by
  simp [State.releaseDue, State.heldFor_iff]

/-- The caps as THERMAL_CAP sets them: the cold plate's to Still, a junction's one step down. -/
def Power.lowered (p : Power) (plate : Bool) : Power := if plate then { p with plateCap := true } else { p with junctionCap := spOf (spNo p.junctionCap - 1) }

/-- The caps as THERMAL_CAP_RELEASE sets them: the cold plate's lifted, a junction's one step up. -/
def Power.raised (p : Power) (plate : Bool) : Power := if plate then { p with plateCap := false } else { p with junctionCap := spOf (spNo p.junctionCap + 1) }

theorem exec_thermalCap_due {s : State} {plate : Bool} (up : s.engineUp = true) (due : s.capDue plate = true) :
    ∃ t, exec (.thermalCap plate) s = .next t ∧ Requested s (s.pw.lowered plate) t := by
  change ∃ t, execThermalCap plate s = _ ∧ _
  rw [execThermalCap, if_neg (by simp [up, due])]
  refine ⟨_, rfl, .logEvent (.svEdge (requested_updateSetpoint ?_ ?_ ?_ ?_) 1) _ _ _ _⟩ <;> cases plate <;> rfl

theorem exec_thermalCapRelease_due {s : State} {plate : Bool} (up : s.engineUp = true) (due : s.releaseDue plate = true) :
    ∃ t, exec (.thermalCapRelease plate) s = .next t ∧ Requested s (s.pw.raised plate) t := by
  change ∃ t, execThermalCapRelease plate s = _ ∧ _
  rw [execThermalCapRelease, if_neg (by simp [up, due])]
  refine ⟨_, rfl, .svEdge (requested_updateSetpoint ?_ ?_ ?_ ?_) 1⟩ <;> cases plate <;> rfl

theorem exec_thermalCap_early {s : State} {plate : Bool} (due : ¬s.capDue plate = true) : exec (.thermalCap plate) s = .next s := by
  change execThermalCap plate s = _
  simp [execThermalCap, due]

theorem exec_thermalCapRelease_early {s : State} {plate : Bool} (due : ¬s.releaseDue plate = true) : exec (.thermalCapRelease plate) s = .next s := by
  change execThermalCapRelease plate s = _
  simp [execThermalCapRelease, due]

/-! ### The other events -/

theorem exec_pwSetptWrite {s : State} (on : s.pw.state ≠ .off) (v : W32) :
    ∃ t, exec (.pwSetptWrite v) s = .next t ∧ Requested s { s.pw with req := spOf (v.toNat % 4), boot := spOf (v.toNat / 16 % 4) } t :=
  ⟨setptWrite s v.toNat, if_neg on, requested_updateSetpoint rfl rfl rfl rfl⟩

theorem exec_forceStillEdge (s : State) (low : Bool) :
    ∃ t, exec (.forceStillEdge low) s = .next t ∧ Requested s { s.pw with forced := low } t :=
  ⟨_, rfl, requested_updateSetpoint rfl rfl rfl rfl⟩

/-- A running engine is not in HOLD. -/
theorem State.state_ne_hold {s : State} (up : s.engineUp = true) : s.pw.state ≠ .hold := by
  intro h
  simp [State.engineUp, h] at up

/-- HOLD keeps the cause of the violation or trip that a running engine met (R420). -/
theorem State.lastRst_hold {s : State} (up : s.engineUp = true) (cause : Nat) : (s.hold cause).pw.lastRst = cause := if_neg (State.state_ne_hold up)

theorem exec_thermalTrip {s : State} (up : s.engineUp = true) :
    exec .thermalTrip s = .next { s.hold 4 with pw := { (s.hold 4).pw with trip := true, alert := (s.hold 4).pw.alert ||| 8 } } := by
  change execThermalTrip s = _
  simp [execThermalTrip, up]

/-- The end of a change (R30, R421): the target is in force, the idle estimate starts anew (R400), and SETPT is raised at every query core. -/
theorem exec_setpointChangeDone {s : State} (up : s.engineUp = true) (changing : s.pw.changing = true) :
    ∃ t, exec .setpointChangeDone s = .next t ∧ t.pw.cur = s.pw.target ∧ t.pw.alert = s.pw.alert ||| 0x10 ∧ t.tl.idleEst = 45000 ∧
      ∀ c, c < 96 → (t.core c).ic.pend.getLsbD 5 = true := by
  change ∃ t, execSetpointChangeDone s = _ ∧ _
  simp only [execSetpointChangeDone, up, changing, Bool.not_true, Bool.or_self, Bool.false_eq_true, if_false]
  refine ⟨_, rfl, ?_⟩
  obtain ⟨_, _, e⟩ := State.pw_updateSetpoint (State.setptEdges _)
  rw [e]
  refine ⟨by simp, by simp, by simp, fun c query => State.pend_updateSetpoint query (State.pend_setptEdges _ query)⟩

end Sys2Proof.Machine

section
open Sys2Proof Sys2Proof.Machine

/-- Settles O43: each event's `Requested`, with what `Power.wanted` is and when a cap is due. -/
theorem setpointsAndThermal : Obligations.SetpointsAndThermal := by
  unfold Obligations.SetpointsAndThermal
  intro s wanted requests
  have lowest : ∀ p : Power, wanted p p.wanted := fun p =>
    ⟨Power.wanted_eq_still.mpr, fun req forced plate junction =>
      ⟨Power.wanted_eq_flow req forced plate junction, fun req junction => Power.wanted_eq_spate.mpr ⟨req, forced, plate, junction⟩⟩⟩
  have requested : ∀ (i : Instr) (p : Power), (∃ t, exec i s = .next t ∧ Requested s p t) → requests i p := by
    rintro i p ⟨t, e, r⟩
    obtain ⟨req, boot, forced, plate, junction⟩ := Power.settings_eq_iff.mp r.settings
    exact ⟨t, p.wanted, e, lowest p, req, boot, forced, plate, junction, r.cur, fun up idle => ⟨r.kept up idle, r.begun up idle⟩⟩
  refine ⟨fun v on => requested _ _ (exec_pwSetptWrite on v), fun low => requested _ _ (exec_forceStillEdge s low), fun up => ⟨?caps, ?trip, ?done⟩⟩
  case caps =>
    intro held acts
    exact ⟨⟨fun h => requested _ _ (exec_thermalCap_due up (State.capDue_plate.mpr h)), fun h => exec_thermalCap_early (mt State.capDue_plate.mp h)⟩,
      ⟨fun h => requested _ _ (exec_thermalCap_due up (State.capDue_junction.mpr h)), fun h => exec_thermalCap_early (mt State.capDue_junction.mp h)⟩,
      ⟨fun h => requested _ _ (exec_thermalCapRelease_due up (State.releaseDue_plate.mpr h)),
        fun h => exec_thermalCapRelease_early (mt State.releaseDue_plate.mp h)⟩,
      ⟨fun h => requested _ _ (exec_thermalCapRelease_due up (State.releaseDue_junction.mpr h)),
        fun h => exec_thermalCapRelease_early (mt State.releaseDue_junction.mp h)⟩⟩
  case trip => exact ⟨_, exec_thermalTrip up, rfl, rfl, by simp, State.lastRst_hold up 4⟩
  case done =>
    intro changing
    obtain ⟨t, e, cur, alert, idle, pend⟩ := exec_setpointChangeDone up changing
    exact ⟨t, e, cur, by simp [alert], idle, pend⟩

end
end

section
/-! PROOFS. Writes of working memory leave every command record (spec/11 R312 to R328), and what a piece of a host APPEND (spec/01 R20, spec/09 R260)
and an ABORT (R272) do to the records. -/
namespace Sys2Proof.Machine

/-! ### Working memory and command records -/

theorem SMap.find_mapVals {α : Type} (m : SMap α) (f : Nat → α → α) (i : Nat) : SMap.find (SMap.mapVals m f) i = (SMap.find m i).map (f i) := by
  induction m with
  | nil => rfl
  | cons e m ih =>
    obtain ⟨j, v⟩ := e
    simp only [SMap.mapVals, List.map_cons, SMap.find] at ih ⊢
    split
    · subst_vars
      rfl
    · exact ih

theorem State.foldl_cmds {α : Type} {f : State → α → State} {i : Nat} (hf : ∀ t e, ((f t e).inst i).cmds = (t.inst i).cmds) (l : List α) (s : State) :
    ((l.foldl f s).inst i).cmds = (s.inst i).cmds :=
  List.foldlRecOn (motive := fun t => (t.inst i).cmds = (s.inst i).cmds) l f rfl (fun t same e _ => (hf t e).trans same)

theorem State.cmds_congr {s t : State} (insts : t.insts = s.insts) (i : Nat) : (t.inst i).cmds = (s.inst i).cmds := by
  rw [State.inst, insts, State.inst]

@[simp] theorem State.insts_moved (s : State) (tag n : Nat) : (s.moved tag n).insts = s.insts := rfl
@[simp] theorem State.insts_touchRank (s : State) (ch r : Nat) : (s.touchRank ch r).insts = s.insts := rfl
@[simp] theorem State.insts_svEdge (s : State) (src : Nat) : (s.svEdge src).insts = s.insts := rfl

theorem State.cmds_ite {q : Prop} [Decidable q] {s t u : State} {i : Nat} (ht : (t.inst i).cmds = (s.inst i).cmds) (hu : (u.inst i).cmds = (s.inst i).cmds) :
    ((if q then t else u).inst i).cmds = (s.inst i).cmds := by
  split
  · exact ht
  · exact hu

@[simp] theorem State.inst_hostWrite (s : State) (a i : Nat) (bs : List Byte) : (s.hostWrite a bs).inst i = s.inst i := rfl

theorem State.inst_signal (s : State) (f : Fn) (v i : Nat) : (s.signal f v).inst i = s.inst i := by
  simp only [State.signal]
  split <;> rfl

theorem State.cmds_setInst {s : State} {j : Nat} {x : Inst} (h : x.cmds = (s.inst j).cmds) (i : Nat) : ((s.setInst j x).inst i).cmds = (s.inst i).cmds := by
  by_cases same : i = j
  · subst same
    rw [State.inst_setInst, h]
  · rw [State.inst_setInst_ne _ _ _ _ same]

theorem State.cmds_vfEvent (s : State) (j bit i : Nat) : ((s.vfEvent j bit).inst i).cmds = (s.inst i).cmds := by
  simp only [State.vfEvent]
  split
  · rw [State.inst_signal, State.inst_hostWrite]
    exact State.cmds_setInst (by rfl) i
  · split
    · rfl
    · exact State.cmds_setInst (by rfl) i

theorem State.cmds_logEvent (s : State) (code inst sev arg i : Nat) : ((s.logEvent code inst sev arg).inst i).cmds = (s.inst i).cmds := by
  simp only [State.logEvent]
  rw [State.foldl_cmds (fun t e => t.cmds_vfEvent e 4 i), State.inst_signal]
  rfl

theorem State.cmds_logEvent_if {q : Prop} [Decidable q] (s : State) (code inst sev arg i : Nat) :
    ((if q then s.logEvent code inst sev arg else s).inst i).cmds = (s.inst i).cmds :=
  State.cmds_ite (s.cmds_logEvent code inst sev arg i) rfl

theorem State.cmds_failRunning (s : State) (i : Nat) : (s.failRunning.inst i).cmds = (s.inst i).cmds := by
  simp only [State.inst, State.failRunning, SMap.get, SMap.find_mapVals]
  cases SMap.find s.insts i with
  | none => rfl
  | some x =>
    simp only [Option.map_some, Option.getD_some]
    split <;> rfl

theorem State.cmds_stopChan (s : State) (ch i : Nat) : ((s.stopChan ch).inst i).cmds = (s.inst i).cmds := by
  simp only [State.stopChan]
  split
  · rfl
  · rw [State.cmds_failRunning, State.cmds_logEvent]
    rfl

theorem State.cmds_countUe (s : State) (da ch i : Nat) : ((s.countUe da ch).inst i).cmds = (s.inst i).cmds := by
  simp only [State.countUe]
  refine State.cmds_ite ((State.cmds_stopChan _ _ _).trans ?_) ?_
  · rw [State.cmds_logEvent_if]
    exact State.cmds_congr (by simp) i
  · rw [State.cmds_logEvent_if]
    exact State.cmds_congr (by simp) i

theorem State.cmds_countCe (s : State) (ch n i : Nat) : ((s.countCe ch n).inst i).cmds = (s.inst i).cmds := by
  simp only [State.countCe]
  split
  · rfl
  · rw [State.cmds_logEvent_if]
    exact State.cmds_congr (by simp) i

theorem State.cmds_readRow (s : State) (ch r i : Nat) : ((s.readRow ch r).2.inst i).cmds = (s.inst i).cmds := by
  simp only [State.readRow]
  rw [State.cmds_countCe]
  exact State.cmds_congr (by simp) i

theorem State.cmds_readSlot (s : State) (tag ch r slot i : Nat) : ((s.readSlot tag ch r slot).2.inst i).cmds = (s.inst i).cmds := by
  simp only [State.readSlot]
  split
  · rfl
  · exact State.cmds_countUe _ _ _ _
  · exact (State.foldl_cmds (fun t j => t.cmds_countUe _ ch i) _ _).trans (State.cmds_readRow _ _ _ _)

theorem State.cmds_flushRow (s : State) (ch i : Nat) : ((s.flushRow ch).inst i).cmds = (s.inst i).cmds := by
  simp only [State.flushRow]
  split
  · rfl
  · next b _ =>
    have read := State.foldl_cmds (fun t j => t.cmds_readSlot b.tag ch b.row j i) b.slots (s.setChan ch { s.chan ch with buf := none })
    refine State.cmds_ite (State.cmds_congr (by simp) i) (Eq.trans ?_ read)
    exact State.cmds_congr (by simp) i

theorem State.cmds_flushFor (s : State) (ch r i : Nat) : ((s.flushFor ch r).inst i).cmds = (s.inst i).cmds := by
  simp only [State.flushFor]
  exact State.cmds_ite (s.cmds_flushRow ch i) rfl

theorem State.cmds_readLine (s : State) (tag line i : Nat) : ((s.readLine tag line).2.inst i).cmds = (s.inst i).cmds := by
  simp only [State.readLine]
  split
  · exact State.cmds_countUe _ _ _ _
  · split
    · exact State.cmds_countUe _ _ _ _
    · exact (State.cmds_readSlot _ _ _ _ _ _).trans (State.cmds_flushFor _ _ _ _)

theorem State.cmds_mergeLine (s : State) (tag ch r slot i : Nat) : ((s.mergeLine tag ch r slot).inst i).cmds = (s.inst i).cmds := by
  have other : ((if (s.chan ch).buf.any (fun b => b.row != r) then s.flushRow ch else s).inst i).cmds = (s.inst i).cmds :=
    State.cmds_ite (s.cmds_flushRow ch i) rfl
  simp only [State.mergeLine]
  exact State.cmds_ite ((State.cmds_flushRow _ _ _).trans other) other

theorem State.cmds_writeLine (s : State) (tag line i : Nat) (d : List Byte) : ((s.writeLine tag line d).inst i).cmds = (s.inst i).cmds := by
  simp only [State.writeLine]
  generalize s.lineAddr (64 * line) = place
  obtain ⟨ch, r, slot⟩ := place
  split
  · rfl
  · refine State.cmds_ite rfl ?_
    have merged := State.cmds_mergeLine ((s.moved tag 64).touchRank ch (s.rankOf r)) tag ch r slot i
    exact (State.cmds_congr (by simp) i).trans (merged.trans (State.cmds_congr (by simp) i))

theorem State.cmds_storeLine (s : State) (tag da line i : Nat) (d : List Byte) : ((s.storeLine tag da line d).2.inst i).cmds = (s.inst i).cmds := by
  simp only [State.storeLine]
  split
  · exact s.cmds_writeLine _ _ _ _
  · split
    · exact s.cmds_readLine tag line i
    · exact (State.cmds_writeLine _ _ _ _ _).trans (s.cmds_readLine tag line i)

/-- A write of working memory can make instances FAILED (R328), and leaves their commands for the tick after. -/
theorem State.cmds_writeMem (s : State) (tag da i : Nat) (d : List Byte) : ((s.writeMem tag da d).inst i).cmds = (s.inst i).cmds :=
  State.foldl_cmds (fun t line => t.cmds_storeLine tag da line i d) _ s

/-! ### Commands looked up -/

@[simp] theorem State.inst_modInst (s : State) (i : Nat) (f : Inst → Inst) : (s.modInst i f).inst i = f (s.inst i) := State.inst_setInst _ _ _

/-- An only command that is an append with row data to read is the oldest one (R260). -/
theorem Inst.reading_solo {x : Inst} {c : Cmd} {a : AppendWork} (cmds : x.cmds = [c]) (ring : c.src = .ring) (work : c.work = .append a) (more : a.got < a.len) :
    x.reading = some (c, a) := by
  simp [Inst.reading, cmds, ring, work, more]

theorem State.cmds_setAppend_solo {s : State} {i : Nat} {c : Cmd} (cmds : (s.inst i).cmds = [c]) (a : AppendWork) :
    ((s.setAppend i c.no a).inst i).cmds = [{ c with work := .append a }] := by
  simp [State.setAppend, Inst.cmd?, Inst.putCmd, cmds]

/-- A piece that leaves some of the append unread: its bytes are written to the intake buffer, and the append has read and been charged for them. -/
theorem pieceRead_partial {s : State} {i : Nat} {c : Cmd} {a : AppendWork} {bs : List Byte} (cmds : (s.inst i).cmds = [c]) (ring : c.src = .ring)
    (work : c.work = .append a) (nonempty : bs ≠ []) (most : bs.length ≤ 262144) (more : a.got + bs.length < a.len) (free : s.withheld i = false) :
    pieceRead s i bs = ((s.writeMem i (a.bufDa + a.got) bs).addAct i (fun x => { x with host := x.host + bs.length })).setAppend i c.no
      { a with got := a.got + bs.length, charges := a.charges + s.chargeFor i a.table bs.length, full := false } := by
  have unread : (a.got + bs.length == a.len) = false := beq_false_of_ne (Nat.ne_of_lt more)
  have fits : ¬a.len - a.got < bs.length := by omega
  simp [pieceRead, Inst.reading_solo cmds ring work (by omega), nonempty, Nat.not_lt.mpr most, fits, free, unread]

/-! ### Completions -/

@[simp] theorem Inst.countMalf_batches (x : Inst) (st : W16) : (x.countMalf st).batches = x.batches := by
  unfold Inst.countMalf
  split <;> rfl

@[simp] theorem Inst.countMalf_cmds (x : Inst) (st : W16) : (x.countMalf st).cmds = x.cmds := by
  unfold Inst.countMalf
  split <;> rfl

@[simp] theorem Inst.countMalf_done (x : Inst) (st : W16) : (x.countMalf st).done = x.done := by
  unfold Inst.countMalf
  split <;> rfl

/-- A completed command's record leaves; the other records stay. -/
theorem State.cmds_finishOne_ring {s : State} {i : Nat} {c : Cmd} (ring : c.src = .ring) (solo : c.batch = none) (st : W16) (res : W64) :
    ((s.finishOne i c st res).inst i).cmds = (s.inst i).cmds.filter (fun d => d.no != c.no) := by
  simp [State.finishOne, ring, solo, Inst.report]

theorem State.batches_finishOne_ring {s : State} {i : Nat} {c : Cmd} (ring : c.src = .ring) (solo : c.batch = none) (st : W16) (res : W64) :
    ((s.finishOne i c st res).inst i).batches = (s.inst i).batches := by
  simp [State.finishOne, ring, solo, Inst.report]

/-- A ring command outside a batch leaves with a completion of its own, after those already formed (R239, R243). -/
theorem State.entries_finishOne_ring {s : State} {i : Nat} {c : Cmd} (ring : c.src = .ring) (solo : c.batch = none) (st : W16) (res : W64) :
    ((s.finishOne i c st res).inst i).done.map Cqe.entry =
      (s.inst i).done.map Cqe.entry ++ [cqEntry c.cid st 1 (if okClass st then 0xFFFF else 0) res] := by
  simp [State.finishOne, ring, solo, Inst.report, soloCqe]

theorem State.settleAbort_of_not_waiting (i : Nat) (s : State) {d : Cmd} (h : ∀ t st, d.phase ≠ .abortWait t st) : State.settleAbort i s d = s := by
  unfold State.settleAbort
  split
  · next e => exact absurd e (h _ _)
  · rfl

/-- No ABORT waits for a target's completion: none is looked at (R272). -/
theorem State.settleAborts_idle {s : State} {i : Nat} (h : ∀ d ∈ (s.inst i).cmds, ∀ t st, d.phase ≠ .abortWait t st) : s.settleAborts i = s :=
  List.foldlRecOn (motive := fun t => t = s) _ _ rfl (fun t same d hd => (State.settleAbort_of_not_waiting i t (h d hd)).trans same)

/-- An only command, an ABORT that waits for one whose completion is formed, completes with its status (R272). -/
theorem State.settleAborts_solo {s : State} {i target : Nat} {c : Cmd} {st : W16} (cmds : (s.inst i).cmds = [c]) (batches : (s.inst i).batches = [])
    (phase : c.phase = .abortWait target st) (other : c.no ≠ target) : s.settleAborts i = s.finishOne i c st 0 := by
  simp [State.settleAborts, State.settleAbort, Inst.formed, cmds, batches, phase, other]

/-- An ABORT acted on: it has its status and waits for its target's completion (R272). -/
def Cmd.acted (c : Cmd) (target : Nat) (st : W16) : Cmd := { c with phase := .abortWait target st }

/-- An only command, an ABORT acted on, completes at once where its target's completion is formed. -/
theorem State.settleAborts_acted {s : State} {i target : Nat} {c : Cmd} (cmds : (s.inst i).cmds = [c]) (batches : (s.inst i).batches = []) (ring : c.src = .ring)
    (solo : c.batch = none) (other : c.no ≠ target) (st : W16) :
    let u := (s.modInst i (fun y => y.putCmd (c.acted target st))).settleAborts i
    (u.inst i).cmds = [] ∧ (u.inst i).done.map Cqe.entry = (s.inst i).done.map Cqe.entry ++ [cqEntry c.cid st 1 (if okClass st then 0xFFFF else 0) 0] := by
  have put : ((s.modInst i (fun y => y.putCmd (c.acted target st))).inst i).cmds = [c.acted target st] := by simp [Inst.putCmd, Cmd.acted, cmds]
  have ring : (c.acted target st).src = .ring := ring
  have solo : (c.acted target st).batch = none := solo
  rw [State.settleAborts_solo put ((congrArg Inst.batches (State.inst_modInst _ _ _)).trans batches) rfl other]
  refine ⟨?_, ?_⟩
  · rw [State.cmds_finishOne_ring ring solo, put]
    simp
  · rw [State.entries_finishOne_ring ring solo, State.inst_modInst]
    rfl

/-- No FLUSH has started: none is looked at (R270). -/
theorem State.flushCheck_idle {s : State} {i : Nat} (h : ∀ d ∈ (s.inst i).cmds, d.work ≠ .flush) : s.flushCheck i = s := by
  have empty : (s.inst i).cmds.filter (fun c => c.work == .flush) = [] := List.filter_eq_nil_iff.mpr (fun d hd => by simp [h d hd])
  rw [State.flushCheck, empty, List.foldl_nil]

/-- A ring command that holds nothing completes, and no ABORT or FLUSH waited for it. -/
theorem State.complete_ring {s : State} {i : Nat} {c : Cmd} (found : (s.inst i).cmd? c.no = some c) (work : c.work = .none) (ring : c.src = .ring)
    (solo : c.batch = none) (aborts : ∀ d ∈ (s.inst i).cmds, ∀ t st, d.phase ≠ .abortWait t st) (flushes : ∀ d ∈ (s.inst i).cmds, d.work ≠ .flush)
    (st : W16) (res : W64) : s.complete i c.no st res = s.finishOne i c st res := by
  have rest : ∀ d ∈ ((s.finishOne i c st res).inst i).cmds, d ∈ (s.inst i).cmds := by
    rw [State.cmds_finishOne_ring ring solo]
    exact fun d hd => (List.mem_filter.mp hd).1
  have finish : s.finish i c.no st res = s.finishOne i c st res := by
    simp only [State.finish, found, work, State.dropWork]
    exact State.settleAborts_idle (fun d hd => aborts d (rest d hd))
  rw [State.complete, finish, State.flushCheck_idle (fun d hd => flushes d (rest d hd))]

theorem Inst.done_ne_nil_of_entries {x : Inst} {l : List W128} {e : W128} (h : x.done.map Cqe.entry = l ++ [e]) : x.done ≠ [] := by
  intro empty
  simp [empty] at h

/-- Nothing fails for want of a core while a completion is still to be written (R122). -/
theorem State.settleNoCore_of_done {s : State} {i : Nat} (h : (s.inst i).done ≠ []) : s.settleNoCore i = s := by
  have held : (!(s.inst i).done.isEmpty) = true := by simp [h]
  simp only [State.settleNoCore, held, Bool.or_true, Bool.true_or, if_true]
  split
  · rfl
  · split <;> rfl

/-! ### ABORT (R272) -/

/-- An ABORT that names itself. -/
theorem State.abortOn_self {s : State} {i : Nat} {c : Cmd} (self : BitVec.ofNat 16 (c.op 16 2) = c.cid) : s.abortOn i c = s.complete i c.no 0x010C 0 := by
  simp [State.abortOn, self]

/-- An ABORT of a queued command completes it with ABORTED and waits for that completion with status 0x0003. -/
theorem State.abortOn_queued {s : State} {i : Nat} {c d : Cmd} (other : BitVec.ofNat 16 (c.op 16 2) ≠ c.cid)
    (fresh : (s.inst i).abortCids.contains (BitVec.ofNat 16 (c.op 16 2)) = false)
    (found : (s.inst i).cmds.find? (fun e => e.src == .ring && e.cid == BitVec.ofNat 16 (c.op 16 2) && decide (e.no < c.no)) = some d)
    (queued : d.phase = .queued) :
    s.abortOn i c = ((s.complete i d.no 0x0600 0).modInst i (fun y => y.putCmd (c.acted d.no 0x0003))).settleAborts i := by
  have acted : ¬(BitVec.ofNat 16 (c.op 16 2) = c.cid ∨
      ((s.inst i).abortCids.contains (BitVec.ofNat 16 (c.op 16 2)) = true ∧ (s.inst i).cids.contains (BitVec.ofNat 16 (c.op 16 2)) = true)) := by
    rintro (h | ⟨h, -⟩)
    · exact other h
    · exact Bool.false_ne_true (fresh.symm.trans h)
  rw [State.abortOn, if_neg acted, found]
  simp [State.abortTarget, queued, Cmd.acted]

theorem exec_hostAppendPieceRead {s : State} {i : Nat} (inst : i < 24) (sweep : s.mc.sweep = false) (bs : List Byte) :
    exec (.hostAppendPieceRead i bs) s = .next (pieceRead s i bs) := by
  change execHostAppendPieceRead i bs s = _
  simp [execHostAppendPieceRead, Nat.not_le.mpr inst, sweep]

theorem exec_abort_held {s : State} {i : Nat} {c : Cmd} (inst : i < 24) (held : (s.inst i).cmds.find? (fun d => d.phase == .abortHeld) = some c) :
    exec (.abort i) s = .next ((s.abortOn i c).settleNoCore i) := by
  change execAbort i s = _
  rw [execAbort, if_neg (Nat.not_le.mpr inst), abortNext, held]

end Sys2Proof.Machine

section
open Sys2Proof Sys2Proof.Machine

/-- Settles O51: a piece read and charged, and an ABORT's own completion after its target's. -/
theorem appendPiecesAndAborts : Obligations.AppendPiecesAndAborts := by
  unfold Obligations.AppendPiecesAndAborts
  intro s i inst
  refine ⟨?piece, ?queued, ?self⟩
  case piece =>
    intro c a bs cmds ring work nonempty most more free sweep
    have e := exec_hostAppendPieceRead (i := i) inst sweep bs
    rw [pieceRead_partial cmds ring work nonempty most more free] at e
    exact ⟨_, _, e, State.cmds_setAppend_solo ((State.cmds_writeMem _ _ _ _ _).trans cmds) _, rfl⟩
  case queued =>
    intro d c cmds batches older dring dsolo dphase dwork _ ring solo phase work _ target other fresh
    have held : (s.inst i).cmds.find? (fun e => e.phase == .abortHeld) = some c := by simp [cmds, dphase, phase]
    have e := exec_abort_held inst held
    have found : (s.inst i).cmds.find? (fun e => e.src == .ring && e.cid == BitVec.ofNat 16 (c.op 16 2) && decide (e.no < c.no)) = some d := by
      simp [cmds, dring, target, older]
    have aborted : s.complete i d.no 0x0600 0 = s.finishOne i d 0x0600 0 :=
      State.complete_ring (by simp [Inst.cmd?, cmds]) dwork dring dsolo (by simp [cmds, dphase, phase]) (by simp [cmds, dwork, work]) _ _
    have left : ((s.finishOne i d 0x0600 0).inst i).cmds = [c] := by
      rw [State.cmds_finishOne_ring dring dsolo, cmds]
      simp [Nat.ne_of_gt older]
    have forms := State.entries_finishOne_ring (s := s) (i := i) dring dsolo 0x0600 0
    have quiet := (State.batches_finishOne_ring (s := s) (i := i) dring dsolo 0x0600 0).trans batches
    obtain ⟨gone, done⟩ := State.settleAborts_acted left quiet ring solo (Nat.ne_of_gt older) 0x0003
    rw [State.abortOn_queued (target ▸ other) (target ▸ fresh) found dphase, aborted, State.settleNoCore_of_done (Inst.done_ne_nil_of_entries done)] at e
    refine ⟨_, e, gone, ?_⟩
    rw [done, forms, List.append_assoc]
    rfl
  case self =>
    intro c cmds ring solo phase work _ self
    have held : (s.inst i).cmds.find? (fun e => e.phase == .abortHeld) = some c := by simp [cmds, phase]
    have e := exec_abort_held inst held
    have complete : s.complete i c.no 0x010C 0 = s.finishOne i c 0x010C 0 :=
      State.complete_ring (by simp [Inst.cmd?, cmds]) work ring solo (by simp [cmds, phase]) (by simp [cmds, work]) _ _
    have done := State.entries_finishOne_ring (s := s) (i := i) ring solo 0x010C 0
    rw [State.abortOn_self self, complete, State.settleNoCore_of_done (Inst.done_ne_nil_of_entries done)] at e
    refine ⟨_, e, ?_, done⟩
    rw [State.cmds_finishOne_ring ring solo, cmds]
    simp

end
end

section
/-! PROOFS. What memory traffic (spec/11 R312 to R328, spec/07 R212 to R214) leaves alone: Headgate, and of each core all but interrupt edges and its cache. -/
namespace Sys2Proof.Machine

/-- A core with interrupt edges `e` added (R202) and its data cache and write-back buffer replaced. -/
def Core.touched (k : Core) (e : W64) (cache : SMap CLine) (wbuf : Option CLine) : Core :=
  { k with ic := { k.ic with pend := k.ic.pend ||| e }, cache := cache, wbuf := wbuf }

@[simp] theorem Core.touched_touched (k : Core) (d e : W64) (a b : SMap CLine) (x y : Option CLine) :
    (k.touched d a x).touched e b y = k.touched (d ||| e) b y := by
  simp [Core.touched, BitVec.or_assoc]

theorem Core.touched_zero (k : Core) (cache : SMap CLine) (wbuf : Option CLine) : k.touched 0 cache wbuf = { k with cache := cache, wbuf := wbuf } := by
  simp [Core.touched]

/-- What reads and writes of working memory and of the data caches, with the events that they log, leave alone. -/
structure Traffic (s t : State) : Prop where
  hg : t.hg = s.hg
  count : t.hi.n = s.hi.n
  cores : ∀ c, ∃ e cache wbuf, t.core c = (s.core c).touched e cache wbuf

variable {a s t u : State}

theorem Traffic.refl (s : State) : Traffic s s := ⟨rfl, rfl, fun _ => ⟨0, _, _, (Core.touched_zero _ _ _).symm⟩⟩

theorem Traffic.trans (h : Traffic s t) (k : Traffic t u) : Traffic s u := by
  refine ⟨k.hg.trans h.hg, k.count.trans h.count, fun c => ?_⟩
  obtain ⟨d, _, _, eh⟩ := h.cores c
  obtain ⟨e, b, y, ek⟩ := k.cores c
  exact ⟨d ||| e, b, y, by rw [ek, eh, Core.touched_touched]⟩

/-- A change of anything but Headgate, the number of instances and the cores. -/
theorem Traffic.other (h : Traffic a s) (hg : t.hg = s.hg) (count : t.hi.n = s.hi.n) (cores : t.cores = s.cores) : Traffic a t :=
  ⟨hg.trans h.hg, count.trans h.count, fun c => by rw [State.core, cores]; exact h.cores c⟩

theorem Traffic.ite {q : Prop} [Decidable q] (hs : Traffic a s) (ht : Traffic a t) : Traffic a (if q then s else t) := by
  split
  · exact hs
  · exact ht

theorem Traffic.foldl {α : Type} {f : State → α → State} {l : List α} (hf : ∀ t e, Traffic t (f t e)) (h : Traffic a s) : Traffic a (l.foldl f s) :=
  List.foldlRecOn (motive := Traffic a) l f h (fun t k e _ => k.trans (hf t e))

/-- A core set to what edges, a new cache and a new write-back buffer make of it as it was. -/
theorem Traffic.setCore {c : Nat} {k : Core} (h : Traffic a s) (core : ∃ e cache wbuf, k = (a.core c).touched e cache wbuf) : Traffic a (s.setCore c k) := by
  refine ⟨h.hg, h.count, fun d => ?_⟩
  by_cases same : d = c
  · subst same
    rwa [State.core_setCore]
  · rw [State.core_setCore_ne _ _ _ _ same]
    exact h.cores d

/-! ### Events -/

theorem Traffic.icEdge {c src : Nat} (h : Traffic a s) : Traffic a (s.icEdge c src) :=
  h.trans (.setCore (.refl s) ⟨BitVec.ofNat 64 (2 ^ src), _, _, rfl⟩)

theorem Traffic.svEdge {src : Nat} (h : Traffic a s) : Traffic a (s.svEdge src) := .icEdge (.icEdge h)

theorem Traffic.signal {f : Fn} {v : Nat} (h : Traffic a s) : Traffic a (s.signal f v) :=
  .ite (.other h rfl rfl rfl) (.other h rfl rfl rfl)

theorem Traffic.vfEvent {i bit : Nat} (h : Traffic a s) : Traffic a (s.vfEvent i bit) :=
  .ite (.signal (.other h rfl rfl rfl)) (.ite h (.other h rfl rfl rfl))

theorem Traffic.logEvent {code inst sev arg : Nat} (h : Traffic a s) : Traffic a (s.logEvent code inst sev arg) :=
  .foldl (fun t _ => .vfEvent (.refl t)) (.signal (.svEdge (.other h rfl rfl rfl)))

/-! ### Working memory -/

theorem Traffic.failRunning (h : Traffic a s) : Traffic a s.failRunning := .other h rfl rfl rfl

theorem Traffic.stopChan {ch : Nat} (h : Traffic a s) : Traffic a (s.stopChan ch) :=
  .ite h (.failRunning (.logEvent (.svEdge (.other h rfl rfl rfl))))

theorem Traffic.countUe {da ch : Nat} (h : Traffic a s) : Traffic a (s.countUe da ch) := by
  simp only [State.countUe]
  refine .ite (.stopChan ?logged) ?logged
  exact .ite (.logEvent (.svEdge (.other h rfl rfl rfl))) (.svEdge (.other h rfl rfl rfl))

theorem Traffic.countCe {ch n : Nat} (h : Traffic a s) : Traffic a (s.countCe ch n) :=
  .ite h (.ite (.logEvent (.other h rfl rfl rfl)) (.other h rfl rfl rfl))

theorem Traffic.readRow {ch r : Nat} (h : Traffic a s) : Traffic a (s.readRow ch r).2 := .countCe (.other h rfl rfl rfl)

theorem Traffic.moved {tag n : Nat} (h : Traffic a s) : Traffic a (s.moved tag n) := .other h rfl rfl rfl

theorem Traffic.readSlot {tag ch r slot : Nat} (h : Traffic a s) : Traffic a (s.readSlot tag ch r slot).2 := by
  have charged : Traffic a (s.moved tag ((s.chan ch).readBytes r slot)) := .moved h
  simp only [State.readSlot]
  split
  · exact .other charged rfl rfl rfl
  · exact .countUe (.other charged rfl rfl rfl)
  · exact .foldl (fun t _ => .countUe (.refl t)) (.readRow (.moved (.other charged rfl rfl rfl)))

theorem Traffic.flushRow {ch : Nat} (h : Traffic a s) : Traffic a (s.flushRow ch) := by
  simp only [State.flushRow]
  split
  · exact h
  · next b _ =>
    have emptied : Traffic a (s.setChan ch { s.chan ch with buf := none }) := .other h rfl rfl rfl
    have read := emptied.foldl (l := b.slots) (f := fun t j => (t.readSlot b.tag ch b.row j).2) (fun t _ => .readSlot (.refl t))
    exact .ite (.other emptied rfl rfl rfl) (.other read rfl rfl rfl)

theorem Traffic.flushFor {ch r : Nat} (h : Traffic a s) : Traffic a (s.flushFor ch r) := .ite (.flushRow h) h

theorem Traffic.touchRank {ch r : Nat} (h : Traffic a s) : Traffic a (s.touchRank ch r) := .other h rfl rfl rfl

theorem Traffic.readLine {tag line : Nat} (h : Traffic a s) : Traffic a (s.readLine tag line).2 := by
  simp only [State.readLine]
  split
  · exact .countUe (.other h rfl rfl rfl)
  · split
    · exact .countUe h
    · exact .readSlot (.touchRank (.flushFor h))

theorem Traffic.mergeLine {tag ch r slot : Nat} (h : Traffic a s) : Traffic a (s.mergeLine tag ch r slot) := by
  have other : Traffic a (if (s.chan ch).buf.any (fun b => b.row != r) then s.flushRow ch else s) := .ite (.flushRow h) h
  simp only [State.mergeLine]
  exact .ite (.flushRow (.other other rfl rfl rfl)) (.other other rfl rfl rfl)

theorem Traffic.writeLine {tag line : Nat} {d : List Byte} (h : Traffic a s) : Traffic a (s.writeLine tag line d) := by
  simp only [State.writeLine]
  generalize s.lineAddr (64 * line) = place
  obtain ⟨ch, r, slot⟩ := place
  have merged : Traffic a (((s.moved tag 64).touchRank ch (s.rankOf r)).mergeLine tag ch r slot) := .mergeLine (.touchRank (.moved h))
  split
  · exact .other h rfl rfl rfl
  · exact .ite h (.other merged rfl rfl rfl)

theorem Traffic.storeLine {tag da line : Nat} {d : List Byte} (h : Traffic a s) : Traffic a (s.storeLine tag da line d).2 := by
  simp only [State.storeLine]
  split
  · exact .writeLine h
  · split
    · exact .readLine h
    · exact .writeLine (.readLine h)

theorem Traffic.writeMem {tag da : Nat} {d : List Byte} (h : Traffic a s) : Traffic a (s.writeMem tag da d) :=
  .foldl (fun t _ => .storeLine (.refl t)) h

/-! ### The data cache -/

theorem Traffic.drainWb {c : Nat} (h : Traffic a s) : Traffic a (drainWb s c) := by
  simp only [Machine.drainWb]
  split
  · exact h
  · exact h.trans (.setCore (.writeLine (.refl s)) ⟨0, _, _, (Core.touched_zero _ _ _).symm⟩)

theorem Traffic.writeBack {c line : Nat} (h : Traffic a s) : Traffic a (writeBack s c line) := by
  have drained : Traffic a (Machine.drainWb s c) := .drainWb h
  simp only [Machine.writeBack]
  split
  · exact drained
  · split
    · exact drained
    · exact .ite ((Traffic.writeLine drained).trans (.setCore (.refl _) ⟨0, _, _, (Core.touched_zero _ _ _).symm⟩)) drained

theorem Traffic.writeBackAll {c : Nat} {mask : Byte} (h : Traffic a s) : Traffic a (writeBackAll s c mask) :=
  .foldl (fun t _ => .writeBack (.refl t)) (.drainWb h)

end Sys2Proof.Machine
end

section
/-! PROOFS. TAKE and DISPATCH (spec/04 R109, R114, R116): what a pairing is made of, and what it does to the core and the item paired. -/
namespace Sys2Proof.Machine

/-! ### TAKE -/

theorem SMap.find_filter_none {α : Type} {m : SMap α} {p : Nat × α → Bool} {i : Nat} (h : ∀ v, p (i, v) = false) : SMap.find (m.filter p) i = none := by
  induction m with
  | nil => rfl
  | cons e m ih =>
    obtain ⟨j, v⟩ := e
    by_cases same : j = i
    · subst same
      rw [List.filter_cons_of_neg (by simp [h])]
      exact ih
    · cases kept : p (j, v)
      · rw [List.filter_cons_of_neg (by simp [kept])]
        exact ih
      · rw [List.filter_cons_of_pos kept, SMap.find, if_neg same]
        exact ih

theorem wayKey_mod {w : Nat} (h : w < 8) (line : Nat) : wayKey line w % 8 = w := by
  unfold wayKey
  omega

/-- The core once its streamer ways are written back and invalidated (R214). -/
theorem core_flushStreamerWays (s : State) (c : Nat) :
    ∃ e, ∃ cache : SMap CLine, ∃ wbuf, (flushStreamerWays s c).core c =
      { (s.core c).touched e (cache.filter (fun x => !(s.core c).waysP.getLsbD (x.1 % 8))) wbuf with strm := none } := by
  obtain ⟨e, cache, wbuf, core⟩ := (Traffic.writeBackAll (c := c) (mask := (s.core c).waysP) (.refl s)).cores c
  refine ⟨e, cache, wbuf, ?_⟩
  simp only [flushStreamerWays, State.core_setCore, core]
  rfl

/-- TAKE where nothing stands in its way: the streamer ways are flushed and the core blocks (R114, R116, R214). -/
theorem exec_take {s : State} {c : Nat} (free : issues s c { regs := [16, 17, 18, 19, 20, 21, 22, 23], keeperOnly := true, notLoopEnd := true, drains := true } = true)
    (sweep : s.mc.sweep = false) :
    let u := flushStreamerWays (wakeCore s c) c
    exec (.take c) s = .next (u.setCore c { u.core c with act := .taking s.now, item := none, progress := s.now }) := by
  have awake : (wakeCore s c).mc.sweep = false := by
    unfold wakeCore
    split <;> exact sweep
  change execTake c s = _
  simp only [execTake, takeRegs, issue_next _ _ _ _ _ free, awake, Bool.false_eq_true, if_false, now_wakeCore]

/-! ### The pairing -/

/-- The first of the items in their order is one of them. -/
theorem firstItem_mem {l : List (Nat × Item)} {x : Nat × Item} (h : firstItem l = some x) : x ∈ l := by
  refine List.foldlRecOn (motive := fun (a : Option (Nat × Item)) => ∀ x, a = some x → x ∈ l) l _ (by simp) ?_ x h
  intro a held e he x hx
  cases a with
  | none => exact Option.some.inj hx ▸ he
  | some b =>
    simp only at hx
    split at hx
    · exact Option.some.inj hx ▸ he
    · exact held x hx

/-- Entries put one by one into a list, each between two parts of those before it, are all that the list holds. -/
theorem mem_of_mem_insertions {α : Type} {p : α → α → Bool} {l : List α} {x : α}
    (h : x ∈ l.foldl (fun (a : List α) e => a.filter (p e) ++ [e] ++ a.filter (fun y => !p e y)) []) : x ∈ l := by
  refine List.foldlRecOn (motive := fun (a : List α) => ∀ x ∈ a, x ∈ l) l _ (by simp) ?_ x h
  intro a held e he x hx
  simp only [List.mem_append, List.mem_filter, List.mem_singleton] at hx
  rcases hx with (⟨old, _⟩ | rfl) | ⟨old, _⟩
  · exact held x old
  · exact he
  · exact held x old

/-- A core that waits for an item is an in-service core, blocked in TAKE (R114). -/
theorem State.mem_waiters {s : State} {i c : Nat} (h : c ∈ s.waiters i) : c ∈ s.liveCores i ∧ ∃ since, (s.core c).act = .taking since := by
  obtain ⟨x, sorted, rfl⟩ := List.mem_map.mp h
  have waits := mem_of_mem_insertions sorted
  obtain ⟨d, live, e⟩ := List.mem_filterMap.mp waits
  split at e
  · next since act =>
    obtain rfl := Option.some.inj e
    exact ⟨live, since, act⟩
  · exact absurd e (by simp)

theorem State.mem_offers {s : State} {i : Nat} {x : Nat × Item} (h : x ∈ s.offers i) : x ∈ s.hg.items ∧ x.2.inst = i := by
  unfold State.offers at h
  split at h
  · exact absurd h List.not_mem_nil
  · obtain ⟨mem, fits⟩ := List.mem_filter.mp h
    simp only [Bool.and_eq_true, beq_iff_eq] at fits
    exact ⟨mem, fits.1⟩

theorem State.ready_of_free? {s : State} {t : Item} {c : Nat} (h : s.free? t c = true) : t.ready = true := by
  simp only [State.free?, Bool.and_eq_true] at h
  exact h.1.1.1

/-- A pairing is of a core blocked in TAKE and an item offered to it that it may run (R114). -/
theorem State.pairing_some {s : State} {i c slot : Nat} {it : Item} (h : s.pairing i = some (c, slot, it)) :
    c ∈ s.waiters i ∧ (slot, it) ∈ s.offers i ∧ s.free? it c = true := by
  obtain ⟨d, waits, found⟩ := List.exists_of_findSome?_eq_some h
  simp only at found
  split at found
  · exact absurd found (by simp)
  · obtain ⟨x, first, e⟩ := Option.map_eq_some_iff.mp found
    have mem := firstItem_mem first
    simp only [Prod.mk.injEq] at e
    obtain ⟨rfl, rfl, rfl⟩ := e
    obtain ⟨offered, fits⟩ := List.mem_filter.mp (List.mem_filter.mp mem).1
    exact ⟨waits, offered, fits⟩

/-! ### The descriptor -/

theorem Core.rd_congr {k l : Core} (h : k.g = l.g) (r : GReg) : k.rd r = l.rd r := by
  simp only [Core.rd, h]

theorem Core.rd_wr_same {k : Core} {r : GReg} (h : r ≠ 0) (v : W64) : (k.wr r v).rd r = v := by
  rw [Core.wr, if_neg h, Core.rd, if_neg h]
  exact Vector.getElem_set_self _

theorem Core.rd_wr_ne {k : Core} {r q : GReg} (h : q ≠ r) (v : W64) : (k.wr r v).rd q = k.rd q := by
  have apart : r.toNat ≠ q.toNat := fun e => h (BitVec.eq_of_toNat_eq e.symm)
  unfold Core.wr Core.rd
  split
  · rfl
  · split
    · rfl
    · exact Vector.getElem_set_ne r.isLt q.isLt apart

/-- A core with words in its registers from g(16 + n) on. -/
def Core.load (k : Core) (words : List W64) (n : Nat) : Core :=
  (words.zipIdx n).foldl (fun (v : Core) (e : W64 × Nat) => v.wr (BitVec.ofNat 5 (16 + e.2)) e.1) k

theorem Core.load_cons (k : Core) (x : W64) (words : List W64) (n : Nat) :
    k.load (x :: words) n = (k.wr (BitVec.ofNat 5 (16 + n)) x).load words (n + 1) := rfl

theorem Core.rd_load_below {words : List W64} {k : Core} {n : Nat} {q : GReg} (room : n + words.length ≤ 16) (below : q.toNat < 16 + n) :
    (k.load words n).rd q = k.rd q := by
  induction words generalizing k n with
  | nil => rfl
  | cons x words ih =>
    simp only [List.length_cons] at room
    rw [Core.load_cons, ih (by omega) (by omega), Core.rd_wr_ne]
    rintro rfl
    simp only [BitVec.toNat_ofNat] at below
    omega

theorem Core.rd_load {words : List W64} {k : Core} {n j : Nat} (room : n + words.length ≤ 16) (h : j < words.length) :
    (k.load words n).rd (BitVec.ofNat 5 (16 + n + j)) = words[j] := by
  induction words generalizing k n j with
  | nil => exact absurd h (Nat.not_lt_zero j)
  | cons x words ih =>
    simp only [List.length_cons] at room h
    rw [Core.load_cons]
    cases j with
    | zero =>
      rw [Core.rd_load_below (by omega) (by simp only [BitVec.toNat_ofNat]; omega), Nat.add_zero, Core.rd_wr_same]
      · rfl
      · exact BitVec.toNat_ne.mpr (by simp only [BitVec.toNat_ofNat, BitVec.ofNat_eq_ofNat]; omega)
    | succ j =>
      rw [show 16 + n + (j + 1) = 16 + (n + 1) + j by omega, ih (by omega) (by omega)]
      rfl

/-- The core of a pairing (R114, R116): past its TAKE, with the descriptor in its registers. -/
theorem State.core_pair (s : State) (i c slot : Nat) (t : Item) :
    (s.pair i c slot t).core c = { (s.core c).load (t.words slot t.nextRun) 0 with
      act := .running, pc := (s.core c).pc + 4, item := some (slot, t.nextRun), progress := s.now } :=
  State.core_setCore (s.setItem slot _) c _

/-- The descriptor stands in g16 to g23 (R109). -/
theorem State.rd_pair (s : State) (i c slot : Nat) (t : Item) {j : Nat} (h : j < (t.words slot t.nextRun).length) :
    ((s.pair i c slot t).core c).rd (BitVec.ofNat 5 (16 + j)) = (t.words slot t.nextRun)[j] := by
  have loaded : ((s.pair i c slot t).core c).g = ((s.core c).load (t.words slot t.nextRun) 0).g := by
    rw [State.core_pair]
  rw [Core.rd_congr loaded]
  exact Core.rd_load (n := 0) (by simp [Item.words]) h

theorem State.core_pair_ne {s : State} {i c slot d : Nat} {t : Item} (h : d ≠ c) : (s.pair i c slot t).core d = s.core d :=
  State.core_setCore_ne (s.setItem slot _) c d _ h

theorem State.disp_pair (s : State) (i c slot : Nat) (t : Item) : ((s.pair i c slot t).stat i).disp = (s.stat i).disp + 1 :=
  congrArg HgStat.disp (State.stat_setStat _ i _)

/-- The first pairing, instances in turn from the one after the last paired (R114). -/
def State.firstPairing (s : State) : Option (Nat × Nat × Nat × Item) :=
  let start := match s.hg.lastInst with
    | some l => l + 1
    | none => 0
  ((List.range s.hi.n).map (fun k => (start + k) % s.hi.n)).findSome? (fun i => (s.pairing i).map (fun p => (i, p)))

theorem State.pairing_of_firstPairing {s : State} {i : Nat} {p : Nat × Nat × Item} (h : s.firstPairing = some (i, p)) : s.pairing i = some p := by
  obtain ⟨j, _, e⟩ := List.exists_of_findSome?_eq_some h
  obtain ⟨_, paired, same⟩ := Option.map_eq_some_iff.mp e
  obtain ⟨rfl, rfl⟩ := Prod.mk.inj same
  exact paired

/-- Where no ingest item waits for a slot, DISPATCH is its pairing. -/
theorem exec_dispatch {s : State} (up : s.engineUp = true) (still : ∀ i, i < s.hi.n → s.pumpIngest i = s) :
    exec .dispatch s = .next (match s.firstPairing with
      | none => s
      | some (i, c, slot, t) => s.pair i c slot t) := by
  have pumped : s.instList.foldl (fun (t : State) (i : Nat) => t.pumpIngest i) s = s :=
    List.foldlRecOn (motive := fun t => t = s) _ _ rfl (fun t same i hi => by rw [same, still i (List.mem_range.mp hi)])
  change execDispatch s = _
  simp only [execDispatch, up, if_true, dispatchOne, pumped]
  rfl

end Sys2Proof.Machine

section
open Sys2Proof Sys2Proof.Machine

/-- Settles O27: what a pairing is made of, and what `State.pair` does to its core. -/
theorem takeAndDispatch : Obligations.TakeAndDispatch := by
  unfold Obligations.TakeAndDispatch
  refine ⟨?take, ?dispatch⟩
  case take =>
    intro s c free sweep
    obtain ⟨e, cache, wbuf, core⟩ := core_flushStreamerWays (wakeCore s c) c
    rw [core_wakeCore] at core
    refine ⟨_, exec_take free sweep, ?_⟩
    rw [State.core_setCore, core]
    refine ⟨rfl, rfl, rfl, rfl, fun line w way priv => SMap.find_filter_none (fun _ => ?_)⟩
    simp [wayKey_mod way, priv]
  case dispatch =>
    intro s up still start turn first
    have e := exec_dispatch up still
    refine ⟨fun unpaired => ?_, fun i c slot it found => ?_⟩
    · rw [show s.firstPairing = _ from unpaired] at e
      exact e
    · rw [show s.firstPairing = _ from found] at e
      obtain ⟨waits, offered, fits⟩ := State.pairing_some (State.pairing_of_firstPairing found)
      obtain ⟨live, taking⟩ := State.mem_waiters waits
      obtain ⟨queued, inst⟩ := State.mem_offers offered
      have word := fun j (h : j < 8) => State.rd_pair s i c slot it (j := j) h
      have core := State.core_pair s i c slot it
      exact ⟨_, e, queued, inst, State.ready_of_free? fits, (List.mem_filter.mp live).1, taking, by rw [core], by rw [core], by rw [core],
        word 0 (by decide), word 1 (by decide), word 2 (by decide), word 3 (by decide), word 4 (by decide), word 5 (by decide), word 6 (by decide),
        word 7 (by decide), State.disp_pair s i c slot it, fun d other => State.core_pair_ne other, rfl, rfl⟩

end
end

section
/-! PROOFS. Core faults, the requeue of a faulted run and HG_CTL.STATCLR (spec/04 R121 to R126, R128, spec/14 R392). -/
namespace Sys2Proof.Machine

/-! ### What a run has staged -/

@[simp] theorem Item.run_setRun (t : Item) (twin : Bool) (r : Run) : (t.setRun twin r).run twin = r := by
  cases twin <;> rfl

/-- An item one of whose runs has faulted: the run waits to start again on its lease, with nothing staged (R121). -/
def Item.faulted (t : Item) (twin : Bool) : Item := ({ t with draining := t.draining ++ [twin] }).setRun twin (Run.fresh (t.run twin).lease)

theorem Item.draining_faulted (t : Item) (twin : Bool) : (t.faulted twin).draining = t.draining ++ [twin] := by
  cases twin <;> rfl

theorem Item.run_faulted (t : Item) (twin : Bool) : (t.faulted twin).run twin = Run.fresh (t.run twin).lease := Item.run_setRun _ _ _

theorem State.unstage_eq (s : State) (posts : List Post) : ∃ flumes, s.unstage posts = { s with hg := { s.hg with flumes := flumes } } := by
  refine List.foldlRecOn (motive := fun (t : State) => ∃ flumes, t = { s with hg := { s.hg with flumes := flumes } }) posts _ ⟨s.hg.flumes, rfl⟩ ?_
  rintro _ ⟨flumes, rfl⟩ p _
  dsimp only
  split
  · exact ⟨_, rfl⟩
  · exact ⟨flumes, rfl⟩

theorem Traffic.putParcel {a s : State} {i cluster off : Nat} {p : Parcel} {bs : List Byte} (h : Traffic a s) : Traffic a (s.putParcel i cluster p off bs) :=
  .ite (.writeMem h) (.other h rfl rfl rfl)

/-- Parcels that close change the query's record of them, and working memory where they are spilled (R92, R93). -/
theorem State.traffic_closeParcels (s : State) (ctx slot st : Nat) :
    ∃ queries, Traffic { s with hg := { s.hg with queries := queries } } (s.closeParcels ctx slot st) := by
  simp only [State.closeParcels]
  split
  · exact ⟨s.hg.queries, .refl s⟩
  · exact ⟨_, .foldl (fun t _ => .putParcel (.refl t)) (.refl _)⟩

/-- What discarding a run's staged work does (R121 step 2) to its item and to the cores: these have no more than memory traffic. -/
structure Dropped (s : State) (slot : Nat) (it : Item) (twin : Bool) (t : State) : Prop where
  item : t.item? slot = some (it.faulted twin)
  oos : t.hg.oos = s.hg.oos
  count : t.hi.n = s.hi.n
  cores : ∀ c, ∃ e cache wbuf, t.core c = (s.core c).touched e cache wbuf

theorem dropped_dropStaged (s : State) (slot : Nat) (it : Item) (twin : Bool) : Dropped s slot it twin (s.dropStaged slot it twin) := by
  let u := s.dropJobs (fun b => b.slot == some slot && b.twin == twin)
  obtain ⟨queries, voided⟩ := u.traffic_closeParcels it.ctx slot 2
  obtain ⟨flumes, unstaged⟩ := State.unstage_eq (u.voidParcels it.ctx slot) (it.run twin).posts
  have oos := congrArg Hg.oos voided.hg
  simp only [State.dropStaged]
  rw [show State.unstage _ _ = _ from unstaged]
  exact ⟨State.item_setItem _ _ _, oos, voided.count, voided.cores⟩

/-- A run that may be replayed is discarded from its core (R121 steps 1 and 2). -/
theorem State.faultRun_replayable {s : State} {c slot : Nat} {twin : Bool} {it : Item} {q : Query} (run : (s.core c).item = some (slot, twin))
    (item : s.item? slot = some it) (query : s.query? it.ctx = some q) (status : q.status = none) (few : it.replays + it.draining.length < 2)
    (replayable : it.replayable = true) : s.faultRun c = (s.setCore c { s.core c with item := none }).dropStaged slot it twin := by
  have item : (s.setCore c { s.core c with item := none }).item? slot = some it := item
  have query : (s.setCore c { s.core c with item := none }).query? it.ctx = some q := query
  simp [State.faultRun, run, item, query, status, Nat.not_le.mpr few, replayable]

/-! ### The fault -/

/-- A core taken out of service and halted, with its HGFAULT edge and its event (R121, R189, R405). -/
def State.takenOut (s : State) (c : Nat) : State :=
  let u := { s with hg := { s.hg with oos := c :: s.hg.oos } }
  ((u.setCore c (u.core c).halt).svEdge 3).logEvent 0x01 ((instOfCore s.hi.n c).getD 0xFF) 1 c

theorem State.traffic_takenOut (s : State) (c : Nat) :
    Traffic ({ s with hg := { s.hg with oos := c :: s.hg.oos } }.setCore c (s.core c).halt) (s.takenOut c) :=
  .logEvent (.svEdge (.refl _))

theorem State.core_takenOut {s : State} {c : Nat} (query : c < 96) : (s.takenOut c).core c = (s.core c).halt := by
  rw [State.takenOut, State.core_logEvent_query _ _ _ _ _ query, State.core_svEdge_query _ _ query, State.core_setCore]
  rfl

/-- The supervisor has the HGFAULT edge (R207). -/
theorem State.pend_takenOut (s : State) (c : Nat) : ((s.takenOut c).core 96).ic.pend.getLsbD 3 = true := by
  rw [State.takenOut, State.pend_logEvent, State.pend_svEdge]
  simp

theorem Core.pend_touched {k : Core} {src : Nat} (h : k.ic.pend.getLsbD src = true) (e : W64) (cache : SMap CLine) (wbuf : Option CLine) :
    (k.touched e cache wbuf).ic.pend.getLsbD src = true := by
  simp [Core.touched, h]

theorem State.mem_liveCores_of_ne {s t : State} {c d i : Nat} (oos : t.hg.oos = c :: s.hg.oos) (count : t.hi.n = s.hi.n) (live : d ∈ s.liveCores i)
    (other : d ≠ c) : d ∈ t.liveCores i := by
  obtain ⟨mem, service⟩ := List.mem_filter.mp live
  refine List.mem_filter.mpr ⟨count ▸ mem, ?_⟩
  simpa [oos, other] using service

theorem State.mem_liveClusters {s : State} {d i : Nat} (live : d ∈ s.liveCores i)
    (has : (clustersOf s.hi.n i).any (fun e => e.1 == clusterOf d) = true) : clusterOf d ∈ s.liveClusters i := by
  obtain ⟨e, mem, same⟩ := List.any_eq_true.mp has
  refine List.mem_filter.mpr ⟨List.mem_map.mpr ⟨e, mem, beq_iff_eq.mp same⟩, List.any_eq_true.mpr ⟨d, live, by simp⟩⟩

/-- While another core of the cluster is in service, a fault is no more than the end of the core's service and of its run (R122, R123). -/
theorem State.coreFault_eq {s : State} {c d i : Nat} (service : s.hg.oos.contains c = false) (inst : instOfCore s.hi.n c = some i)
    (live : d ∈ ((s.takenOut c).faultRun c).liveCores i) (cluster : clusterOf c ∈ ((s.takenOut c).faultRun c).liveClusters i) :
    s.coreFault c = (s.takenOut c).faultRun c := by
  simp only [State.takenOut, inst, Option.getD_some] at live cluster ⊢
  simp only [State.coreFault, service, inst, Option.getD_some, Bool.false_eq_true, if_false]
  rw [if_neg (fun empty => List.ne_nil_of_mem live (List.isEmpty_iff.mp empty)), if_pos (List.contains_iff_mem.mpr cluster)]

/-- What a core fault does to the core, the supervisor and the run that the core was on (R121). -/
structure Faulted (s : State) (c slot : Nat) (it : Item) (twin : Bool) (t : State) : Prop where
  oos : t.hg.oos = c :: s.hg.oos
  act : (t.core c).act = .halted
  left : (t.core c).item = none
  told : (t.core 96).ic.pend.getLsbD 3 = true
  item : t.item? slot = some (it.faulted twin)

/-- A fault of a core whose cluster keeps another, on a run that may be replayed (R121, R126). -/
theorem faulted_coreFault {s : State} {c d i slot : Nat} {twin : Bool} {it : Item} {q : Query} (core : c < 96) (service : s.hg.oos.contains c = false)
    (inst : instOfCore s.hi.n c = some i) (live : d ∈ s.liveCores i) (other : d ≠ c) (same : clusterOf d = clusterOf c)
    (has : (clustersOf s.hi.n i).any (fun e => e.1 == clusterOf c) = true) (run : (s.core c).item = some (slot, twin)) (item : s.item? slot = some it)
    (query : s.query? it.ctx = some q) (status : q.status = none) (few : it.replays + it.draining.length < 2) (replayable : it.replayable = true) :
    Faulted s c slot it twin (s.coreFault c) := by
  have out := s.traffic_takenOut c
  have halted : (s.takenOut c).core c = (s.core c).halt := State.core_takenOut core
  have hg : (s.takenOut c).hg = { s.hg with oos := c :: s.hg.oos } := out.hg
  have discarded : (s.takenOut c).faultRun c = _ := State.faultRun_replayable (by rw [halted]; exact run) (by rw [State.item?, hg]; exact item)
    (by rw [State.query?, hg]; exact query) status few replayable
  have dropped := dropped_dropStaged ((s.takenOut c).setCore c { (s.takenOut c).core c with item := none }) slot it twin
  rw [← discarded] at dropped
  have oos : ((s.takenOut c).faultRun c).hg.oos = c :: s.hg.oos := dropped.oos.trans (congrArg Hg.oos hg)
  have count : ((s.takenOut c).faultRun c).hi.n = s.hi.n := dropped.count.trans out.count
  have stays := State.mem_liveCores_of_ne oos count live other
  rw [State.coreFault_eq service inst stays (same ▸ State.mem_liveClusters stays (by rw [count, same]; exact has))]
  obtain ⟨_, _, _, own⟩ := dropped.cores c
  obtain ⟨_, _, _, supervisor⟩ := dropped.cores 96
  rw [State.core_setCore, halted] at own
  rw [State.core_setCore_ne _ _ _ _ (Nat.ne_of_gt core)] at supervisor
  exact ⟨oos, by rw [own]; rfl, by rw [own]; rfl, by rw [supervisor]; exact Core.pend_touched (s.pend_takenOut c) _ _ _, dropped.item⟩

theorem exec_coreFault {s : State} {c : Nat} (core : c < 96) (up : s.engineUp = true) : exec (.coreFault c) s = .next (s.coreFault c) := by
  change execCoreFault c s = _
  rw [execCoreFault, if_neg (Nat.not_le.mpr core), if_pos up]

/-- 4 µs without progress are a core fault (R392). -/
theorem exec_progressMonitorExpiry_due {s : State} {c : Nat} (core : c < 96) (up : s.engineUp = true) (act : (s.core c).act = .running)
    (sweep : s.mc.sweep = false) (due : (s.core c).progress + 4000 ≤ s.now) : exec (.progressMonitorExpiry c) s = .next (s.coreFault c) := by
  change execProgressMonitorExpiry c s = _
  rw [execProgressMonitorExpiry, if_neg (Nat.not_le.mpr core)]
  simp [up, act, sweep, due]

/-! ### The requeue -/

/-- The item as a requeue leaves it (R121 step 4): its first phase again, with the same words and the run's lease. -/
def Item.restarted (t : Item) (now order : Nat) (twin : Bool) (later : List Bool) : Item :=
  ({ t with flags := 0, mask := 0, phase := 0, waitall := false, replays := t.replays + 1, stamp := now, isParked := false, parked := none, replay := some order,
            draining := later } : Item).setRun twin (Run.fresh (t.run twin).lease)

theorem State.item_requeue (s : State) (slot : Nat) (t : Item) (twin : Bool) :
    (s.requeue slot t twin true).item? slot = some (t.restarted s.now s.hg.nextReplay twin (t.draining.filter (· != twin))) :=
  State.item_setItem _ _ _

theorem State.replay_requeue (s : State) (slot : Nat) (t : Item) (twin : Bool) :
    ((s.requeue slot t twin true).stat t.inst).replay = satInc (s.stat t.inst).replay :=
  congrArg HgStat.replay (State.stat_setStat (s.setItem slot _) t.inst _)

/-- A faulted run without jobs, of a query that has not failed, is requeued (R121 step 3). -/
theorem exec_replayRequeue {s : State} {slot : Nat} {twin : Bool} {later : List Bool} {it : Item} {q : Query} (bound : slot < 65536)
    (item : s.item? slot = some it) (draining : it.draining = twin :: later) (query : s.query? it.ctx = some q) (status : q.status = none)
    (idle : s.hasJobs slot = false) : exec (.replayRequeue slot) s = .next (s.requeue slot it twin true) := by
  change execReplayRequeue slot s = _
  rw [execReplayRequeue, if_neg (Nat.not_le.mpr bound)]
  simp [State.replay, item, draining, idle, query, status]

/-! ### STATCLR -/

theorem State.stat_statClear (s : State) (i : Nat) : (statClear s).stat i = { s.stat i with waitMax := 0, waitSum := 0, disp := 0 } := by
  simp only [State.stat, statClear, SMap.get, SMap.find_mapVals]
  cases SMap.find s.hg.stats i <;> rfl

end Sys2Proof.Machine

section
open Sys2Proof Sys2Proof.Machine

/-- Settles O32: both events are `State.coreFault`, of which `Faulted` says what it does; the requeue is `State.requeue`. -/
theorem faultsAndReplay : Obligations.FaultsAndReplay := by
  unfold Obligations.FaultsAndReplay
  refine ⟨?fault, ?requeue, ?clear⟩
  case fault =>
    intro s c d i slot twin it q core up service inst live other same has run item _ query status few replayable faults
    obtain ⟨oos, act, left, told, staged⟩ := faulted_coreFault core service inst live other same has run item query status few replayable
    have discarded : ∀ e, exec e s = .next (s.coreFault c) → faults e := fun e step =>
      ⟨_, _, step, oos, act, left, told, staged, it.draining_faulted twin, congrArg Run.posts (it.run_faulted twin),
        congrArg Run.signals (it.run_faulted twin), congrArg Run.state (it.run_faulted twin)⟩
    exact ⟨discarded _ (exec_coreFault core up), fun act sweep due => discarded _ (exec_progressMonitorExpiry_due core up act sweep due)⟩
  case requeue =>
    intro s slot twin later it q bound item draining _ query status idle
    have again := State.item_requeue s slot it twin
    rw [draining, List.filter_cons_of_neg (by simp)] at again
    exact ⟨_, exec_replayRequeue bound item draining query status idle, again, State.replay_requeue s slot it twin, rfl⟩
  case clear =>
    intro s up
    exact ⟨_, if_pos up, State.stat_statClear s⟩

end
end
